-- ==== Sys2Proof/Word.lean ====
section
/-! DEFINITION. The byte of the port frames (R190) and the fixed-size tables in which the blocks of Table 0.1 hold
their records: read, write, map and fill, total on every index. -/

namespace Sys2Proof

/-- One byte of a frame (R190). -/
abbrev Byte := BitVec 8

/-- The entry of a table at an index; `d` beyond its end. -/
def tget {α : Type} {n : Nat} (d : α) (v : Vector α n) (i : Nat) : α := v.toList.getD i d

/-- The table with one entry replaced; the table itself when the index is beyond its end. -/
def tset {α : Type} {n : Nat} (v : Vector α n) (i : Nat) (x : α) : Vector α n :=
  ⟨(v.toList.set i x).toArray, by simp⟩

/-- The table with every entry mapped. -/
def tmap {α β : Type} {n : Nat} (f : α → β) (v : Vector α n) : Vector β n :=
  ⟨(v.toList.map f).toArray, by simp⟩

/-- The table of `n` entries whose entry at `i` is `f i`. -/
def tgen {α : Type} (n : Nat) (f : Nat → α) : Vector α n :=
  ⟨((List.range n).map f).toArray, by simp⟩

end Sys2Proof
end

