-- ==== Sys2Proof/Syntax.lean ====
section
/-! DEFINITION. The commands: one constructor for each row of spec/opcode_table.json, with the row's arguments as
the numbers the port or the crib hardware delivers. -/

namespace Sys2Proof

/-- The three target ports (10.1): presetter, crib terminal, cell gateway. -/
inductive Port where
  | P
  | C
  | M
deriving DecidableEq, Repr

/-- What the page of a commit in flight holds when power loss or a reset interrupts it (R181): the store decides,
not the part, so the choice is an operand of the event (log 12). -/
inductive PageOutcome where
  | former
  | snapshot
  | mixed
deriving DecidableEq, Repr

/-- A command: a transaction on a port, a request as its owning block takes it, an event of the crib hardware, or
an internal event of the part. Arguments of requests are the numbers of the wire, before any check. -/
inductive Instr where
  /-- REQUEST_FRAME_END (R192): the bytes clocked in, and whether select rose part of the way through a byte. -/
  | requestFrameEnd (p : Port) (bytes : List Byte) (midByte : Bool)
  /-- REPLY_READ (R194): the number of whole bytes clocked in the transaction, its first byte 00h included. -/
  | replyRead (p : Port) (clocked : Nat)
  /-- MEASURE_OPEN (R27, R28). -/
  | measureOpen (asm : Nat)
  /-- READING (R30). -/
  | reading (z x : Nat)
  /-- SESSION_CLOSE (R32): the temperature in 0.1 °C, signed on the wire. -/
  | sessionClose (temp : Int)
  /-- SESSION_ABANDON (R34). -/
  | sessionAbandon
  /-- ZERO_OPEN (R52). -/
  | zeroOpen (set : Nat)
  /-- SPAN_OPEN (R55): set, master length, master diameter in µm. -/
  | spanOpen (set lm dm : Nat)
  /-- SELECT_REFERENCE (R61). -/
  | selectReference (set : Nat)
  /-- CERTIFY_REFERENCE (R59). -/
  | certifyReference (set : Nat)
  /-- UNLOCK_REFERENCE (R60). -/
  | unlockReference (set : Nat)
  /-- WRITE_CURVE (R62): nine values in ppm, signed on the wire. -/
  | writeCurve (values : List Int)
  /-- READ_REFERENCE (R64). -/
  | readReference (set : Nat)
  /-- READ_CURVE (R64). -/
  | readCurve
  /-- REGISTER (R96): family, nominal pairs (value, tolerance), life mode, life limit, warn percent. -/
  | register (asm : Nat) (family : Option Nat) (nomLength nomRadius : Option (Nat × Nat)) (mode limit warn : Nat)
  /-- RETIRE (R97). -/
  | retire (asm : Nat)
  /-- RETURN_FROM_REGRIND (R98). -/
  | returnFromRegrind (asm : Nat)
  /-- STOCK (R99). -/
  | stock (asm drawer : Nat)
  /-- WITHDRAW (R101). -/
  | withdraw (asm : Nat)
  /-- ISSUE (R103). -/
  | issue (asm cell pocket : Nat)
  /-- ISSUE_PICK (R105). -/
  | issuePick (cell pocket : Nat)
  /-- RETURN (R108): the condition as its enumerated byte, GOOD 0, DAMAGED 1. -/
  | returnTool (asm drawer condition : Nat)
  /-- CANCEL_DRAWER (R84). -/
  | cancelDrawer (drawer : Nat)
  /-- CLEAR_JAM (R83). -/
  | clearJam (drawer : Nat)
  /-- CLEAR_DRIVER (R82). -/
  | clearDriver
  /-- SET_LIFE (R144). -/
  | setLife (asm mode limit warn : Nat)
  /-- WRITE_CELL (R116): the seven profile fields in the order of Table 6.1. -/
  | writeCell (cell size unit form order : Nat) (datum : Int) (factor auto : Nat)
  /-- READ_DRAWER (R88). -/
  | readDrawer (drawer : Nat)
  /-- READ_PICKS (R128). -/
  | readPicks
  /-- RESTART (R187). -/
  | restart
  /-- LOCK (R10), permitted on P and C. -/
  | lock (p : Port) (asm : Nat)
  /-- UNLOCK (R11), permitted on P and C. -/
  | unlock (p : Port) (asm : Nat)
  /-- READ_RECORD (R18), permitted on P and C. -/
  | readRecord (p : Port) (asm : Nat)
  /-- HANDOFF (R150). -/
  | handoff (cell start size : Nat)
  /-- USAGE (R136). -/
  | usage (cell pocket seconds count : Nat)
  /-- REQUEST_TOOL (R123). -/
  | requestTool (cell pocket family : Nat)
  /-- WITHDRAW_REQUEST (R125). -/
  | withdrawRequest (cell pocket : Nat)
  /-- READ_CELL (R118). -/
  | readCell (cell : Nat)
  /-- READ_NOTICE (R198), permitted on every port. -/
  | readNotice (p : Port)
  /-- STATUS (R200), permitted on every port. -/
  | status (p : Port)
  /-- SET_PARAMETER (R196): parameter number and unsigned value. -/
  | setParameter (p : Port) (number value : Nat)
  /-- OPEN_SEEN (R69, R71): the open level of a drawer changes from closed to open. -/
  | openSeen (d : Fin 64)
  /-- CLOSE_SEEN (R69, R72): the open level of a drawer changes from open to closed. -/
  | closeSeen (d : Fin 64)
  /-- PRESENCE_LEVEL_CHANGE (R70): the presence level of a drawer becomes present or absent. -/
  | presenceLevelChange (d : Fin 64) (present : Bool)
  /-- PULSE_WIDTH_ELAPSED (R78). -/
  | pulseWidthElapsed
  /-- OVERCURRENT (R79): the overcurrent sense input is asserted. -/
  | overcurrent
  /-- WAIT_EXPIRY (R75). -/
  | waitExpiry (d : Fin 64)
  /-- OPEN_TIME_EXPIRY (R85). -/
  | openTimeExpiry (d : Fin 64)
  /-- LOCK_EXPIRY (R15). -/
  | lockExpiry (a : Fin 512)
  /-- DISCARD_EXPIRY (R169). -/
  | discardExpiry (i : Fin 4)
  /-- ENTRY_FORMATION (R163). -/
  | entryFormation
  /-- SLOT_BUILD_COMPLETION (R165). -/
  | slotBuildCompletion
  /-- READ_AHEAD_BUILD_COMPLETION (R172). -/
  | readAheadBuildCompletion
  /-- COMMIT_COMPLETION (R180). -/
  | commitCompletion
  /-- POWER_ON (R182). -/
  | powerOn
  /-- POWER_LOSS (R181): with what the store makes of the page of a commit in flight. -/
  | powerLoss (page : PageOutcome)
  /-- RESET_INPUT_ASSERTED (R182): with what the store makes of the page of a commit in flight. -/
  | resetInputAsserted (page : PageOutcome)
  /-- RESET_INPUT_RELEASED (R182). -/
  | resetInputReleased
  /-- LOAD_END (R184, R186). -/
  | loadEnd
  /-- MNT_INPUT_CHANGE (R60): the new level, high or low. -/
  | mntInputChange (high : Bool)
  /-- OVERCURRENT_SENSE_RELEASED (R79): the overcurrent sense input falls. -/
  | overcurrentSenseReleased
deriving DecidableEq, Repr

end Sys2Proof
end

