-- ==== Sys2Proof/Decode.lean ====
section
/-! DEFINITION. The command that a word spells by the bits of spec/opcode_table.json. No row of that table has any
bits, so no word spells a command; the spec's own encoding of the requests, the frames of R190 with the kind codes of
Table 10.3, is read by `Sys2Proof.Machine.parseFrame` (Machine/Frames.lean). -/

namespace Sys2Proof

/-- No row of the table gives bits: every word spells no command. -/
def decodeTableWord (_nbits _w : Nat) : Option Instr := none

end Sys2Proof
end

