-- ==== Sys2Proof/Machine/State.lean ====
section
/-! DEFINITION. The state of the part, block by block as Table 0.1 lists the blocks, the replies and notices the
ports hold, and the state right after power-on. INVENTORY.md lists every field with its rule and reset value. -/

namespace Sys2Proof.Machine

open Sys2Proof

/-! ### Assembly Table (Section 1) -/

/-- The ten assembly states, in the order of Table 1.3. -/
inductive AsmState where
  | vacant
  | unmeasured
  | measuring
  | ready
  | quarantined
  | issuing
  | issued
  | exhausted
  | regrind
  | lost
deriving DecidableEq, Repr

/-- The prior state of a MEASURING record (R7). -/
inductive PriorState where
  | unmeasured
  | quarantined
  | ready
deriving DecidableEq, Repr

/-- Geometry in tenths (R6). -/
structure Geometry where
  length : Nat
  radius : Nat
deriving DecidableEq, Repr

/-- The measurement facts (R3). -/
structure Facts where
  refSet : Nat
  current : Bool
  temp : Nat
  used : Nat
  rejected : Nat
  tempClamped : Bool
deriving DecidableEq, Repr

/-- Why a measurement failed (R4). -/
inductive FailReason where
  | tooFew
  | underrange
  | overrange
  | outOfTolerance
deriving DecidableEq, Repr

/-- The rejected measurement (R4). -/
structure Rejected where
  reason : FailReason
  length : Option Nat
  radius : Option Nat
  valueHeld : Bool
deriving DecidableEq, Repr

/-- What the LCU counts for an assembly (R134). -/
inductive LifeMode where
  | none
  | count
  | time
deriving DecidableEq, Repr

/-- One assembly record (Table 1.1). The assembly number is its index. The idle timer stands at 0 while no port
holds the lock. -/
structure AsmRecord where
  state : AsmState
  prior : Option PriorState
  family : Option Nat
  nomLength : Option (Nat × Nat)
  nomRadius : Option (Nat × Nat)
  geometry : Option Geometry
  facts : Option Facts
  rejected : Option Rejected
  mode : LifeMode
  limit : Nat
  warn : Nat
  staged : Option (Nat × Nat)
  used : Nat
  committed : Nat
  warned : Bool
  stock : Option Nat
  binding : Option (Nat × Nat)
  holder : Option Port
  idle : Nat
deriving DecidableEq, Repr

/-- The content of a blank record in a given state (R23): VACANT from a blank page, LOST from a failed one. -/
def blankRecord (st : AsmState) : AsmRecord where
  state := st
  prior := .none
  family := .none
  nomLength := .none
  nomRadius := .none
  geometry := .none
  facts := .none
  rejected := .none
  mode := .none
  limit := 1
  warn := 80
  staged := .none
  used := 0
  committed := 0
  warned := false
  stock := .none
  binding := .none
  holder := .none
  idle := 0

/-! ### Offset Computation Unit (Section 2) -/

/-- What an open session is and on what (R25). -/
inductive SessionKind where
  | measure (asm set : Nat)
  | zero (set : Nat)
  | span (set lm dm : Nat)
deriving DecidableEq, Repr

/-- The open session with its reading list, oldest pair first (R25, R31). -/
structure Session where
  kind : SessionKind
  readings : List (Nat × Nat)
deriving DecidableEq, Repr

/-! ### Reference Store (Section 3) -/

/-- A reference set with the fields its state holds (Tables 3.1 and 3.2): zeros Z0L and Z0R, scales SL and SR, masters
Lm and Dm. -/
inductive RefSet where
  | blank
  | zeroed (z0l z0r : Nat)
  | spanned (z0l z0r sl sr lm dm : Nat) (certified : Bool)
  | invalid
deriving DecidableEq, Repr

/-- Nine curve values in ppm (R43, R62). -/
abbrev Curve := Vector Int 9

/-- The Reference Store (R50, R51, R62). -/
structure RefStore where
  sets : Vector RefSet 4
  curve : Curve
  staged : Option Curve
  active : Option Nat
deriving DecidableEq, Repr

/-! ### Drawer Controller (Section 4) -/

/-- The drawer states, in the order of Table 4.1. -/
inductive DrawerState where
  | closed
  | queued
  | pulsing
  | retryWait
  | backoff
  | opened
  | jammed
deriving DecidableEq, Repr

/-- One drawer record (Table 4.1). The drawer number is its index. The wait timer stands at 0 outside RETRY_WAIT and
BACKOFF, the open timer outside OPEN. -/
structure Drawer where
  state : DrawerState
  stock : Option Nat
  mismatch : Bool
  attempts : Nat
  openReported : Bool
  waitTimer : Nat
  waitTime : Nat
  openTimer : Nat
  levelOpen : Bool
  present : Bool
deriving DecidableEq, Repr

/-- A drawer at rest with no stock, its switches at the given levels. -/
def restDrawer (levelOpen present : Bool) : Drawer where
  state := .closed
  stock := none
  mismatch := false
  attempts := 0
  openReported := false
  waitTimer := 0
  waitTime := 0
  openTimer := 0
  levelOpen := levelOpen
  present := present

/-- The release driver (R74, R76): BUSY while a drawer is pulsing, IDLE otherwise. -/
structure Driver where
  pulsing : Option Nat
  fault : Bool
  overcurrents : Nat
  pulseTimer : Nat
  pulseWidth : Nat
  bus : Nat
deriving DecidableEq, Repr

/-- The Drawer Controller: drawer records, release queue (head first) and driver (R67, R74). -/
structure DrawerCtl where
  drawers : Vector Drawer 64
  queue : List Nat
  driver : Driver
deriving DecidableEq, Repr

/-! ### Crib Operation Controller (Section 5) -/

/-- The condition of a returned assembly (R108). -/
inductive Condition where
  | good
  | damaged
deriving DecidableEq, Repr

/-- The kind of an operation with the fields that only its kind has (Table 5.1). -/
inductive OpKind where
  | stock
  | withdraw
  | issue (cell pocket : Nat) (pickLink picked : Bool)
  | giveBack (condition : Condition)
deriving DecidableEq, Repr

/-- One operation record (Table 5.1). The released mark is absent before the drawer opens (R93). -/
structure Operation where
  kind : OpKind
  asm : Nat
  released : Option Bool
deriving DecidableEq, Repr

/-- How an operation ended (Table 5.2). -/
inductive OpOutcome where
  | completed
  | abandoned
  | cancelled
  | jammed
  | driverFault
deriving DecidableEq, Repr

/-! ### Cell Table (Section 6) -/

/-- The unit of a cell's handoff values (Table 6.1). -/
inductive CellUnit where
  | micron
  | tenth
  | inchE5
deriving DecidableEq, Repr

/-- Whether a cell takes radii or diameters (Table 6.1). -/
inductive RadiusForm where
  | radius
  | diameter
deriving DecidableEq, Repr

/-- The byte order of a cell's handoff entries (Table 6.1). -/
inductive ByteOrder where
  | little
  | big
deriving DecidableEq, Repr

/-- A cell profile (Table 6.1). -/
structure Profile where
  size : Nat
  unit : CellUnit
  form : RadiusForm
  order : ByteOrder
  datum : Int
  factor : Nat
  autoRequest : Bool
deriving DecidableEq, Repr

/-- The default profile of Table 6.1. -/
def defaultProfile : Profile where
  size := 0
  unit := .micron
  form := .radius
  order := .little
  datum := 0
  factor := 8
  autoRequest := false

/-- A pocket map entry (R119). -/
inductive Pocket where
  | empty
  | reserved (asm : Nat)
  | bound (asm : Nat)
deriving DecidableEq, Repr

/-- A cell record: profile and pocket map (R115). -/
structure Cell where
  profile : Profile
  pockets : Vector Pocket 128
deriving DecidableEq, Repr

/-- Who raised a pick entry (R122). -/
inductive Origin where
  | machine
  | auto
deriving DecidableEq, Repr

/-- The state of a pick entry (Table 6.2). -/
inductive PickState where
  | waitEmpty
  | waiting
  | inIssue
deriving DecidableEq, Repr

/-- A pick entry (R122). -/
structure Pick where
  cell : Nat
  pocket : Nat
  family : Nat
  origin : Origin
  state : PickState
deriving DecidableEq, Repr

/-- The Cell Table: cell records and the pick list, head first (R115, R122). -/
structure CellTable where
  cells : Vector Cell 16
  picks : List Pick
deriving DecidableEq, Repr

/-! ### Handoff Builder (Section 8) -/

/-- The identity of a handoff request: cell, decoded start, decoded size (R151). -/
structure Ident where
  cell : Nat
  start : Nat
  size : Nat
deriving DecidableEq, Repr

/-- The status of a handoff entry, in the order of Table 10.8. -/
inductive EntryStatus where
  | absentPocket
  | empty
  | reserved
  | ok
  | exhausted
  | suspect
  | unsettled
deriving DecidableEq, Repr

/-- A handoff entry (Table 8.3): absent fields are `none`. -/
structure Entry where
  status : EntryStatus
  asm : Option Nat
  length : Option Int
  radius : Option Int
  life : Option Nat
  sister : Option Nat
  clamped : Bool
deriving DecidableEq, Repr

/-- A built block (R152): its span, the unit, radius form and byte order read at its start, and its entries in
ascending pocket order. The header's rebuild count is the slot's and joins it at delivery. -/
structure Block where
  ident : Ident
  unit : CellUnit
  form : RadiusForm
  order : ByteOrder
  entries : List Entry
deriving DecidableEq, Repr

/-- What a BUILDING or COMPLETE slot holds: identity, rebuild count, one mark for each pocket of the span, in ascending
pocket order (Table 8.5). -/
structure Held where
  ident : Ident
  rebuilds : Nat
  marks : List Bool
deriving DecidableEq, Repr

/-- A deferral slot (Table 8.5). -/
inductive Slot where
  | free
  | building (h : Held)
  | complete (h : Held) (block : Block) (timer : Nat)
deriving DecidableEq, Repr

/-- A read-ahead buffer (Table 8.7); its disturbance mark is set exactly in INVALID. -/
inductive Buffer where
  | empty
  | pending (ident : Ident)
  | valid (ident : Ident) (block : Block)
  | invalid (ident : Ident)
deriving DecidableEq, Repr

/-- What the builder forms a block for. -/
inductive Target where
  | slot (i : Nat)
  | readAhead (cell : Nat)
deriving DecidableEq, Repr

/-- The build the builder has taken (R163): target, what it read of the profile at its start, and the block with the
entries formed so far. -/
structure Build where
  target : Target
  datum : Int
  block : Block
deriving DecidableEq, Repr

/-- The Handoff Builder: slots, buffers, the two lists of the build queue, and the build being formed (R157, R162,
R170). -/
structure Handoff where
  slots : Vector Slot 4
  buffers : Vector Buffer 16
  slotBuilds : List Nat
  readAheads : List Nat
  builder : Option Build
deriving DecidableEq, Repr

/-! ### Record Store and parameters (Sections 9 and 10) -/

/-- The ten parameters, in the order of Table 10.5. -/
structure Params where
  spreadLimit : Nat
  minReadings : Nat
  pulseWidth : Nat
  quickRetryWait : Nat
  quickRetries : Nat
  backOff : Nat
  attemptLimit : Nat
  openLimit : Nat
  lockIdleLimit : Nat
  discardLimit : Nat
deriving DecidableEq, Repr

/-- The defaults of Table 10.5. -/
def defaultParams : Params := ⟨20, 3, 150, 300, 2, 10, 6, 60, 5000, 200⟩

/-- The persistent view of a record (Table 9.1). -/
inductive View where
  | asm (r : AsmRecord)
  | drawer (stock : Option Nat) (mismatch : Bool)
  | cell (p : Profile)
  | ref (r : RefSet)
  | curve (c : Curve) (active : Option Nat)
  | params (p : Params)
deriving DecidableEq, Repr

/-- A page (R176, R177): never written; a view, a key number and a 16-bit check value; or the content that an interrupted
commit leaves neither former nor new, of which the spec says only that it fails its check (log 12). -/
inductive Page where
  | blank
  | written (key : Nat) (view : View) (check : BitVec 16)
  | mixed
deriving DecidableEq, Repr

/-- The commit in flight (R179). -/
structure Commit where
  key : Nat
  snapshot : View
  redirty : Bool
deriving DecidableEq, Repr

/-- The Record Store: pages, commit queue (head first) and the commit in flight (R176, R178, R179). -/
structure Store where
  pages : Vector Page 598
  queue : List Nat
  flight : Option Commit
deriving DecidableEq, Repr

/-- Why a load began (Table 9.5). -/
inductive Cause where
  | powerOn
  | resetInput
  | restart
deriving DecidableEq, Repr

/-- Whether the part runs (Sections 9.5 and 9.6): normal operation, the drain of a RESTART, a load, the reset input
asserted, or no power. -/
inductive Phase where
  | running
  | drain
  | load (cause : Cause)
  | held
  | off
deriving DecidableEq, Repr

/-- The overcurrent sense input (R79): low; asserted and not yet taken by a pulse; asserted and spent on the pulse it
ended (log 13). -/
inductive Sense where
  | low
  | asserted
  | spent
deriving DecidableEq, Repr

/-- The input pins whose level the part holds: MNT, OCS, RSTN. -/
structure Pins where
  mnt : Bool
  sense : Sense
  resetAsserted : Bool
deriving DecidableEq, Repr

/-! ### Replies and notices (Section 10) -/

/-- The status codes of Table 10.4, in code order. -/
inductive Status where
  | ok
  | retry
  | loading
  | notReady
  | frameError
  | unknownKind
  | notPermitted
  | badArgument
  | wrongState
  | locked
  | busy
  | notFound
  | full
  | pocketOccupied
  | staleReference
  | certified
  | drawerFault
deriving DecidableEq, Repr

/-- The outcome of a session, in the order R36 numbers the values. -/
inductive SessionOutcome where
  | ready
  | quarantined
  | abandoned
  | aborted
  | calibrated
  | tooFew
  | calRange
deriving DecidableEq, Repr

/-- The kind of a session as replies and notices report it (R25). -/
inductive SessionTag where
  | measure
  | zero
  | span
deriving DecidableEq, Repr

/-- The fields of SESSION_DONE and of the reply to SESSION_CLOSE (R36, R57); an absent field is `none`. -/
structure SessionDone where
  kind : SessionTag
  subject : Nat
  outcome : SessionOutcome
  reason : Option FailReason
  length : Option Nat
  radius : Option Nat
  used : Nat
  rejected : Nat
  discarded : Option Nat
  temp : Option Nat
  tempClamped : Option Bool
deriving DecidableEq, Repr

/-- The fields of OP_DONE (Table 5.2): the operation as its record held it, the outcome, the presence level at the
close, the assembly's state after the event with stocked or unstocked for READY and REGRIND, and the subject-moved mark
of a STOCK. -/
structure OpDone where
  drawer : Nat
  op : Operation
  outcome : OpOutcome
  presence : Option Bool
  asmState : AsmState
  stocked : Option Bool
  subjectMoved : Option Bool
deriving DecidableEq, Repr

/-- The fields of STARTED (Table 9.5): cause, the six counts of failed pages by kind of key, and the keys queued. -/
structure Started where
  cause : Cause
  asm : Nat
  drawer : Nat
  cell : Nat
  ref : Nat
  curve : Nat
  params : Nat
  keys : Nat
deriving DecidableEq, Repr

/-- The notices of Table 10.6, in code order. -/
inductive Notice where
  | lockExpired (asm : Nat)
  | sessionDone (d : SessionDone)
  | curveApplied (c : Curve)
  | drawerOpened (drawer attempts : Nat) (released : Bool)
  | drawerForced (drawer : Nat) (former : DrawerState) (stock : Option Nat)
  | drawerJammed (drawer attempts : Nat)
  | driverFault (drawer returned : Nat)
  | drawerLeftOpen (drawer : Nat) (operation : Bool)
  | stockMismatch (drawer : Nat) (stock : Option Nat) (present : Bool)
  | opDone (d : OpDone)
  | pocketChanged (cell pocket : Nat) (entry : Pocket)
  | pickDone (cell pocket family : Nat) (origin : Origin) (asm : Nat)
  | pickReady (cell pocket family : Nat) (origin : Origin)
  | pickAdded (cell pocket family : Nat) (origin : Origin) (state : PickState) (position : Nat)
  | pickRefused (cell pocket family asm : Nat)
  | pickWithdrawn (cell pocket family : Nat) (origin : Origin) (former : PickState)
  | lifeWarning (asm cell pocket units limit warn : Nat) (remaining : Option Nat)
  | lifeExhausted (asm cell pocket : Nat) (family : Option Nat) (units limit : Nat)
  | started (d : Started)
deriving DecidableEq, Repr

/-- The life fields a SET_LIFE reply carries (R145, R146). -/
structure LifeFields where
  mode : LifeMode
  limit : Nat
  warn : Nat
  staged : Option (Nat × Nat)
  used : Nat
  committed : Nat
  warned : Bool
deriving DecidableEq, Repr

/-- The bodies of the replies, each as the rule of its request gives it. -/
inductive Body where
  | empty
  /-- LOADING (R193): whether the phase is DRAIN (otherwise LOAD). -/
  | phase (drain : Bool)
  /-- MEASURE_OPEN (R28). -/
  | measureOpened (asm : Nat) (prior : PriorState) (set : Nat)
  /-- READING (R30). -/
  | readingCount (n : Nat)
  /-- SESSION_CLOSE (R37). -/
  | sessionDone (d : SessionDone)
  /-- ZERO_OPEN (R52). -/
  | zeroOpened (set : Nat) (content : RefSet)
  /-- SPAN_OPEN (R55). -/
  | spanOpened (set : Nat) (content : RefSet) (lm dm : Nat)
  /-- SELECT_REFERENCE (R61). -/
  | activeSet (set : Nat)
  /-- WRITE_CURVE (R62): APPLIED, otherwise STAGED. -/
  | curveWritten (applied : Bool)
  /-- READ_REFERENCE (R64). -/
  | reference (set : Nat) (content : RefSet) (active : Bool)
  /-- READ_CURVE (R64). -/
  | curve (c : Curve) (staged : Option Curve) (active : Option Nat)
  /-- REGISTER (R96). -/
  | assembly (asm : Nat)
  /-- An accepted operation (R92): kind with cell and pocket for an ISSUE, assembly, drawer, drawer state. -/
  | operation (kind : OpKind) (asm drawer : Nat) (state : DrawerState)
  /-- CLEAR_DRIVER (R82): the new condition. -/
  | driverCondition (fault : Bool)
  /-- SET_LIFE applied (R145): life fields after the event and life remaining. -/
  | lifeApplied (f : LifeFields) (remaining : Option Nat)
  /-- SET_LIFE staged (R146): staged values and live life fields. -/
  | lifeStaged (limit warn : Nat) (f : LifeFields)
  /-- WRITE_CELL (R117). -/
  | profile (p : Profile)
  /-- READ_DRAWER (R88): record, queue position, operation held. -/
  | drawer (d : Nat) (r : Drawer) (position : Option Nat) (op : Option Operation)
  /-- READ_PICKS (R128): each entry, with assembly and drawer of the linked ISSUE when IN_ISSUE. -/
  | picks (l : List (Pick × Option (Nat × Nat)))
  /-- RESTART accepted (R187): keys in the commit queue, and whether a commit is in flight. -/
  | restartAccepted (keys : Nat) (inFlight : Bool)
  /-- RESTART refused (R187): reason SESSION, or reason DRAWER with the lowest such drawer. -/
  | restartRefused (drawer : Option Nat)
  /-- LOCK (R10): assembly and holder. -/
  | lockHolder (asm : Nat) (holder : Port)
  /-- READ_RECORD (R18). -/
  | record (asm : Nat) (r : AsmRecord)
  /-- HANDOFF answered OK (R152, R201). -/
  | block (rebuilds : Nat) (b : Block)
  /-- HANDOFF answered RETRY (R151, R201): identity, slot, rebuild count, FORMING (otherwise WAITING). -/
  | retry (ident : Ident) (slot rebuilds : Nat) (forming : Bool)
  /-- HANDOFF answered BUSY (R151). -/
  | identity (ident : Ident)
  /-- USAGE (R137): assembly, state, used, used units, life remaining, warned mark, eighths added. -/
  | usage (asm : Nat) (state : AsmState) (used units : Nat) (remaining : Option Nat) (warned : Bool) (added : Nat)
  /-- REQUEST_TOOL (R123): cell, pocket, entry state, position. -/
  | pickEntry (cell pocket : Nat) (state : PickState) (position : Nat)
  /-- READ_CELL (R118): cell, profile, entries of the pockets in service, number of pick entries. -/
  | cell (c : Nat) (p : Profile) (pockets : List Pocket) (picks : Nat)
  /-- READ_NOTICE (R198): overflow mark and the notice removed. -/
  | notice (overflow : Bool) (n : Option Notice)
  /-- STATUS (R200): driver BUSY, driver FAULT, overcurrent count, session kind, release set, FREE slots, pick entries,
  keys in the commit queue, commit in flight, notice count, overflow mark. -/
  | status (busy fault : Bool) (overcurrents : Nat) (session : Option SessionTag) (releases free picks keys : Nat)
      (inFlight : Bool) (notices : Nat) (overflow : Bool)
  /-- SET_PARAMETER (R196). -/
  | parameter (number value : Nat)
deriving DecidableEq, Repr

/-- A reply as the reply buffer holds it (R190): status, CLAMPED mark, echoed tag, body. -/
structure Reply where
  status : Status
  clamped : Bool
  tag : Byte
  body : Body
deriving DecidableEq, Repr

/-- The request buffer and reply buffer of a port in one (Table 10.2): EMPTY; PENDING, with the request that has passed
the port checks and waits for its block, and its tag; or HELD with one reply. -/
inductive PortBuf where
  | empty
  | pending (tag : Byte) (request : Instr)
  | held (r : Reply)
deriving DecidableEq, Repr

/-- A port interface (R189, R194, R197): buffers, whether the held reply is the kept reply of an accepted RESTART
(R187), notice queue (oldest first), overflow mark, and the bytes that data out carried in the last transaction: FFh alone
from the fall of the reset input, which holds data out high, until a transaction. `draws` is the model's own field: the
replies that the buffer has held so far, by which the open bytes of each are drawn (log 8). -/
structure PortState where
  buf : PortBuf
  keep : Bool
  notices : List Notice
  overflow : Bool
  dataOut : List Byte
  draws : Nat
deriving DecidableEq, Repr

/-- A port with empty buffers and an empty queue. -/
def idlePort : PortState := ⟨.empty, false, [], false, [], 0⟩

/-- The three port interfaces. -/
structure Ports where
  p : PortState
  c : PortState
  m : PortState
deriving DecidableEq, Repr

/-! ### The machine -/

/-- The state of the part: its blocks (Table 0.1), parameters, phase and input pins, and the model's own field
`pending`, the waiting commands, front first. -/
structure State where
  atb : Vector AsmRecord 512
  ocu : Option Session
  rfs : RefStore
  drc : DrawerCtl
  coc : Vector (Option Operation) 64
  ctb : CellTable
  hob : Handoff
  rst : Store
  params : Params
  ports : Ports
  phase : Phase
  pins : Pins
  pending : List Instr
deriving DecidableEq, Repr

/-- No rule of the manual stops the part: there is no fault. Safe: the type has no value, so no statement rests on
one. -/
inductive Fault where
deriving DecidableEq, Repr

/-- Why a command is refused by the model. -/
inductive Refusal where
  /-- Raised by `exec` for a command with no meaning yet; no arm raises it. Safe: the model stops. -/
  | notModelled (mnemonic : String)
deriving DecidableEq, Repr

/-- The state right after power-on of a part whose store has never been written (R182, R177): the load has begun with
cause POWER_ON and every block stands as its section states for the load. Log 1 says how a program comes to run; log 2
names the input levels. -/
def State.reset : State where
  atb := tgen 512 fun _ => blankRecord .vacant
  ocu := none
  rfs := ⟨tgen 4 fun _ => .blank, tgen 9 fun _ => 0, none, none⟩
  drc := ⟨tgen 64 fun _ => restDrawer false false, [], ⟨none, false, 0, 0, 0, 0⟩⟩
  coc := tgen 64 fun _ => none
  ctb := ⟨tgen 16 fun _ => ⟨defaultProfile, tgen 128 fun _ => .empty⟩, []⟩
  hob := ⟨tgen 4 fun _ => .free, tgen 16 fun _ => .empty, [], [], none⟩
  rst := ⟨tgen 598 fun _ => .blank, [], none⟩
  params := defaultParams
  ports := ⟨idlePort, idlePort, idlePort⟩
  phase := .load .powerOn
  pins := ⟨false, .low, false⟩
  pending := []

end Sys2Proof.Machine
end

