-- ==== Sys2Proof/Machine/Operands.lean ====
section
/-! DEFINITION. How arguments and values are read: clamps and roundings of the conventions, enumerated bytes, record
keys, span decoding, permissions, and the record a request names. -/

namespace Sys2Proof.Machine

open Sys2Proof

/-! ### Arithmetic of the conventions (00_scope, Arithmetic and rounding) -/

/-- "Clamped to a..b" of a non-negative value. -/
def clampNat (lo hi v : Nat) : Nat := if v < lo then lo else if hi < v then hi else v

/-- "Clamped to a..b" of a signed value. -/
def clampInt (lo hi v : Int) : Int := if v < lo then lo else if hi < v then hi else v

/-- num / den rounded to nearest, halves up (toward the larger value). -/
def roundHalfUp (num : Int) (den : Nat) : Int := (2 * num + den) / (2 * den : Int)

/-- num / den rounded to nearest, halves away from zero. -/
def roundHalfAway (num : Int) (den : Nat) : Int :=
  if 0 ≤ num then (2 * num + den) / (2 * den : Int) else -((2 * -num + den) / (2 * den : Int))

/-- ⌈a / b⌉. -/
def ceilDiv (a b : Nat) : Nat := (a + b - 1) / b

/-- The distance of two counts. -/
def distNat (a b : Nat) : Nat := (a - b) + (b - a)

/-- Insertion into an ascending list. -/
def insertAsc (x : Nat) : List Nat → List Nat
  | [] => [x]
  | y :: ys => if x ≤ y then x :: y :: ys else y :: insertAsc x ys

/-- The counts sorted ascending (R40). -/
def sortAsc : List Nat → List Nat
  | [] => []
  | x :: xs => insertAsc x (sortAsc xs)

/-- The count at position ⌈n/2⌉ of the sorted counts, the first being position 1 (R40). -/
def median (l : List Nat) : Nat := (sortAsc l).getD ((l.length + 1) / 2 - 1) 0

/-- (Σ + ⌊m/2⌋) div m (R41). -/
def meanHalfUp (l : List Nat) : Nat := (l.sum + l.length / 2) / l.length

/-! ### Enumerated bytes (R190, log 9) -/

/-- Life mode: NONE 0, COUNT 1, TIME 2, the order of Table 1.1; the spec leaves open whether that order or the order COUNT,
TIME, NONE of R134 gives the numbers (log 9). -/
def lifeModeOf : Nat → Option LifeMode
  | 0 => some .none
  | 1 => some .count
  | 2 => some .time
  | _ => none

/-- Condition: GOOD 0, DAMAGED 1 (R108). -/
def conditionOf : Nat → Option Condition
  | 0 => some .good
  | 1 => some .damaged
  | _ => none

/-- Unit: MICRON 0, TENTH 1, INCH_E5 2 (Table 6.1, Table 10.7). -/
def unitOf : Nat → Option CellUnit
  | 0 => some .micron
  | 1 => some .tenth
  | 2 => some .inchE5
  | _ => none

/-- Radius form: RADIUS 0, DIAMETER 1 (Table 6.1, Table 10.7). -/
def radiusFormOf : Nat → Option RadiusForm
  | 0 => some .radius
  | 1 => some .diameter
  | _ => none

/-- Byte order: LITTLE 0, BIG 1 (Table 6.1). -/
def byteOrderOf : Nat → Option ByteOrder
  | 0 => some .little
  | 1 => some .big
  | _ => none

/-- Auto-request: on 0, off 1, the order in which Table 6.1 lists the values (log 9). -/
def autoRequestOf : Nat → Option Bool
  | 0 => some true
  | 1 => some false
  | _ => none

/-! ### Record keys (Table 9.1) -/

/-- The key of a drawer record. -/
def drawerKey (d : Nat) : Nat := 512 + d

/-- The key of a cell record. -/
def cellKey (c : Nat) : Nat := 576 + c

/-- The key of a reference record. -/
def refKey (k : Nat) : Nat := 592 + k

/-- The key of the curve record. -/
def curveKey : Nat := 596

/-- The key of the parameter record. -/
def paramsKey : Nat := 597

/-! ### Span decoding (R150) -/

/-- The decoded size: above 32 taken as 32, else the greatest power of two not above it. -/
def decodeSize (n : Nat) : Nat :=
  if 32 ≤ n then 32 else if 16 ≤ n then 16 else if 8 ≤ n then 8 else if 4 ≤ n then 4 else if 2 ≤ n then 2 else n

/-- The decoded start: the greatest multiple of the decoded size not above the start. -/
def decodeStart (start size : Nat) : Nat := start / size * size

/-- The identity of a HANDOFF (R151). -/
def decodeIdent (cell start size : Nat) : Ident := ⟨cell, decodeStart start (decodeSize size), decodeSize size⟩

/-- The span includes the pocket. -/
def Ident.covers (i : Ident) (pocket : Nat) : Bool := decide (i.start ≤ pocket) && decide (pocket < i.start + i.size)

/-! ### Parameters (Table 10.5) -/

/-- The port that owns a parameter; none above 9. -/
def paramOwner (n : Nat) : Option Port := if n ≤ 1 then some .P else if n ≤ 9 then some .C else none

/-- The value SET_PARAMETER stores for a value sent (R196): clamped to the range of Table 10.5, the discard limit then
rounded down to its step. -/
def paramStored (n v : Nat) : Nat :=
  match n with
  | 0 => clampNat 1 255 v
  | 1 => clampNat 1 8 v
  | 2 => clampNat 20 500 v
  | 3 => clampNat 100 2000 v
  | 4 => clampNat 0 7 v
  | 5 => clampNat 1 60 v
  | 6 => clampNat 1 15 v
  | 7 => clampNat 5 600 v
  | 8 => clampNat 500 30000 v
  | _ => clampNat 10 2550 v / 10 * 10

/-- The value of a parameter by its number. -/
def Params.get (p : Params) (n : Nat) : Nat :=
  match n with
  | 0 => p.spreadLimit
  | 1 => p.minReadings
  | 2 => p.pulseWidth
  | 3 => p.quickRetryWait
  | 4 => p.quickRetries
  | 5 => p.backOff
  | 6 => p.attemptLimit
  | 7 => p.openLimit
  | 8 => p.lockIdleLimit
  | _ => p.discardLimit

/-- The parameter record with one parameter written. -/
def Params.put (p : Params) (n v : Nat) : Params :=
  match n with
  | 0 => { p with spreadLimit := v }
  | 1 => { p with minReadings := v }
  | 2 => { p with pulseWidth := v }
  | 3 => { p with quickRetryWait := v }
  | 4 => { p with quickRetries := v }
  | 5 => { p with backOff := v }
  | 6 => { p with attemptLimit := v }
  | 7 => { p with openLimit := v }
  | 8 => { p with lockIdleLimit := v }
  | _ => { p with discardLimit := v }

/-! ### Ports and requests (Table 10.3) -/

/-- The port a request comes on: the one its kind names, or the command's own; none for a command that is no
request. -/
def requestPort : Instr → Option Port
  | .measureOpen _ | .reading _ _ | .sessionClose _ | .sessionAbandon | .zeroOpen _ | .spanOpen _ _ _
  | .selectReference _ | .certifyReference _ | .unlockReference _ | .writeCurve _ | .readReference _ | .readCurve => some .P
  | .register _ _ _ _ _ _ _ | .retire _ | .stock _ _ | .withdraw _ | .issue _ _ _ | .issuePick _ _
  | .returnTool _ _ _ | .returnFromRegrind _ | .cancelDrawer _ | .clearJam _ | .clearDriver | .setLife _ _ _ _
  | .writeCell _ _ _ _ _ _ _ _ | .readDrawer _ | .readPicks | .restart => some .C
  | .handoff _ _ _ | .usage _ _ _ _ | .requestTool _ _ _ | .withdrawRequest _ _ | .readCell _ => some .M
  | .lock p _ | .unlock p _ | .readRecord p _ | .readNotice p | .status p | .setParameter p _ _ => some p
  | .requestFrameEnd _ _ _ | .replyRead _ _ | .openSeen _ | .closeSeen _ | .presenceLevelChange _ _
  | .pulseWidthElapsed | .overcurrent | .waitExpiry _ | .openTimeExpiry _ | .lockExpiry _ | .discardExpiry _
  | .entryFormation | .slotBuildCompletion | .readAheadBuildCompletion | .commitCompletion | .powerOn | .powerLoss _
  | .resetInputAsserted _ | .resetInputReleased | .loadEnd | .mntInputChange _ | .overcurrentSenseReleased => none

/-- Whether Table 10.3 permits the request on its port: only the kinds that carry a port of their own can come on one
that it does not list. -/
def requestPermitted : Instr → Bool
  | .lock p _ | .unlock p _ | .readRecord p _ => decide (p ≠ .M)
  | _ => true

/-- The assembly a request names, for the idle timer (R14): an argument, or the subject of the open MEASURE session for
READING, SESSION_CLOSE and SESSION_ABANDON. -/
def namedAsm (ocu : Option Session) : Instr → Option Nat
  | .measureOpen a | .register a _ _ _ _ _ _ | .retire a | .returnFromRegrind a | .stock a _ | .withdraw a
  | .issue a _ _ | .returnTool a _ _ | .setLife a _ _ _ | .lock _ a | .unlock _ a | .readRecord _ a => some a
  | .reading _ _ | .sessionClose _ | .sessionAbandon =>
    match ocu with
    | some ⟨.measure a _, _⟩ => some a
    | _ => none
  | _ => none

end Sys2Proof.Machine
end

