-- ==== Sys2Proof/Machine/Flags.lean ====
section
/-! DEFINITION. The tests and marks computed from records: life tests, handoff relevance, the persistent view and when
it changed, fields kept in a state, presence agreement, operation and drawer predicates. -/

namespace Sys2Proof.Machine

open Sys2Proof

/-! ### Assembly records (Section 1) -/

/-- The state a prior state stands for (R7). -/
def PriorState.toState : PriorState → AsmState
  | .unmeasured => .unmeasured
  | .quarantined => .quarantined
  | .ready => .ready

/-- READY and naming no drawer. -/
def AsmRecord.readyUnstocked (r : AsmRecord) : Bool := decide (r.state = .ready) && r.stock.isNone

/-- READY and naming a drawer. -/
def AsmRecord.readyStocked (r : AsmRecord) : Bool := decide (r.state = .ready) && r.stock.isSome

/-- The prior state MEASURE_OPEN would hold: the record is UNMEASURED, QUARANTINED or READY-unstocked (R27 check 4). -/
def AsmRecord.measurable (r : AsmRecord) : Option PriorState :=
  match r.state with
  | .unmeasured => some .unmeasured
  | .quarantined => some .quarantined
  | .ready => if r.stock.isNone then some .ready else none
  | _ => none

/-- The reference-current mark; clear when there are no facts. -/
def AsmRecord.markSet (r : AsmRecord) : Bool :=
  match r.facts with
  | some f => f.current
  | none => false

/-- The record with its reference-current mark cleared (R58). -/
def AsmRecord.clearMark (r : AsmRecord) : AsmRecord :=
  { r with facts := r.facts.map fun f => { f with current := false } }

/-- The facts name the set and hold the mark set (R58). -/
def AsmRecord.measuredWith (r : AsmRecord) (set : Nat) : Bool :=
  match r.facts with
  | some f => decide (f.refSet = set) && f.current
  | none => false

/-- Whether Table 1.2 gives the state a stocked drawer, present or optional. -/
def AsmState.mayStock : AsmState → Bool
  | .ready | .issuing | .regrind => true
  | _ => false

/-- Whether Table 1.2 gives the state geometry and facts; MEASURING keeps those of its prior state (R7). -/
def AsmState.mayMeasure : AsmState → Bool
  | .ready | .issuing | .issued | .exhausted | .measuring => true
  | _ => false

/-- Whether Table 1.2 gives the state a rejected measurement; MEASURING keeps that of its prior state (R7). -/
def AsmState.mayReject : AsmState → Bool
  | .quarantined | .measuring => true
  | _ => false

/-- Whether Table 1.2 gives the state a binding. -/
def AsmState.mayBind : AsmState → Bool
  | .issued | .exhausted => true
  | _ => false

/-- The record in a new state, with each field removed that Table 1.2 marks absent there (R6, R8). -/
def AsmRecord.enter (r : AsmRecord) (st : AsmState) : AsmRecord :=
  { r with
    state := st
    prior := if st = .measuring then r.prior else none
    geometry := if st.mayMeasure then r.geometry else none
    facts := if st.mayMeasure then r.facts else none
    rejected := if st.mayReject then r.rejected else none
    stock := if st.mayStock then r.stock else none
    binding := if st.mayBind then r.binding else none }

/-- The persistent view (R21): a MEASURING record as its prior state, an ISSUING record as READY-stocked, no prior
state, lock or idle timer; committed used is not written, and stands in the view as the used that the page holds. A
MEASURING record without a prior state is none that the part reaches (log 23). -/
def AsmRecord.view (r : AsmRecord) : AsmRecord :=
  { r with
    state := match r.state with
      | .measuring => match r.prior with
        | some p => p.toState
        | none => .unmeasured
      | .issuing => .ready
      | st => st
    prior := none
    committed := r.used
    holder := none
    idle := 0 }

/-- A change that R22 dirties by itself: the persistent view changed in more than used. -/
def AsmRecord.viewChanged (old new : AsmRecord) : Bool :=
  decide ({ old.view with used := 0, committed := 0 } ≠ { new.view with used := 0, committed := 0 })

/-- A handoff-relevant change (R19): state, geometry, reference-current mark, family, binding or life mode. -/
def AsmRecord.handoffChanged (old new : AsmRecord) : Bool :=
  decide (old.state ≠ new.state) || decide (old.geometry ≠ new.geometry) || decide (old.markSet ≠ new.markSet)
    || decide (old.family ≠ new.family) || decide (old.binding ≠ new.binding) || decide (old.mode ≠ new.mode)

/-! ### Life (Section 7) -/

/-- Used units: used div 8 (R135). -/
def AsmRecord.units (r : AsmRecord) : Nat := r.used / 8

/-- Used is at least eight times the life limit (R140). -/
def AsmRecord.wornOut (r : AsmRecord) : Bool := decide (8 * r.limit ≤ r.used)

/-- Life remaining, absent in mode NONE (R135). -/
def AsmRecord.remaining (r : AsmRecord) : Option Nat :=
  match r.mode with
  | .none => none
  | _ => some (if r.wornOut then 0 else r.limit - r.units)

/-- The warning test (R139): used × 100 is at least limit × 8 × warn percent. -/
def AsmRecord.warnReached (r : AsmRecord) : Bool := decide (r.limit * 8 * r.warn ≤ r.used * 100)

/-- The commit threshold ⌈limit × 8 / 64⌉ in eighths (R143). -/
def AsmRecord.commitThreshold (r : AsmRecord) : Nat := ceilDiv (r.limit * 8) 64

/-- The life limit and used units with which an assembly enters the sister rule (R129). -/
def AsmRecord.rank (r : AsmRecord) : Int × Int :=
  match r.mode with
  | .none => (1, 0)
  | _ => (r.limit, r.units)

/-- a has the greater remaining fraction: (La − Ua) × Lb is greater than (Lb − Ub) × La (R129). -/
def AsmRecord.outlasts (a b : AsmRecord) : Bool :=
  decide ((b.rank.1 - b.rank.2) * a.rank.1 < (a.rank.1 - a.rank.2) * b.rank.1)

/-- The life fields as a SET_LIFE reply carries them. -/
def AsmRecord.lifeFields (r : AsmRecord) : LifeFields :=
  ⟨r.mode, r.limit, r.warn, r.staged, r.used, r.committed, r.warned⟩

/-! ### Drawers and operations (Sections 4 and 5) -/

/-- In the release set: QUEUED, PULSING, RETRY_WAIT or BACKOFF (R67). -/
def DrawerState.releasing : DrawerState → Bool
  | .queued | .pulsing | .retryWait | .backoff => true
  | _ => false

/-- Waiting out a wait time (R75). -/
def DrawerState.waiting : DrawerState → Bool
  | .retryWait | .backoff => true
  | _ => false

/-- Presence and stock agree (R70). -/
def Drawer.agrees (d : Drawer) : Bool := decide (d.present = d.stock.isSome)

/-- Stocked or unstocked, reported for READY and REGRIND (Table 5.2). -/
def AsmRecord.stockedMark (r : AsmRecord) : Option Bool :=
  match r.state with
  | .ready | .regrind => some r.stock.isSome
  | _ => none

/-- The set's certified mark (R50). -/
def RefSet.certified : RefSet → Bool
  | .spanned _ _ _ _ _ _ c => c
  | _ => false

/-- The kind of a session as reports name it. -/
def SessionKind.tag : SessionKind → SessionTag
  | .measure _ _ => .measure
  | .zero _ => .zero
  | .span _ _ _ => .span

/-- The subject of a session (R25). -/
def SessionKind.subject : SessionKind → Nat
  | .measure a _ => a
  | .zero k => k
  | .span k _ _ => k

/-- The set a calibration session is open on. -/
def SessionKind.calibrates : SessionKind → Option Nat
  | .measure _ _ => none
  | .zero k => some k
  | .span k _ _ => some k

/-- The phases in which the blocks act on switch events, expiries and completions: normal operation and the drain
(R188). -/
def Phase.active : Phase → Bool
  | .running | .drain => true
  | _ => false

end Sys2Proof.Machine
end

