-- ==== Sys2Proof/Machine/Ops.lean ====
section
/-! DEFINITION. The shared operations of the blocks: reading and writing each table of the state, placing notices,
answering requests, dirtying and committing records, signalling the Handoff Builder, and changing an assembly record. -/

namespace Sys2Proof.Machine

open Sys2Proof

namespace State

/-! ### Tables -/

/-- Assembly record `a`. -/
def asm (s : State) (a : Nat) : AsmRecord := tget (blankRecord .vacant) s.atb a

/-- Assembly record `a` written, nothing else. -/
def setAsm (s : State) (a : Nat) (r : AsmRecord) : State := { s with atb := tset s.atb a r }

/-- A number above 63 names no drawer; it reads as one that no release reaches (log 23). -/
def noDrawer : Drawer := { restDrawer false false with state := .jammed }

/-- Drawer record `d`. -/
def drawer (s : State) (d : Nat) : Drawer := tget noDrawer s.drc.drawers d

/-- Drawer record `d` written, nothing else. -/
def setDrawer (s : State) (d : Nat) (r : Drawer) : State :=
  { s with drc := { s.drc with drawers := tset s.drc.drawers d r } }

/-- The release queue written. -/
def setReleaseQueue (s : State) (q : List Nat) : State := { s with drc := { s.drc with queue := q } }

/-- The driver written. -/
def setDriver (s : State) (r : Driver) : State := { s with drc := { s.drc with driver := r } }

/-- The operation the COC holds for drawer `d`. -/
def op (s : State) (d : Nat) : Option Operation := tget none s.coc d

/-- The operation record of drawer `d` written. -/
def setOp (s : State) (d : Nat) (o : Option Operation) : State := { s with coc := tset s.coc d o }

/-- Cell record `c`. -/
def cell (s : State) (c : Nat) : Cell := tget ⟨defaultProfile, tgen 128 fun _ => .empty⟩ s.ctb.cells c

/-- The profile of cell `c`. -/
def profile (s : State) (c : Nat) : Profile := (s.cell c).profile

/-- The profile of cell `c` written. -/
def setProfile (s : State) (c : Nat) (p : Profile) : State :=
  { s with ctb := { s.ctb with cells := tset s.ctb.cells c { s.cell c with profile := p } } }

/-- The pocket map entry of pocket `p` of cell `c`. -/
def pocket (s : State) (c p : Nat) : Pocket := tget .empty (s.cell c).pockets p

/-- The pocket map entry of pocket `p` of cell `c` written. -/
def setPocket (s : State) (c p : Nat) (e : Pocket) : State :=
  { s with ctb := { s.ctb with
      cells := tset s.ctb.cells c { s.cell c with pockets := tset (s.cell c).pockets p e } } }

/-- The pick list. -/
def picks (s : State) : List Pick := s.ctb.picks

/-- The pick list written. -/
def setPicks (s : State) (l : List Pick) : State := { s with ctb := { s.ctb with picks := l } }

/-- The session slot written. -/
def setSession (s : State) (x : Option Session) : State := { s with ocu := x }

/-- Reference set `k`. -/
def refSet (s : State) (k : Nat) : RefSet := tget .blank s.rfs.sets k

/-- Reference set `k` written. -/
def setRefSet (s : State) (k : Nat) (r : RefSet) : State :=
  { s with rfs := { s.rfs with sets := tset s.rfs.sets k r } }

/-- The working curve written. -/
def setCurve (s : State) (c : Curve) : State := { s with rfs := { s.rfs with curve := c } }

/-- The staged curve written. -/
def setStagedCurve (s : State) (c : Option Curve) : State := { s with rfs := { s.rfs with staged := c } }

/-- The active-set number written. -/
def setActive (s : State) (k : Option Nat) : State := { s with rfs := { s.rfs with active := k } }

/-- Deferral slot `i`. -/
def slot (s : State) (i : Nat) : Slot := tget .free s.hob.slots i

/-- Deferral slot `i` written. -/
def setSlot (s : State) (i : Nat) (x : Slot) : State :=
  { s with hob := { s.hob with slots := tset s.hob.slots i x } }

/-- The read-ahead buffer of cell `c`. -/
def buffer (s : State) (c : Nat) : Buffer := tget .empty s.hob.buffers c

/-- The read-ahead buffer of cell `c` written. -/
def setBuffer (s : State) (c : Nat) (b : Buffer) : State :=
  { s with hob := { s.hob with buffers := tset s.hob.buffers c b } }

/-- The whole Handoff Builder written. -/
def setHob (s : State) (h : Handoff) : State := { s with hob := h }

/-- The page of key `k`. -/
def page (s : State) (k : Nat) : Page := tget .blank s.rst.pages k

/-- The page of key `k` written. -/
def setPage (s : State) (k : Nat) (p : Page) : State :=
  { s with rst := { s.rst with pages := tset s.rst.pages k p } }

/-- The commit queue written. -/
def setCommitQueue (s : State) (q : List Nat) : State := { s with rst := { s.rst with queue := q } }

/-- The commit in flight written. -/
def setFlight (s : State) (f : Option Commit) : State := { s with rst := { s.rst with flight := f } }

/-- The parameter record written. -/
def setParams (s : State) (p : Params) : State := { s with params := p }

/-- The phase written. -/
def setPhase (s : State) (p : Phase) : State := { s with phase := p }

/-- The input pins written. -/
def setPins (s : State) (p : Pins) : State := { s with pins := p }

/-- The interface of a port. -/
def port (s : State) : Port → PortState
  | .P => s.ports.p
  | .C => s.ports.c
  | .M => s.ports.m

/-- The interface of a port written. -/
def setPort (s : State) (p : Port) (x : PortState) : State :=
  { s with ports := match p with
    | .P => { s.ports with p := x }
    | .C => { s.ports with c := x }
    | .M => { s.ports with m := x } }

/-! ### Notices and replies (Section 10) -/

/-- A notice placed at the tail of a port's queue; dropped, with the overflow mark set, when the queue holds 16
(R197). -/
def notify (s : State) (p : Port) (n : Notice) : State :=
  if (s.port p).notices.length < 16 then
    s.setPort p { s.port p with notices := (s.port p).notices ++ [n] }
  else s.setPort p { s.port p with overflow := true }

/-- The attention line: high while the queue holds a notice, low while the reset input is low or the part has no power
(R189, R199). -/
def attention (s : State) (p : Port) : Bool :=
  match s.phase with
  | .held | .off => false
  | _ => !(s.port p).notices.isEmpty

/-- The driver-enable line: high for the length of a pulse, low while a load runs, the reset input is low or the part
has no power (R76, R90, R182). -/
def driverEnable (s : State) : Bool := s.phase.active && s.drc.driver.pulsing.isSome

/-- The number by which the open bytes of the reply that a port holds are drawn (log 8): no two replies of the part have the
same, and a held reply keeps its own for as long as it is held, so that every read of it shows the same frame (R194). -/
def draw (s : State) (p : Port) : Nat :=
  3 * (s.port p).draws + match p with
    | .P => 0
    | .C => 1
    | .M => 2

/-- A reply put in the port's reply buffer, the next that the buffer holds. While the kept reply of a RESTART is unread, the port's answers are not held
(R194). -/
def hold (s : State) (p : Port) (r : Reply) (keep : Bool) : State :=
  if (s.port p).keep then s else s.setPort p { s.port p with buf := .held r, keep := keep, draws := (s.port p).draws + 1 }

/-! ### Dirtying and commits (Section 9) -/

/-- The persistent view of the record of a key as it stands (Table 9.1). -/
def viewOf (s : State) (k : Nat) : View :=
  if k < 512 then .asm (s.asm k).view
  else if k < 576 then .drawer (s.drawer (k - 512)).stock (s.drawer (k - 512)).mismatch
  else if k < 592 then .cell (s.profile (k - 576))
  else if k < 596 then .ref (s.refSet (k - 592))
  else if k = 596 then .curve s.rfs.curve s.rfs.active
  else .params s.params

/-- The idle engine takes the head key of a queue that is not empty, with the snapshot of its record (R179). -/
def kickEngine (s : State) : State :=
  match s.rst.flight, s.rst.queue with
  | none, k :: q => (s.setCommitQueue q).setFlight (some ⟨k, s.viewOf k, false⟩)
  | _, _ => s

/-- The key stays in its place in the queue, sets the redirty mark of its commit in flight, or enters the queue at its
tail (R178). A key that the sweep entered while it is in flight is in the queue and stays there (R58). -/
def enqueueKey (s : State) (k : Nat) : State :=
  if k ∈ s.rst.queue then s
  else match s.rst.flight with
    | some f =>
      if f.key = k then s.setFlight (some { f with redirty := true }) else s.setCommitQueue (s.rst.queue ++ [k])
    | none => s.setCommitQueue (s.rst.queue ++ [k])

/-- A record marked dirty (R178), the engine taking its key in the same event when it is idle (R179). The record's
changes stand before it is dirtied. -/
def dirty (s : State) (k : Nat) : State := (s.enqueueKey k).kickEngine

/-- An assembly key dirtied by the sweep: a key in flight enters the tail at once and its redirty mark is cleared
(R58). -/
def sweepDirty (s : State) (k : Nat) : State :=
  match s.rst.flight with
  | some f =>
    if f.key = k then
      let s := s.setFlight (some { f with redirty := false })
      if k ∈ s.rst.queue then s else s.setCommitQueue (s.rst.queue ++ [k])
    else s.dirty k
  | none => s.dirty k

/-- The reference key dirtied by a calibrating close: taken from its place in the queue and entered at the tail behind
the assemblies (R58). -/
def requeueDirty (s : State) (k : Nat) : State := (s.setCommitQueue (s.rst.queue.erase k)).dirty k

/-! ### The Handoff Builder's queue and signals (Section 8) -/

/-- The builder starts the build of a target: the marks of its slot are cleared and the cell's unit, radius form, byte
order and datum offset are read (R163). -/
def startBuild (s : State) (t : Target) (i : Ident) : State :=
  let pr := s.profile i.cell
  s.setHob { s.hob with builder := some ⟨t, pr.datum, ⟨i, pr.unit, pr.form, pr.order, []⟩⟩ }

/-- The idle builder takes the head of the slot builds, else the head of the read-ahead builds (R162). -/
def kickBuilder (s : State) : State :=
  match s.hob.builder with
  | some _ => s
  | none =>
    match s.hob.slotBuilds, s.hob.readAheads with
    | i :: q, _ =>
      let s := s.setHob { s.hob with slotBuilds := q }
      match s.slot i with
      | .building h =>
        (s.setSlot i (.building { h with marks := h.marks.map fun _ => false })).startBuild (.slot i) h.ident
      | _ => s
    | [], c :: q =>
      let s := s.setHob { s.hob with readAheads := q }
      match s.buffer c with
      | .pending id => s.startBuild (.readAhead c) id
      | _ => s
    | [], [] => s

/-- The builder is forming the read-ahead of cell `c`. -/
def formingReadAhead (s : State) (c : Nat) : Bool :=
  match s.hob.builder with
  | some b => decide (b.target = .readAhead c)
  | none => false

/-- The builder is forming the build of slot `i`. -/
def formingSlot (s : State) (i : Nat) : Bool :=
  match s.hob.builder with
  | some b => decide (b.target = .slot i)
  | none => false

/-- The builder left idle (R161, R164, R171). -/
def dropBuild (s : State) : State := s.setHob { s.hob with builder := none }

end State

/-- A disturbance signal (R166): a cell and a pocket, a cell as a whole, or all pockets. -/
inductive Signal where
  | pocket (cell pocket : Nat)
  | cell (cell : Nat)
  | all
deriving DecidableEq, Repr

/-- The signal covers a slot or buffer of the identity (R167). -/
def Signal.covers (g : Signal) (i : Ident) : Bool :=
  match g with
  | .pocket c p => decide (i.cell = c) && i.covers p
  | .cell c => decide (i.cell = c)
  | .all => true

/-- A slot's marks with those the signal sets: the named pocket's, or every mark (R167). -/
def Held.mark (h : Held) (g : Signal) : Held :=
  if g.covers h.ident then
    match g with
    | .pocket _ p => { h with marks := h.marks.set (p - h.ident.start) true }
    | _ => { h with marks := h.marks.map fun _ => true }
  else h

/-- The effect of a signal on a slot (Table 8.6). -/
def Slot.disturbed (g : Signal) : Slot → Slot
  | .free => .free
  | .building h => .building (h.mark g)
  | .complete h b t => .complete (h.mark g) b t

/-- The effect of a signal on a read-ahead buffer (R167): VALID becomes INVALID, and so does PENDING while its build is
being formed. -/
def Buffer.disturbed (g : Signal) (forming : Bool) : Buffer → Buffer
  | .valid i b => if g.covers i then .invalid i else .valid i b
  | .pending i => if g.covers i && forming then .invalid i else .pending i
  | b => b

namespace State

/-- A disturbance signal at the HOB (R167): every covered slot and buffer takes its effect; a read-ahead build being
formed for a covered buffer is abandoned and the builder takes its next build. -/
def disturb (s : State) (g : Signal) : State :=
  let buffers := match s.hob.builder with
    | some ⟨.readAhead c, _, _⟩ =>
      tset (tmap (Buffer.disturbed g false) s.hob.buffers) c ((s.buffer c).disturbed g true)
    | _ => tmap (Buffer.disturbed g false) s.hob.buffers
  let abandoned := match s.hob.builder with
    | some ⟨.readAhead _, _, b⟩ => g.covers b.ident
    | _ => false
  let t := s.setHob { s.hob with slots := tmap (Slot.disturbed g) s.hob.slots, buffers := buffers }
  if abandoned then t.dropBuild.kickBuilder else t

/-! ### Assembly records (Section 1) -/

/-- The pocket of an assembly (R20): its binding in ISSUED and EXHAUSTED, the pocket its ISSUE operation reserved in
ISSUING, none in every other state. -/
def pocketOf (s : State) (a : Nat) : Option (Nat × Nat) :=
  match (s.asm a).state with
  | .issued | .exhausted => (s.asm a).binding
  | .issuing =>
    match (s.asm a).stock with
    | some d =>
      match s.op d with
      | some ⟨.issue c p _ _, _, _⟩ => some (c, p)
      | _ => none
    | none => none
  | _ => none

/-- The signal for a pocket, when there is one. -/
def signalPocket (s : State) (x : Option (Nat × Nat)) : State :=
  match x with
  | some (c, p) => s.disturb (.pocket c p)
  | none => s

/-- An assembly record changed as one event at the ATB (R8, R9): the record is written and, when the change is
handoff-relevant, the pockets it has before and after are signalled, once when they are the same (R19, R20). The caller
dirties it by `commitChange`. -/
def changeAsm (s : State) (a : Nat) (r : AsmRecord) : State :=
  let t := s.setAsm a r
  if (s.asm a).handoffChanged r then
    let before := s.pocketOf a
    let after := t.pocketOf a
    if before = after then t.signalPocket before else (t.signalPocket before).signalPocket after
  else t

/-- The record is dirtied when the event changed its persistent view in more than used (R22). -/
def commitChange (s : State) (a : Nat) (old : AsmRecord) : State :=
  if old.viewChanged (s.asm a) then s.dirty a else s

/-- A drawer's stock and mismatch mark written, without dirtying. -/
def setStock (s : State) (d : Nat) (stock : Option Nat) (mismatch : Bool) : State :=
  s.setDrawer d { s.drawer d with stock := stock, mismatch := mismatch }

/-- The drawer record is dirtied when the event changed its stock or mismatch mark (R68). -/
def commitDrawer (s : State) (d : Nat) (old : Drawer) : State :=
  if (s.drawer d).stock = old.stock ∧ (s.drawer d).mismatch = old.mismatch then s else s.dirty (drawerKey d)

/-- The assembly is the assembly of an operation held for any drawer (R92). -/
def inOperation (s : State) (a : Nat) : Bool :=
  s.coc.toList.any fun o => match o with
    | some x => decide (x.asm = a)
    | none => false

/-- The number of drawers in the release set (R67). -/
def releaseCount (s : State) : Nat := (s.drc.drawers.toList.filter fun d => d.state.releasing).length

/-! ### Requests at their blocks (Section 10) -/

/-- The idle timer of a record restarts from 0 when the port holds its lock (R14). -/
def touch (s : State) (p : Port) (a : Nat) : State :=
  if (s.asm a).holder = some p then s.setAsm a { s.asm a with idle := 0 } else s

/-- The idle timer of the assembly the request names restarts, when it names one that the port holds (R14). -/
def touchNamed (s : State) (p : Port) (i : Instr) : State :=
  match namedAsm s.ocu i with
  | some a => s.touch p a
  | none => s

end State

/-- What a block answers: status, CLAMPED mark, body, and whether the reply is the kept reply of a RESTART (R187). -/
structure Answer where
  status : Status
  clamped : Bool
  body : Body
  keep : Bool
deriving DecidableEq, Repr

/-- A refusal: a status code other than OK and RETRY, with an empty body (00_scope, Requests, replies and notices). -/
def refuse (st : Status) : Answer := ⟨st, false, .empty, false⟩

/-- OK with a body and the CLAMPED mark clear. -/
def accept (b : Body) : Answer := ⟨.ok, false, b, false⟩

/-- OK with a body and the CLAMPED mark as given (R190). -/
def acceptClamped (clamped : Bool) (b : Body) : Answer := ⟨.ok, clamped, b, false⟩

namespace State

/-- The block's answer to a taken request, held in the port's reply buffer (R193). -/
def answer (s : State) (p : Port) (tag : Byte) (a : Answer) : State :=
  s.hold p ⟨a.status, a.clamped, tag, a.body⟩ a.keep

/-- The LOADING answer of a drain or a load (R193, R182). -/
def answerLoading (s : State) (p : Port) (tag : Byte) (drain : Bool) : State :=
  s.answer p tag ⟨.loading, false, .phase drain, false⟩

/-- The owning block takes a request: the idle timer of the record it names restarts (R14), the block carries it out and
its answer is held. -/
def take (s : State) (p : Port) (i : Instr) (tag : Byte) (h : State → State × Answer) : State :=
  let x := h (s.touchNamed p i)
  x.1.answer p tag x.2

/-- A request command (R193). In normal operation the block takes the request that waits in the port's request buffer;
when another request waits, the command is a further frame, which is discarded; when none waits, the command stands for
a sound frame with tag 00h whose request is taken at once (log 5). In a drain or a load it is answered LOADING. -/
def serve (s : State) (p : Port) (i : Instr) (h : State → State × Answer) : State :=
  match s.phase with
  | .running =>
    match (s.port p).buf with
    | .pending tag j => if j = i then s.take p i tag h else s
    | _ => if requestPermitted i then s.take p i 0 h else s.answer p 0 (refuse .notPermitted)
  | .drain => s.answerLoading p 0 true
  | .load _ => s.answerLoading p 0 false
  | .held => s
  | .off => s

end State

end Sys2Proof.Machine
end

