-- ==== Sys2Proof/Machine/Presetting.lean ====
section
/-! DEFINITION. The presetting arithmetic (2.5), the arithmetic of the calibration closes (R54, R56), and what the end
of a session does (R33 to R36, R63). -/

namespace Sys2Proof.Machine

open Sys2Proof

/-- The saturation value of the presetter (R31). -/
def saturated : Nat := 1048575

/-- Stage 1, acceptance (R39): list A, the pairs with neither count saturated. -/
def acceptPairs (l : List (Nat × Nat)) : List (Nat × Nat) :=
  l.filter fun p => decide (p.1 ≠ saturated) && decide (p.2 ≠ saturated)

/-- Stage 2, outlier rejection (R40): list B, the pairs of A within the spread limit of the median z and the median x
when A holds three pairs or more. -/
def keepPairs (spread : Nat) (a : List (Nat × Nat)) : List (Nat × Nat) :=
  if 3 ≤ a.length then
    a.filter fun p => decide (distNat p.1 (median (a.map Prod.fst)) ≤ spread)
      && decide (distNat p.2 (median (a.map Prod.snd)) ≤ spread)
  else a

/-- Stages 1 and 2 with the TOO_FEW check (R40): list B, or none when it holds fewer pairs than minimum readings. -/
def usedPairs (p : Params) (l : List (Nat × Nat)) : Option (List (Nat × Nat)) :=
  let b := keepPairs p.spreadLimit (acceptPairs l)
  if b.length < p.minReadings then none else some b

/-- Stage 3, means (R41). -/
def meanPair (b : List (Nat × Nat)) : Nat × Nat := (meanHalfUp (b.map Prod.fst), meanHalfUp (b.map Prod.snd))

/-- Stage 5, interpolation of the curve at the clamped temperature (R43). -/
def interpolate (c : Curve) (tc : Nat) : Int :=
  let k := if tc = 320 then 7 else (tc - 160) / 20
  tget 0 c k + roundHalfAway ((tget 0 c (k + 1) - tget 0 c k) * ((tc - 160 - 20 * k : Nat) : Int)) 20

/-- Stage 5, correction of length (R44). -/
def correctLength (lnm c : Int) : Int := lnm - roundHalfAway (lnm * c) 1000000

/-- A computed value held to 0..4,194,303 in the rejected measurement (R4). -/
def heldValue (v : Nat) : Nat := if 4194303 < v then 4194303 else v

/-- A nominal pair is absent or not exceeded (R46). -/
def withinTolerance (v : Nat) : Option (Nat × Nat) → Bool
  | none => true
  | some (n, t) => decide (distNat v n ≤ t)

/-- What the arithmetic of a MEASURE close gives (R38 to R46): the result, with the readings used and TEMP_CLAMPED. -/
inductive Measured where
  | success (length radius used : Nat) (tempClamped : Bool)
  | failure (reason : FailReason) (values : Option (Nat × Nat)) (used : Nat) (tempClamped : Bool)
deriving DecidableEq, Repr

/-- The presetting arithmetic (2.5) on a reading list, a temperature 0..600, the measuring set's zeros and scales, the
working curve, the parameters and the nominal pairs. -/
def measure (p : Params) (curve : Curve) (z0l z0r sl sr : Nat) (nomLength nomRadius : Option (Nat × Nat))
    (readings : List (Nat × Nat)) (temp : Nat) : Measured :=
  match usedPairs p readings with
  | none => .failure .tooFew none 0 false
  | some b =>
    let m := meanPair b
    if m.1 ≤ z0l ∨ m.2 < z0r then .failure .underrange none b.length false
    else
      let tc := clampNat 160 320 temp
      let clamped := decide (tc ≠ temp)
      let lcorr := correctLength (((m.1 - z0l) * sl : Nat) : Int) (interpolate curve tc)
      let l := (roundHalfUp lcorr 100).toNat
      let r := (roundHalfUp (((m.2 - z0r) * sr : Nat) : Int) 100).toNat
      if 4000000 < l ∨ 500000 < r then .failure .overrange (some (l, r)) b.length clamped
      else if withinTolerance l nomLength && withinTolerance r nomRadius then .success l r b.length clamped
      else .failure .outOfTolerance (some (l, r)) b.length clamped

/-- What the arithmetic of a ZERO close gives (R54): the new zeros and the readings used, or TOO_FEW. -/
def calibrateZero (p : Params) (readings : List (Nat × Nat)) : Option (Nat × Nat × Nat) :=
  match usedPairs p readings with
  | none => none
  | some b => some ((meanPair b).1, (meanPair b).2, b.length)

/-- What the arithmetic of a SPAN close gives (R56): TOO_FEW, CAL_RANGE with the readings used, or the new scales with
the readings used. -/
inductive Spanned where
  | tooFew
  | calRange (used : Nat)
  | calibrated (sl sr used : Nat)
deriving DecidableEq, Repr

/-- The arithmetic of a SPAN close (R56): dz = z̄ − Z0L, dx = x̄ − Z0R, SL and SR rounded halves up, 100..2,000. -/
def calibrateSpan (p : Params) (z0l z0r lm dm : Nat) (readings : List (Nat × Nat)) : Spanned :=
  match usedPairs p readings with
  | none => .tooFew
  | some b =>
    let m := meanPair b
    if m.1 ≤ z0l ∨ m.2 ≤ z0r then .calRange b.length
    else
      let sl := (roundHalfUp ((lm * 1000 : Nat) : Int) (m.1 - z0l)).toNat
      let sr := (roundHalfUp ((dm * 500 : Nat) : Int) (m.2 - z0r)).toNat
      if sl < 100 ∨ 2000 < sl ∨ sr < 100 ∨ 2000 < sr then .calRange b.length else .calibrated sl sr b.length

/-- Zeros and scales of a set; a set that holds none gives 0 (no reachable state reads one: log 23). -/
def RefSet.values : RefSet → Nat × Nat × Nat × Nat
  | .zeroed a b => (a, b, 0, 0)
  | .spanned a b c d _ _ _ => (a, b, c, d)
  | _ => (0, 0, 0, 0)

/-- The set with new zeros (R54): a SPANNED set keeps scales, masters and mark. -/
def RefSet.withZeros (z0l z0r : Nat) : RefSet → RefSet
  | .spanned _ _ c d e f k => .spanned z0l z0r c d e f k
  | _ => .zeroed z0l z0r

/-- The set with new scales and masters (R57): it keeps its zeros and its certified mark, which a session never finds
set. -/
def RefSet.withScales (sl sr lm dm : Nat) (r : RefSet) : RefSet :=
  .spanned r.values.1 r.values.2.1 sl sr lm dm r.certified

/-! ### The content a MEASURE close writes (R47, R48) -/

/-- READY-unstocked with the new geometry and facts; a MEASURING record names no drawer (R47). -/
def AsmRecord.measured (r : AsmRecord) (set length radius temp used rejected : Nat) (clamped : Bool) : AsmRecord :=
  { r.enter .ready with
    geometry := some ⟨length, radius⟩
    facts := some ⟨set, true, temp, used, rejected, clamped⟩
    stock := none }

/-- QUARANTINED with the rejected measurement (R48, R4). -/
def AsmRecord.failed (r : AsmRecord) (reason : FailReason) (values : Option (Nat × Nat)) : AsmRecord :=
  { r.enter .quarantined with
    rejected := some ⟨reason, values.map fun v => heldValue v.1, values.map fun v => heldValue v.2,
      match values with
      | some v => decide (4194303 < v.1) || decide (4194303 < v.2)
      | none => false⟩ }

/-- A MEASURING record returned to its prior state with that content (R7); any other record as it is. -/
def AsmRecord.restorePrior (r : AsmRecord) : AsmRecord :=
  match r.prior with
  | some p => { r with state := p.toState, prior := none }
  | none => r

/-- The lock released: no holder, the idle timer stopped (R15, R17). -/
def AsmRecord.unlocked (r : AsmRecord) : AsmRecord := { r with holder := none, idle := 0 }

/-! ### The end of a session -/

/-- The fields of SESSION_DONE for a session that ends without a result (R36, log 17). -/
def endedWithout (x : Session) (o : SessionOutcome) : SessionDone :=
  { kind := x.kind.tag, subject := x.kind.subject, outcome := o, reason := none, length := none, radius := none,
    used := 0, rejected := x.readings.length, discarded := some x.readings.length, temp := none, tempClamped := none }

namespace State

/-- The end of a session handed to the RFS (R63): a staged curve becomes the working curve, the curve record is dirtied
and port P gets CURVE_APPLIED. -/
def applyStagedCurve (s : State) : State :=
  match s.rfs.staged with
  | some c => (((s.setCurve c).setStagedCurve none).dirty curveKey).notify .P (.curveApplied c)
  | none => s

/-- SESSION_DONE to port P, the slot emptied, and the end handed to the RFS, in this order (R33, R57). -/
def finishSession (s : State) (d : SessionDone) : State :=
  ((s.notify .P (.sessionDone d)).setSession none).applyStagedCurve

/-- The subject of a MEASURE session returned to its prior state; nothing for a ZERO or SPAN session (R34, R35). -/
def returnSubject (s : State) (x : Session) : State :=
  match x.kind with
  | .measure a _ => s.changeAsm a (s.asm a).restorePrior
  | _ => s

/-- The lock of a MEASURE session's subject released; nothing for a ZERO or SPAN session (R17). -/
def releaseSubject (s : State) (x : Session) : State :=
  match x.kind with
  | .measure a _ => s.setAsm a (s.asm a).unlocked
  | _ => s

/-- The reference-current sweep of a set (R58): the marks cleared in ascending assembly number as one change, one
signal naming all pockets when a cleared record has a pocket, then the assembly keys and the set's key dirtied. -/
def sweep (s : State) (set : Nat) : State :=
  let cleared := (List.range 512).filter fun a => (s.asm a).measuredWith set
  let t := { s with atb := tmap (fun r : AsmRecord => if r.measuredWith set then r.clearMark else r) s.atb }
  let u := if cleared.any fun a => match (s.asm a).state with
      | .issuing | .issued | .exhausted => true
      | _ => false
    then t.disturb .all else t
  (cleared.foldl State.sweepDirty u).requeueDirty (refKey set)

/-- The lock of a record expires (R15): the former holder gets LOCK_EXPIRED, and a MEASURE session on the record is
aborted. -/
def expireLock (s : State) (a : Nat) : State :=
  match (s.asm a).holder with
  | none => s
  | some p =>
    let t := (s.setAsm a (s.asm a).unlocked).notify p (.lockExpired a)
    if (s.asm a).state = .measuring then
      match s.ocu with
      | some x => (t.changeAsm a (t.asm a).restorePrior).finishSession (endedWithout x .aborted)
      | none => t
    else t

end State

end Sys2Proof.Machine
end

