-- ==== Sys2Proof/Machine/Crib.lean ====
section
/-! DEFINITION. What the Crib Operation Controller does to an operation held for a drawer: completion or abandonment at
the close event (R100, R102, R106, R107, R109, R110) and rollback (R111, R112); and the pick list and sister rule it
shares with the Cell Table (R120, R126, R129 to R132). -/

namespace Sys2Proof.Machine

open Sys2Proof

/-! ### The pick list (R120, R122) -/

/-- The entry names the cell and pocket. -/
def Pick.names (k : Pick) (c p : Nat) : Bool := decide (k.cell = c) && decide (k.pocket = p)

/-- The entry for a cell and pocket. -/
def findPick (l : List Pick) (c p : Nat) : Option Pick := l.find? fun k => k.names c p

/-- The entry for a cell and pocket takes a state, keeping its place. -/
def movePick (l : List Pick) (c p : Nat) (st : PickState) : List Pick :=
  l.map fun k => if k.names c p then { k with state := st } else k

/-- The entry for a cell and pocket removed. -/
def removePick (l : List Pick) (c p : Nat) : List Pick := l.filter fun k => !k.names c p

/-! ### The sister rule (R129 to R132) -/

/-- Of two candidates the one the sister rule chooses; the earlier one on equal fractions. -/
def betterOf (s : State) (asmOf : Nat → Nat) (best : Option Nat) (x : Nat) : Option Nat :=
  match best with
  | none => some x
  | some b => if (s.asm (asmOf x)).outlasts (s.asm (asmOf b)) then some x else some b

namespace State

/-- A candidate of ISSUE_PICK (R105, R130). -/
def pickCandidate (s : State) (family a : Nat) : Bool :=
  let r := s.asm a
  r.readyStocked && r.markSet && decide (r.holder = none) && decide (r.family = some family) && !r.wornOut

/-- The assembly ISSUE_PICK chooses: the greatest fraction, the lower number on a tie (R130). -/
def chooseSister (s : State) (family : Nat) : Option Nat :=
  ((List.range 512).filter (s.pickCandidate family)).foldl (betterOf s id) none

/-- The assembly bound in a pocket. -/
def boundAsm (s : State) (c p : Nat) : Option Nat :=
  match s.pocket c p with
  | .bound a => some a
  | _ => none

/-- A candidate pocket for an exhausted assembly's family (R131). -/
def sisterPocket (s : State) (c : Nat) (family : Option Nat) (p : Nat) : Bool :=
  match s.boundAsm c p, family with
  | some b, some f =>
    decide ((s.asm b).state = .issued) && decide ((s.asm b).family = some f) && (s.asm b).markSet
  | _, _ => false

/-- The candidate pockets of a cell for a family, in ascending order (R131). -/
def sisterPockets (s : State) (c : Nat) (family : Option Nat) : List Nat :=
  (List.range 128).filter (s.sisterPocket c family)

/-- The sister pocket a handoff entry names: the greatest fraction, the lower pocket number on a tie (R132). -/
def chooseSisterPocket (s : State) (c : Nat) (family : Option Nat) : Option Nat :=
  (s.sisterPockets c family).foldl (betterOf s fun p => (s.boundAsm c p).getD 0) none

/-- The automatic request rule for an exhausted assembly in a pocket (R126). -/
def autoRequest (s : State) (a c p : Nat) : State :=
  match (s.asm a).family with
  | none => s
  | some f =>
    if (s.profile c).autoRequest && (s.sisterPockets c (some f)).isEmpty && (findPick s.picks c p).isNone then
      if s.picks.length < 32 then
        (s.setPicks (s.picks ++ [⟨c, p, f, .auto, .waitEmpty⟩])).notify .C
          (.pickAdded c p f .auto .waitEmpty (s.picks.length + 1))
      else s.notify .C (.pickRefused c p f a)
    else s

/-! ### Ends of operations -/

/-- A pocket map entry changed by an operation, with POCKET_CHANGED to port M (R95, R119). -/
def changePocket (s : State) (c p : Nat) (e : Pocket) : State :=
  (s.setPocket c p e).notify .M (.pocketChanged c p e)

/-- The end of an operation: its record is removed and port C gets OP_DONE, formed after the changes of the event
(R91, R94). -/
def finishOp (s : State) (d : Nat) (o : Operation) (outcome : OpOutcome) (presence subjectMoved : Option Bool) :
    State :=
  (s.setOp d none).notify .C (.opDone
    { drawer := d, op := o, outcome := outcome, presence := presence, asmState := (s.asm o.asm).state,
      stocked := (s.asm o.asm).stockedMark, subjectMoved := subjectMoved })

/-- The undo of an issue (R107): the assembly back to READY-stocked, the reserved pocket EMPTY, a linked entry back to
WAITING. -/
def undoIssue (s : State) (a c p : Nat) (link : Bool) : State :=
  let t := s.changeAsm a ((s.asm a).enter .ready)
  let u := if link then t.setPicks (movePick t.picks c p .waiting) else t
  u.changePocket c p .empty

/-- The subject-moved mark of Table 5.2, for a STOCK only. -/
def subjectMark (k : OpKind) (moved : Bool) : Option Bool :=
  match k with
  | .stock => some moved
  | _ => none

/-- Rollback of a drawer's operation (R111, Table 5.3). -/
def rollback (s : State) (d : Nat) (outcome : OpOutcome) : State :=
  match s.op d with
  | none => s
  | some o =>
    let t := match o.kind with
      | .issue c p link _ => s.undoIssue o.asm c p link
      | _ => s
    t.finishOp d o outcome none (subjectMark o.kind false)

/-- The close event of a STOCK (R100). -/
def closeStock (s : State) (d : Nat) (o : Operation) (present : Bool) : State :=
  let old := s.asm o.asm
  if present then
    if old.readyUnstocked then
      let t := (s.changeAsm o.asm { old with stock := some d }).setStock d (some o.asm) (s.drawer d).mismatch
      ((t.commitChange o.asm old).commitDrawer d (s.drawer d)).finishOp d o .completed (some true) (some false)
    else
      let t := (s.setStock d (s.drawer d).stock true).notify .C (.stockMismatch d none true)
      (t.commitDrawer d (s.drawer d)).finishOp d o .abandoned (some true) (some true)
  else s.finishOp d o .abandoned (some false) (some false)

/-- The close event of a WITHDRAW (R102). -/
def closeWithdraw (s : State) (d : Nat) (o : Operation) (present : Bool) : State :=
  if present then s.finishOp d o .abandoned (some true) none
  else
    let old := s.asm o.asm
    let t := (s.changeAsm o.asm { old with stock := none }).setStock d none (s.drawer d).mismatch
    ((t.commitChange o.asm old).commitDrawer d (s.drawer d)).finishOp d o .completed (some false) none

/-- The close event of an ISSUE (R106, R107). -/
def closeIssue (s : State) (d : Nat) (o : Operation) (c p : Nat) (link : Bool) (present : Bool) : State :=
  if present then (s.undoIssue o.asm c p link).finishOp d o .abandoned (some true) none
  else
    let old := s.asm o.asm
    let t := (s.changeAsm o.asm { old.enter .issued with binding := some (c, p) }).setStock d none (s.drawer d).mismatch
    let u := match link, findPick t.picks c p with
      | true, some k =>
        (t.setPicks (removePick t.picks c p)).notify .M (.pickDone c p k.family k.origin o.asm)
      | _, _ => t
    let v := u.changePocket c p (.bound o.asm)
    ((v.commitChange o.asm old).commitDrawer d (s.drawer d)).finishOp d o .completed (some false) none

end State

/-- The record with its staged limit applied (R109 part 2): limit and percent live, the warned mark recomputed, the
staged limit removed. -/
def AsmRecord.applyStaged (r : AsmRecord) : AsmRecord :=
  match r.staged with
  | none => r
  | some (l, w) =>
    let t := { r with limit := l, warn := w, staged := none }
    { t with warned := t.warnReached }

/-- The next state of a return (R109 part 3), from the record with the limit in force. -/
def AsmRecord.returnState (r : AsmRecord) (k : Condition) : AsmState :=
  if k = .damaged ∨ r.wornOut then .regrind else if r.markSet then .ready else .unmeasured

/-- The record after the return completion (R109): the COC supplies the stocked drawer `d`, and the ATB then removes the fields
that Table 1.2 marks absent for the next state (R6, R8), so READY and REGRIND are stocked in `d` and UNMEASURED is not
(log 28). -/
def AsmRecord.returned (r : AsmRecord) (k : Condition) (d : Nat) : AsmRecord :=
  let t := r.applyStaged
  { t with stock := some d }.enter (t.returnState k)

namespace State

/-- The close event of a RETURN (R109, R110). The drawer's stock becomes the assembly where the assembly's stocked drawer becomes
the drawer (law L3, log 28). -/
def closeReturn (s : State) (d : Nat) (o : Operation) (k : Condition) (present : Bool) : State :=
  if present then
    let old := s.asm o.asm
    let new := old.returned k d
    let t := (s.changeAsm o.asm new).setStock d (new.stock.map fun _ => o.asm) (s.drawer d).mismatch
    let u := match old.binding with
      | some (c, p) =>
        let v := match findPick t.picks c p with
          | some e =>
            if e.state = PickState.waitEmpty then
              (t.setPicks (movePick t.picks c p .waiting)).notify .C (.pickReady c p e.family e.origin)
            else t
          | none => t
        v.changePocket c p .empty
      | none => t
    ((u.commitChange o.asm old).commitDrawer d (s.drawer d)).finishOp d o .completed (some true) none
  else s.finishOp d o .abandoned (some false) none

/-- The close of a drawer handed to the COC with the presence level (R72). -/
def closeOp (s : State) (d : Nat) (o : Operation) (present : Bool) : State :=
  match o.kind with
  | .stock => s.closeStock d o present
  | .withdraw => s.closeWithdraw d o present
  | .issue c p link _ => s.closeIssue d o c p link present
  | .giveBack k => s.closeReturn d o k present

/-- "opened" reported to the COC (R93): the released mark is written, nothing else. -/
def reportOpened (s : State) (d : Nat) (released : Bool) : State :=
  match s.op d with
  | some o => s.setOp d (some { o with released := some released })
  | none => s

end State

end Sys2Proof.Machine
end

