-- ==== Sys2Proof/Machine/Blocks.lean ====
section
/-! DEFINITION. How handoff entries are formed and delivered, and how slots and read-ahead buffers are taken and queued
(Section 8). -/

namespace Sys2Proof.Machine

open Sys2Proof

/-! ### Entries (R153 to R156) -/

/-- A value in tenths converted to a unit, before the clamp (R155). -/
def convertUnit (u : CellUnit) (v : Int) : Int :=
  match u with
  | .micron => roundHalfAway v 10
  | .tenth => v
  | .inchE5 => roundHalfAway (v * 100) 254

/-- The clamp of a converted value to ±9,999,999 (R155). -/
def clampConverted (v : Int) : Int := clampInt (-9999999) 9999999 v

/-- The length of an entry before the clamp: the stored length plus the datum offset, converted (R155). -/
def convertLength (u : CellUnit) (datum : Int) (g : Geometry) : Int := convertUnit u ((g.length : Int) + datum)

/-- The radius of an entry before the clamp: R or 2R, converted; the datum offset does not apply (R155). -/
def convertRadius (u : CellUnit) (f : RadiusForm) (g : Geometry) : Int :=
  convertUnit u (match f with
    | .radius => (g.radius : Int)
    | .diameter => 2 * (g.radius : Int))

/-- An entry with no field but its status and, where present, an assembly number (Table 8.3). -/
def bareEntry (st : EntryStatus) (a : Option Nat) : Entry := ⟨st, a, none, none, none, none, false⟩

/-- An entry with the converted geometry and life remaining of a bound assembly, and a sister pocket (R155, R156). -/
def valueEntry (st : EntryStatus) (a : Nat) (r : AsmRecord) (b : Build) (sister : Option Nat) : Entry :=
  let l := r.geometry.map (convertLength b.block.unit b.datum)
  let d := r.geometry.map (convertRadius b.block.unit b.block.form)
  { status := st, asm := some a, length := l.map clampConverted, radius := d.map clampConverted, life := r.remaining,
    sister := sister, clamped := decide (l.map clampConverted ≠ l) || decide (d.map clampConverted ≠ d) }

namespace State

/-- The entry a build forms for a pocket from the records as they stand (R153). -/
def formEntry (s : State) (b : Build) (p : Nat) : Entry :=
  let c := b.block.ident.cell
  if (s.profile c).size ≤ p then bareEntry .absentPocket none
  else match s.pocket c p with
    | .empty => bareEntry .empty none
    | .reserved a => bareEntry .reserved (some a)
    | .bound a =>
      let r := s.asm a
      if !r.markSet then bareEntry .suspect (some a)
      else if r.state = .exhausted then valueEntry .exhausted a r b (s.chooseSisterPocket c r.family)
      else valueEntry .ok a r b none

/-- The UNSETTLED entry of a pocket at delivery (R160). -/
def unsettledEntry (s : State) (c p : Nat) : Entry :=
  bareEntry .unsettled (match s.pocket c p with
    | .empty => none
    | .reserved a => some a
    | .bound a => some a)

/-- The entries of a block with those of marked pockets made UNSETTLED (R160). -/
def settleEntries (s : State) (c : Nat) : Nat → List Bool → List Entry → List Entry
  | p, m :: ms, e :: es => (if m then s.unsettledEntry c p else e) :: settleEntries s c (p + 1) ms es
  | _, _, es => es

/-- A slot's block as it is delivered (R159, R160): as built when no mark is set; otherwise with the marked entries
UNSETTLED, in the byte order the profile holds at the delivery. -/
def deliverable (s : State) (h : Held) (b : Block) : Block :=
  if h.marks.any id then
    { b with order := (s.profile h.ident.cell).order
             entries := s.settleEntries h.ident.cell h.ident.start h.marks b.entries }
  else b

/-! ### Slots and buffers -/

/-- The lowest slot for which a test holds. -/
def findSlot (s : State) (f : Slot → Bool) : Option Nat := (List.range 4).find? fun i => f (s.slot i)

end State

/-- The identity a slot holds. -/
def Slot.ident : Slot → Option Ident
  | .free => none
  | .building h => some h.ident
  | .complete h _ _ => some h.ident

/-- The identity a read-ahead buffer holds. -/
def Buffer.ident : Buffer → Option Ident
  | .empty => none
  | .pending i => some i
  | .valid i _ => some i
  | .invalid i => some i

namespace State

/-- The slot that holds an identity (law L10: at most one). -/
def slotOf (s : State) (i : Ident) : Option Nat := s.findSlot fun x => decide (x.ident = some i)

/-- The read-ahead build of a cell removed from the queue, or abandoned when the builder is forming it, leaving the
builder idle (R161, R171). -/
def cancelReadAhead (s : State) (c : Nat) : State :=
  let t := s.setHob { s.hob with readAheads := s.hob.readAheads.filter fun x => decide (x ≠ c) }
  if s.formingReadAhead c then t.dropBuild else t

/-- The read-ahead build for the span after a delivered one (R171). -/
def queueReadAhead (s : State) (i : Ident) : State :=
  let next : Ident := ⟨i.cell, (i.start + i.size) % 128, i.size⟩
  if (s.slotOf next).isSome then s
  else
    let t := (s.cancelReadAhead i.cell).setBuffer i.cell (.pending next)
    (t.setHob { t.hob with readAheads := t.hob.readAheads ++ [i.cell] }).kickBuilder

/-- A FREE slot takes an identity (R161): BUILDING with rebuild count 0 and clear marks, its build at the tail of the slot
builds; the cell's buffer gives up the same identity; the idle builder takes its next build. -/
def takeSlot (s : State) (n : Nat) (i : Ident) : State :=
  let t := s.setSlot n (.building ⟨i, 0, List.replicate i.size false⟩)
  let u := t.setHob { t.hob with slotBuilds := t.hob.slotBuilds ++ [n] }
  let v := if (u.buffer i.cell).ident = some i then (u.cancelReadAhead i.cell).setBuffer i.cell .empty else u
  v.kickBuilder

/-- A slot's build queued again (R159, R165): the rebuild count rises by 1, the slot is BUILDING, its build at the tail of
the slot builds. -/
def requeueSlot (s : State) (n : Nat) (h : Held) : State :=
  let t := s.setSlot n (.building { h with rebuilds := h.rebuilds + 1 })
  t.setHob { t.hob with slotBuilds := t.hob.slotBuilds ++ [n] }

/-- A slot freed (R159, R169). -/
def freeSlot (s : State) (n : Nat) : State := s.setSlot n .free

/-- A COMPLETE slot's discard timer has reached the discard limit (R169). -/
def discardDue (s : State) (n : Nat) : Bool :=
  match s.slot n with
  | .complete _ _ t => decide (s.params.discardLimit ≤ t)
  | _ => false

end State

end Sys2Proof.Machine
end

