-- ==== Sys2Proof/Machine/Drawers.lean ====
section
/-! DEFINITION. What the Drawer Controller does: pulses, failed attempts, the driver fault and its flush, openings,
closings and the presence comparison (Section 4). -/

namespace Sys2Proof.Machine

open Sys2Proof

namespace State

/-- Drawer `d` in a state with its attempt count, its wait stopped. -/
def drawerRest (s : State) (d : Nat) (st : DrawerState) (attempts : Nat) : State :=
  s.setDrawer d { s.drawer d with state := st, attempts := attempts, waitTimer := 0 }

/-- Drawer `d` begins to wait (R80): RETRY_WAIT or BACKOFF with its wait time in ms, the wait timer from 0. -/
def drawerWait (s : State) (d : Nat) (st : DrawerState) (attempts time : Nat) : State :=
  s.setDrawer d { s.drawer d with state := st, attempts := attempts, waitTimer := 0, waitTime := time }

/-- Drawer `d` appended at the tail of the release queue as QUEUED with its attempt count (R73, R75). -/
def queueDrawer (s : State) (d attempts : Nat) : State :=
  (s.drawerRest d .queued attempts).setReleaseQueue (s.drc.queue ++ [d])

/-- The end of a pulse (R76): the driver is IDLE, its pulse timer stopped; the bus keeps the drawer number. -/
def endPulse (s : State) : State := s.setDriver { s.drc.driver with pulsing := none, pulseTimer := 0 }

/-- The overcurrent count written. -/
def setOvercurrents (s : State) (n : Nat) : State := s.setDriver { s.drc.driver with overcurrents := n }

/-- The drawers of the release set in ascending drawer number (R81). -/
def releaseSet (s : State) : List Nat := (List.range 64).filter fun d => (s.drawer d).state.releasing

/-- The driver fault (R81): the condition latched, the release set flushed to CLOSED, DRIVER_FAULT, then each drawer's
operation rolled back in ascending drawer number. -/
def driverFault (s : State) (d : Nat) : State :=
  let flushed := s.releaseSet
  let t := (s.setDriver { s.drc.driver with fault := true }).setReleaseQueue []
  let u := flushed.foldl (fun v x => State.drawerRest v x .closed 0) t
  let w := u.notify .C (.driverFault d flushed.length)
  flushed.foldl (fun v x => State.rollback v x .driverFault) w

/-- A failed attempt on the drawer whose pulse ended (R80), after the overcurrent count took its new value. -/
def failedAttempt (s : State) (d : Nat) : State :=
  let n := (s.drawer d).attempts + 1
  if s.drc.driver.overcurrents = 3 then s.driverFault d
  else if s.params.attemptLimit ≤ n then
    ((s.drawerRest d .jammed n).notify .C (.drawerJammed d n)).rollback d .jammed
  else if n % (s.params.quickRetries + 1) = 0 then s.drawerWait d .backoff n (s.params.backOff * 1000)
  else s.drawerWait d .retryWait n s.params.quickRetryWait

/-- A pulse ended by overcurrent (R79): the overcurrent count rises, the sense assertion is spent on this pulse. -/
def overcurrentPulse (s : State) (d : Nat) : State :=
  let t := (s.endPulse.setOvercurrents (s.drc.driver.overcurrents + 1)).setPins { s.pins with sense := .spent }
  t.failedAttempt d

/-- A pulse begins on a drawer (R76): PULSING, the driver BUSY with it, the pulse timer from 0 with the pulse width in
force, the drawer number on the bus. -/
def beginPulse (s : State) (d : Nat) : State :=
  let t := s.setDrawer d { s.drawer d with state := .pulsing }
  t.setDriver { t.drc.driver with pulsing := some d, pulseTimer := 0, pulseWidth := s.params.pulseWidth, bus := d }

/-- The driver takes heads of the queue while it is IDLE and OK (R74): an overcurrent assertion found at the start of a
pulse ends that pulse at once (R76, R79). Each turn takes one drawer from the queue, so `fuel` = its length suffices. -/
def runDriver : Nat → State → State
  | 0, s => s
  | fuel + 1, s =>
    if s.drc.driver.pulsing.isNone && !s.drc.driver.fault then
      match s.drc.queue with
      | [] => s
      | d :: q =>
        let t := (s.setReleaseQueue q).beginPulse d
        if t.pins.sense = .asserted then runDriver fuel (t.overcurrentPulse d) else t
    else s

/-- The driver takes the next head of the queue (R74). -/
def kickDriver (s : State) : State := runDriver s.drc.queue.length s

/-- The release checks of R73: the status of the first that fails. -/
def releaseRefusal (s : State) (d : Nat) : Option Status :=
  if (s.drawer d).state ≠ .closed then some .wrongState
  else if s.drc.driver.fault then some .drawerFault
  else if 8 ≤ s.releaseCount then some .busy
  else none

/-- A release accepted (R73): QUEUED with attempt count 0 at the tail of the queue, the driver taking it when IDLE and
OK. -/
def requestRelease (s : State) (d : Nat) : State := (s.queueDrawer d 0).kickDriver

/-- Drawer `d` becomes OPEN with attempt count 0, the open timer from 0 (R71, R77). -/
def openDrawer (s : State) (d : Nat) : State :=
  s.setDrawer d { s.drawer d with state := .opened, attempts := 0, waitTimer := 0, openTimer := 0 }

/-- The comparison of R86 for a drawer at rest: the mismatch mark set or cleared, with STOCK_MISMATCH when presence and
stock disagree. The caller dirties the drawer by `commitDrawer`. -/
def comparePresence (s : State) (d : Nat) : State :=
  let r := s.drawer d
  if r.agrees then s.setDrawer d { r with mismatch := false }
  else (s.setDrawer d { r with mismatch := true }).notify .C (.stockMismatch d r.stock r.present)

/-- A drawer's stock removed when its assembly gives it up other than by an operation: the mark settled when the drawer is
CLOSED, the drawer record dirtied (R97). -/
def clearStock (s : State) (d : Nat) : State :=
  let t := s.setStock d none (s.drawer d).mismatch
  (if (s.drawer d).state = .closed then t.comparePresence d else t).commitDrawer d (s.drawer d)

/-- An open event (R71, R77) on a drawer whose open level has just become open. -/
def openEvent (s : State) (d : Nat) : State :=
  let r := s.drawer d
  match r.state with
  | .closed => (s.openDrawer d).notify .C (.drawerForced d .closed r.stock)
  | .jammed => (s.openDrawer d).notify .C (.drawerForced d .jammed r.stock)
  | .queued =>
    (((s.setReleaseQueue (s.drc.queue.erase d)).openDrawer d).notify .C (.drawerOpened d r.attempts false)).reportOpened
      d false
  | .retryWait | .backoff =>
    ((s.openDrawer d).notify .C (.drawerOpened d r.attempts false)).reportOpened d false
  | .pulsing =>
    ((((s.endPulse.setOvercurrents 0).openDrawer d).notify .C (.drawerOpened d r.attempts true)).reportOpened
      d true).kickDriver
  | .opened => s

/-- A close event (R72) on a drawer whose open level has just become closed: CLOSED, then the operation's close or the
presence comparison. -/
def closeEvent (s : State) (d : Nat) : State :=
  let t := s.setDrawer d { s.drawer d with state := .closed, attempts := 0, openReported := false, openTimer := 0 }
  match t.op d with
  | some o => t.closeOp d o (t.drawer d).present
  | none => (t.comparePresence d).commitDrawer d (s.drawer d)

/-- The pulse timer has reached the pulse width (R78). -/
def pulseDue (s : State) : Bool :=
  s.drc.driver.pulsing.isSome && decide (s.drc.driver.pulseWidth ≤ s.drc.driver.pulseTimer)

/-- The wait timer of a waiting drawer has reached its wait time (R75). -/
def waitDue (s : State) (d : Nat) : Bool :=
  (s.drawer d).state.waiting && decide ((s.drawer d).waitTime ≤ (s.drawer d).waitTimer)

/-- The open timer of an OPEN drawer has reached the open-time limit with its mark clear (R85). -/
def openDue (s : State) (d : Nat) : Bool :=
  decide ((s.drawer d).state = .opened) && !(s.drawer d).openReported
    && decide (s.params.openLimit * 1000 ≤ (s.drawer d).openTimer)

/-- The open-time-reported mark set, with DRAWER_LEFT_OPEN (R85). -/
def reportLeftOpen (s : State) (d : Nat) : State :=
  (s.setDrawer d { s.drawer d with openReported := true }).notify .C (.drawerLeftOpen d (s.op d).isSome)

end State

end Sys2Proof.Machine
end

