-- ==== Sys2Proof/Config.lean ====
section
/-! DEFINITION. The values the manual leaves open, as constants with no body: nothing in Lean can evaluate them, so
a statement that holds of this model holds whatever they are (log 8). -/

namespace Sys2Proof

/-- FREE VALUE (log 8): a byte of an absent field of a reply, which "is present in the frame and is ignored" (R190):
the byte at an offset of the body of the reply that is held with this draw. DESIGN CHOICE, safe. -/
opaque Config.absentByte (draw offset : Nat) : BitVec 8

/-- FREE VALUE (log 8): the presence byte of a present field of a reply; R190 allows every value but 00h, and
`Sys2Proof.Machine.presenceByte` keeps it from being 00h. DESIGN CHOICE, safe. -/
opaque Config.presentByte (draw offset : Nat) : BitVec 8

end Sys2Proof
end

