-- ==== Sys2Proof/Machine/Layout.lean ====
section
/-! DEFINITION. The bytes of replies, notices and handoff blocks (R190, R201, Tables 10.4, 10.6 to 10.8), the CRC-8 of
frames (R191) and the check value of pages (R176). Logs 8 to 11 name what the spec leaves open. -/

namespace Sys2Proof.Machine

open Sys2Proof

/-! ### The CRC-8 of frames (R191) -/

/-- One bit of the CRC step: shift left, and add x⁸ + x² + x + 1 when a 1 leaves at the top. -/
def crcBit (c : Byte) : Byte := if c.msb then (c <<< 1) ^^^ 0x07#8 else c <<< 1

/-- One byte taken into the CRC, most significant bit first. -/
def crcByte (c b : Byte) : Byte := crcBit (crcBit (crcBit (crcBit (crcBit (crcBit (crcBit (crcBit (c ^^^ b))))))))

/-- The CRC-8 of a byte sequence: polynomial 07h, initial value FFh, no reflection, no final inversion. -/
def crc8 (l : List Byte) : Byte := l.foldl crcByte 0xFF#8

/-! ### Wire bytes -/

/-- A byte of a reply body: fixed by the spec, the presence byte of a present field, or a byte of an absent field. -/
inductive WireByte where
  | byte (b : Byte)
  | present
  | filler
deriving DecidableEq, Repr

/-- A body or a part of one. -/
abbrev Wire := List WireByte

/-- The low byte of a number. -/
def lowByte (v : Nat) : Byte := BitVec.ofNat 8 v

/-- A number in `w` bytes, low byte first (R190). -/
def leBytes : Nat → Nat → List Byte
  | 0, _ => []
  | w + 1, v => lowByte v :: leBytes w (v / 256)

/-- A signed number as the unsigned number of its two's complement in `w` bytes (R190). -/
def twos (w : Nat) (v : Int) : Nat := (v % (256 ^ w : Nat)).toNat

/-- An unsigned number of `w` bytes in a body. -/
def num (w v : Nat) : Wire := (leBytes w v).map .byte

/-- A signed number of `w` bytes in a body. -/
def snum (w : Nat) (v : Int) : Wire := num w (twos w v)

/-- A mark: 00h clear, 01h set (R190). A field that says whether something holds, which the spec does not call a mark (R64,
R85, R187, R200), is written in the same way: 01h that it does, 00h that it does not (log 10). -/
def mark (b : Bool) : Wire := num 1 (if b then 1 else 0)

/-- An optional field of `w` bytes behind its presence byte: 00h absent, with the bytes of the absent value in place
(R190). -/
def optional {α : Type} (w : Nat) (f : α → Wire) : Option α → Wire
  | none => .byte 0 :: List.replicate w .filler
  | some x => .present :: f x

/-! ### Enumerated values, numbered from 0 in the order their section first lists them (R190, log 9) -/

/-- Table 1.3. -/
def AsmState.code : AsmState → Nat
  | .vacant => 0
  | .unmeasured => 1
  | .measuring => 2
  | .ready => 3
  | .quarantined => 4
  | .issuing => 5
  | .issued => 6
  | .exhausted => 7
  | .regrind => 8
  | .lost => 9

/-- Table 1.1: UNMEASURED, QUARANTINED or READY. -/
def PriorState.code : PriorState → Nat
  | .unmeasured => 0
  | .quarantined => 1
  | .ready => 2

/-- R4. -/
def FailReason.code : FailReason → Nat
  | .tooFew => 0
  | .underrange => 1
  | .overrange => 2
  | .outOfTolerance => 3

/-- NONE, COUNT, TIME: the order of Table 1.1. The spec leaves open which section owns the life mode for its numbers, for
R134 lists COUNT, TIME, NONE (log 9). -/
def LifeMode.code : LifeMode → Nat
  | .none => 0
  | .count => 1
  | .time => 2

/-- Table 1.1: none, P, C. -/
def holderCode : Option Port → Nat
  | some .P => 1
  | some .C => 2
  | _ => 0

/-- R36. -/
def SessionOutcome.code : SessionOutcome → Nat
  | .ready => 0
  | .quarantined => 1
  | .abandoned => 2
  | .aborted => 3
  | .calibrated => 4
  | .tooFew => 5
  | .calRange => 6

/-- R25. -/
def SessionTag.code : SessionTag → Nat
  | .measure => 0
  | .zero => 1
  | .span => 2

/-- Table 3.1: BLANK, ZEROED, SPANNED, INVALID. -/
def RefSet.code : RefSet → Nat
  | .blank => 0
  | .zeroed _ _ => 1
  | .spanned _ _ _ _ _ _ _ => 2
  | .invalid => 3

/-- Table 4.1. -/
def DrawerState.code : DrawerState → Nat
  | .closed => 0
  | .queued => 1
  | .pulsing => 2
  | .retryWait => 3
  | .backoff => 4
  | .opened => 5
  | .jammed => 6

/-- Table 4.1: open or closed. -/
def levelCode (isOpen : Bool) : Nat := if isOpen then 0 else 1

/-- Table 4.1: present or absent. -/
def presenceCode (present : Bool) : Nat := if present then 0 else 1

/-- R108. -/
def Condition.code : Condition → Nat
  | .good => 0
  | .damaged => 1

/-- Table 5.1. -/
def OpKind.code : OpKind → Nat
  | .stock => 0
  | .withdraw => 1
  | .issue _ _ _ _ => 2
  | .giveBack _ => 3

/-- Table 5.2. -/
def OpOutcome.code : OpOutcome → Nat
  | .completed => 0
  | .abandoned => 1
  | .cancelled => 2
  | .jammed => 3
  | .driverFault => 4

/-- Table 10.7. -/
def CellUnit.code : CellUnit → Nat
  | .micron => 0
  | .tenth => 1
  | .inchE5 => 2

/-- Table 10.7. -/
def RadiusForm.code : RadiusForm → Nat
  | .radius => 0
  | .diameter => 1

/-- Table 6.1. -/
def ByteOrder.code : ByteOrder → Nat
  | .little => 0
  | .big => 1

/-- Table 6.1: on, off. -/
def autoCode (on : Bool) : Nat := if on then 0 else 1

/-- R122. -/
def Origin.code : Origin → Nat
  | .machine => 0
  | .auto => 1

/-- R122. -/
def PickState.code : PickState → Nat
  | .waitEmpty => 0
  | .waiting => 1
  | .inIssue => 2

/-- Table 9.5. -/
def Cause.code : Cause → Nat
  | .powerOn => 0
  | .resetInput => 1
  | .restart => 2

/-- Table 10.4. -/
def Status.code : Status → Nat
  | .ok => 0
  | .retry => 1
  | .loading => 2
  | .notReady => 3
  | .frameError => 4
  | .unknownKind => 5
  | .notPermitted => 6
  | .badArgument => 7
  | .wrongState => 8
  | .locked => 9
  | .busy => 10
  | .notFound => 11
  | .full => 12
  | .pocketOccupied => 13
  | .staleReference => 14
  | .certified => 15
  | .drawerFault => 16

/-- Table 10.8. -/
def EntryStatus.code : EntryStatus → Nat
  | .absentPocket => 0
  | .empty => 1
  | .reserved => 2
  | .ok => 3
  | .exhausted => 4
  | .suspect => 5
  | .unsettled => 6

/-! ### The handoff block (R201) -/

/-- A number in `w` bytes in a byte order. -/
def orderedBytes (o : ByteOrder) (w v : Nat) : List Byte :=
  match o with
  | .little => leBytes w v
  | .big => (leBytes w v).reverse

/-- One 18-byte entry (Table 10.8): every byte of an absent field is 00h. -/
def Entry.bytes (o : ByteOrder) (e : Entry) : List Byte :=
  let bit (n : Nat) (b : Bool) : Nat := if b then 2 ^ n else 0
  [lowByte e.status.code,
    lowByte (bit 0 e.asm.isSome + bit 1 e.length.isSome + bit 2 e.radius.isSome + bit 3 e.life.isSome
      + bit 4 e.sister.isSome),
    lowByte (bit 0 e.clamped)]
    ++ orderedBytes o 2 (e.asm.getD 0)
    ++ orderedBytes o 4 (twos 4 (e.length.getD 0))
    ++ orderedBytes o 4 (twos 4 (e.radius.getD 0))
    ++ orderedBytes o 4 (e.life.getD 0)
    ++ [lowByte (e.sister.getD 0)]

/-- The block: the 6-byte header of Table 10.7 and its entries. -/
def Block.bytes (rebuilds : Nat) (b : Block) : List Byte :=
  [lowByte b.ident.cell, lowByte b.ident.start, lowByte b.ident.size, lowByte b.unit.code, lowByte b.form.code,
    lowByte rebuilds] ++ (b.entries.map (Entry.bytes b.order)).flatten

/-! ### Parts of bodies -/

/-- A pair of numbers of 4 bytes each. -/
def pairWire (x : Nat × Nat) : Wire := num 4 x.1 ++ num 4 x.2

/-- The fields of SESSION_DONE in the order of R36. -/
def SessionDone.wire (d : SessionDone) : Wire :=
  num 1 d.kind.code ++ num 2 d.subject ++ num 1 d.outcome.code
    ++ optional 1 (fun r : FailReason => num 1 r.code) d.reason ++ optional 4 (num 4) d.length
    ++ optional 4 (num 4) d.radius ++ num 1 d.used ++ num 1 d.rejected ++ optional 1 (num 1) d.discarded
    ++ optional 2 (num 2) d.temp ++ optional 1 mark d.tempClamped

/-- The nine values of a curve. -/
def curveWire (c : Curve) : Wire := (c.toList.map (snum 2)).flatten

/-- The optional fields of a set in the order of R64: zeros, scales, Lm, Dm, each behind its presence byte. -/
def RefSet.fieldsWire (r : RefSet) : Wire :=
  let zeros : Option (Nat × Nat) := match r with
    | .zeroed a b => some (a, b)
    | .spanned a b _ _ _ _ _ => some (a, b)
    | _ => none
  let scales : Option (Nat × Nat) := match r with
    | .spanned _ _ c d _ _ _ => some (c, d)
    | _ => none
  let lm : Option Nat := match r with
    | .spanned _ _ _ _ e _ _ => some e
    | _ => none
  let dm : Option Nat := match r with
    | .spanned _ _ _ _ _ f _ => some f
    | _ => none
  optional 8 pairWire zeros ++ optional 4 (fun x : Nat × Nat => num 2 x.1 ++ num 2 x.2) scales
    ++ optional 4 (num 4) lm ++ optional 4 (num 4) dm

/-- An operation's fields in the order of Table 5.1; the cell and pocket, which only an ISSUE has, behind one presence byte
(log 10). -/
def Operation.wire (o : Operation) : Wire :=
  num 1 o.kind.code ++ num 2 o.asm
    ++ optional 2 (fun x : Nat × Nat => num 1 x.1 ++ num 1 x.2) (match o.kind with
      | .issue c p _ _ => some (c, p)
      | _ => none)

/-- The fields of OP_DONE in the order of Table 5.2. The picked mark and the pick link of an ISSUE stand as two marks behind
one presence byte. The spec leaves open how the pick link, "present or absent", is coded, and how "stocked or unstocked" of
the assembly state; here they are marks, 01h present and stocked, 00h absent and unstocked, the second optional behind the
state (log 10). -/
def OpDone.wire (d : OpDone) : Wire :=
  num 1 d.drawer ++ d.op.wire
    ++ optional 2 (fun x : Bool × Bool => mark x.1 ++ mark x.2) (match d.op.kind with
      | .issue _ _ link picked => some (picked, link)
      | _ => none)
    ++ optional 1 (fun k : Condition => num 1 k.code) (match d.op.kind with
      | .giveBack k => some k
      | _ => none)
    ++ num 1 d.outcome.code ++ optional 1 (fun b => num 1 (presenceCode b)) d.presence
    ++ optional 1 mark d.op.released ++ num 1 d.asmState.code ++ optional 1 mark d.stocked
    ++ optional 1 mark d.subjectMoved

/-- A pocket map entry: its value, and the assembly of RESERVED and BOUND. The spec leaves open how the assembly is laid out
in an entry that has none; here every entry carries it as an optional number, absent for EMPTY (log 10). -/
def Pocket.wire (e : Pocket) : Wire :=
  match e with
  | .empty => num 1 0 ++ optional 2 (num 2) none
  | .reserved a => num 1 1 ++ optional 2 (num 2) (some a)
  | .bound a => num 1 2 ++ optional 2 (num 2) (some a)

/-- The seven fields of a profile in the order of Table 6.1. -/
def Profile.wire (p : Profile) : Wire :=
  num 1 p.size ++ num 1 p.unit.code ++ num 1 p.form.code ++ num 1 p.order.code ++ snum 4 p.datum ++ num 1 p.factor
    ++ num 1 (autoCode p.autoRequest)

/-- A limit of 4 bytes and a warn percent. -/
def limitWire (x : Nat × Nat) : Wire := num 4 x.1 ++ num 1 x.2

/-- The life fields in the order of Table 1.1. -/
def LifeFields.wire (f : LifeFields) : Wire :=
  num 1 f.mode.code ++ num 4 f.limit ++ num 1 f.warn ++ optional 5 limitWire f.staged ++ num 4 f.used
    ++ num 4 f.committed ++ mark f.warned

/-- The fields of a record from family to rejected measurement, in the order of Table 1.1. -/
def AsmRecord.toolWire (r : AsmRecord) : Wire :=
  optional 1 (num 1) r.family ++ optional 8 pairWire r.nomLength ++ optional 8 pairWire r.nomRadius
    ++ optional 8 (fun g : Geometry => num 4 g.length ++ num 4 g.radius) r.geometry
    ++ optional 7 (fun f : Facts => num 1 f.refSet ++ mark f.current ++ num 2 f.temp ++ num 1 f.used ++ num 1 f.rejected
        ++ mark f.tempClamped) r.facts
    ++ optional 12 (fun x : Rejected => num 1 x.reason.code ++ optional 4 (num 4) x.length
        ++ optional 4 (num 4) x.radius ++ mark x.valueHeld) r.rejected

/-- Stocked drawer and binding, in the order of Table 1.1. -/
def AsmRecord.placeWire (r : AsmRecord) : Wire :=
  optional 1 (num 1) r.stock ++ optional 2 (fun x : Nat × Nat => num 1 x.1 ++ num 1 x.2) r.binding

/-- The record's fields in the order of Table 1.1, the idle timer left out (R18). The prior state, which only a MEASURING record
has, stands in every body as an optional field, absent in the other states (log 10). -/
def AsmRecord.wire (r : AsmRecord) : Wire :=
  num 1 r.state.code ++ optional 1 (fun p : PriorState => num 1 p.code) r.prior ++ r.toolWire ++ r.lifeFields.wire
    ++ r.placeWire ++ num 1 (holderCode r.holder)

/-! ### Pages (R176) -/

/-- One bit of the page code: shift left, and add x¹⁶ + x¹² + x⁵ + 1 when a 1 leaves at the top. -/
def checkBit (c : BitVec 16) : BitVec 16 := if c.msb then (c <<< 1) ^^^ 0x1021#16 else c <<< 1

/-- One byte taken into the page code, most significant bit first. -/
def checkByte (c : BitVec 16) (b : Byte) : BitVec 16 :=
  checkBit (checkBit (checkBit (checkBit (checkBit (checkBit (checkBit (checkBit (c ^^^ (b.setWidth 16 <<< 8)))))))))

/-- The cyclic code of a byte sequence: polynomial x¹⁶ + x¹² + x⁵ + 1, initial value FFFFh, no reflection, no final
inversion (R176). -/
def crc16 (l : List Byte) : BitVec 16 := l.foldl checkByte 0xFFFF#16

/-- A byte of a view as its page holds it: a presence byte is 01h, a byte of an absent field 00h (log 11). -/
def WireByte.stored : WireByte → Byte
  | .byte b => b
  | .present => 1
  | .filler => 0

/-- The fields of a persistent view: of an assembly those of R21, of a drawer R68, of a cell R115, of a set R50, of the curve
record R51 and R62, the ten parameters in 4 bytes each. The spec gives the layout of no page: log 11. -/
def View.wire : View → Wire
  | .asm r =>
    num 1 r.state.code ++ r.toolWire ++ num 1 r.mode.code ++ num 4 r.limit ++ num 1 r.warn ++ optional 5 limitWire r.staged
      ++ num 4 r.used ++ mark r.warned ++ r.placeWire
  | .drawer stock mismatch => optional 2 (num 2) stock ++ mark mismatch
  | .cell p => p.wire
  | .ref r => num 1 r.code ++ r.fieldsWire ++ mark r.certified
  | .curve c active => curveWire c ++ optional 1 (num 1) active
  | .params p => ((List.range 10).map fun n => num 4 (p.get n)).flatten

/-- The check value formed over a key number and a view (R176). -/
def checkValue (key : Nat) (v : View) : BitVec 16 := crc16 (leBytes 2 key ++ v.wire.map WireByte.stored)

/-- A page written whole: view, key number and the check value formed over them (R176). -/
def Page.whole (key : Nat) (v : View) : Page := .written key v (checkValue key v)

/-- A pick entry's fields in the order of R122. -/
def Pick.wire (k : Pick) : Wire :=
  num 1 k.cell ++ num 1 k.pocket ++ num 1 k.family ++ num 1 k.origin.code ++ num 1 k.state.code

/-- The notice code of Table 10.6. -/
def Notice.code : Notice → Nat
  | .lockExpired _ => 0x01
  | .sessionDone _ => 0x02
  | .curveApplied _ => 0x03
  | .drawerOpened _ _ _ => 0x04
  | .drawerForced _ _ _ => 0x05
  | .drawerJammed _ _ => 0x06
  | .driverFault _ _ => 0x07
  | .drawerLeftOpen _ _ => 0x08
  | .stockMismatch _ _ _ => 0x09
  | .opDone _ => 0x0A
  | .pocketChanged _ _ _ => 0x0B
  | .pickDone _ _ _ _ _ => 0x0C
  | .pickReady _ _ _ _ => 0x0D
  | .pickAdded _ _ _ _ _ _ => 0x0E
  | .pickRefused _ _ _ _ => 0x0F
  | .pickWithdrawn _ _ _ _ _ => 0x10
  | .lifeWarning _ _ _ _ _ _ _ => 0x11
  | .lifeExhausted _ _ _ _ _ _ => 0x12
  | .started _ => 0x13

/-- A notice's fields in the order its section gives them (R198). -/
def Notice.wire : Notice → Wire
  | .lockExpired a => num 2 a
  | .sessionDone d => d.wire
  | .curveApplied c => curveWire c
  | .drawerOpened d n r => num 1 d ++ num 1 n ++ mark r
  | .drawerForced d st k => num 1 d ++ num 1 st.code ++ optional 2 (num 2) k
  | .drawerJammed d n => num 1 d ++ num 1 n
  | .driverFault d n => num 1 d ++ num 1 n
  | .drawerLeftOpen d o => num 1 d ++ mark o
  | .stockMismatch d k pr => num 1 d ++ optional 2 (num 2) k ++ num 1 (presenceCode pr)
  | .opDone d => d.wire
  | .pocketChanged c p e => num 1 c ++ num 1 p ++ e.wire
  | .pickDone c p f o a => num 1 c ++ num 1 p ++ num 1 f ++ num 1 o.code ++ num 2 a
  | .pickReady c p f o => num 1 c ++ num 1 p ++ num 1 f ++ num 1 o.code
  | .pickAdded c p f o st n => num 1 c ++ num 1 p ++ num 1 f ++ num 1 o.code ++ num 1 st.code ++ num 1 n
  | .pickRefused c p f a => num 1 c ++ num 1 p ++ num 1 f ++ num 2 a
  | .pickWithdrawn c p f o st => num 1 c ++ num 1 p ++ num 1 f ++ num 1 o.code ++ num 1 st.code
  | .lifeWarning a c p u l w r =>
    num 2 a ++ num 1 c ++ num 1 p ++ num 4 u ++ num 4 l ++ num 1 w ++ optional 4 (num 4) r
  | .lifeExhausted a c p f u l =>
    num 2 a ++ num 1 c ++ num 1 p ++ optional 1 (num 1) f ++ num 4 u ++ num 4 l
  | .started d =>
    num 1 d.cause.code ++ num 2 (d.asm + d.drawer + d.cell + d.ref + d.curve + d.params) ++ num 2 d.asm
      ++ num 1 d.drawer ++ num 1 d.cell ++ num 1 d.ref ++ num 1 d.curve ++ num 1 d.params ++ num 2 d.keys

/-! ### Bodies -/

/-- The identity of a handoff request (R201). -/
def Ident.wire (i : Ident) : Wire := num 1 i.cell ++ num 1 i.start ++ num 1 i.size

/-- The bytes of a reply body, field by field as the rule of its request orders them (R190). Log 10 names what those rules
leave open and the model settles, among it: "none" of the active-set number of READ_CURVE (R64) and of the session kind of
STATUS (R200) is an absent optional field, 00h before the byte of the absent value; the STAGED reply of SET_LIFE (R146)
carries the staged values and then all seven life fields, the staged limit among them once more; and a field that says whether
something is so (the set is the active set, R64; the COC holds an operation, R85; a commit is in flight, R187 and R200), which
no rule calls a mark, is written as one, 01h for yes and 00h for no. -/
def Body.wire : Body → Wire
  | .empty => []
  | .phase drain => num 1 (if drain then 0 else 1)
  | .measureOpened a pr k => num 2 a ++ num 1 pr.code ++ num 1 k
  | .readingCount n => num 1 n
  | .sessionDone d => d.wire
  | .zeroOpened k r => num 1 k ++ num 1 r.code
  | .spanOpened k r lm dm => num 1 k ++ num 1 r.code ++ num 4 lm ++ num 4 dm
  | .activeSet k => num 1 k
  | .curveWritten applied => num 1 (if applied then 0 else 1)
  | .reference k r act => num 1 k ++ num 1 r.code ++ mark r.certified ++ mark act ++ r.fieldsWire
  | .curve c st act => curveWire c ++ optional 18 curveWire st ++ optional 1 (num 1) act
  | .assembly a => num 2 a
  | .operation k a d st =>
    num 1 k.code ++ num 2 a ++ num 1 d ++ optional 2 (fun x : Nat × Nat => num 1 x.1 ++ num 1 x.2) (match k with
      | .issue c p _ _ => some (c, p)
      | _ => none) ++ num 1 st.code
  | .driverCondition f => num 1 (if f then 1 else 0)
  | .lifeApplied f r => num 1 0 ++ f.wire ++ optional 4 (num 4) r
  | .lifeStaged l w f => num 1 1 ++ limitWire (l, w) ++ f.wire
  | .profile p => p.wire
  | .drawer d r pos o =>
    num 1 d ++ num 1 r.state.code ++ optional 2 (num 2) r.stock ++ mark r.mismatch ++ num 1 r.attempts
      ++ mark r.openReported ++ num 1 (levelCode r.levelOpen) ++ num 1 (presenceCode r.present)
      ++ optional 1 (num 1) pos ++ optional 6 Operation.wire o
  | .picks l =>
    num 1 l.length ++ (l.map fun x => x.1.wire
      ++ optional 3 (fun y : Nat × Nat => num 2 y.1 ++ num 1 y.2) x.2).flatten
  | .restartAccepted n f => num 2 n ++ mark f
  | .restartRefused none => num 1 0
  | .restartRefused (some d) => num 1 1 ++ num 1 d
  | .lockHolder a p => num 2 a ++ num 1 (holderCode (some p))
  | .record a r => num 2 a ++ r.wire
  | .block n b => (b.bytes n).map .byte
  | .retry i n k f => i.wire ++ num 1 n ++ num 1 k ++ num 1 (if f then 1 else 0)
  | .identity i => i.wire
  | .usage a st u n r w x =>
    num 2 a ++ num 1 st.code ++ num 4 u ++ num 4 n ++ optional 4 (num 4) r ++ mark w ++ num 2 x
  | .pickEntry c p st n => num 1 c ++ num 1 p ++ num 1 st.code ++ num 1 n
  | .cell c p l n => num 1 c ++ p.wire ++ (l.map Pocket.wire).flatten ++ num 1 n
  | .notice o none => mark o ++ num 1 0
  | .notice o (some n) => mark o ++ num 1 n.code ++ n.wire
  | .status b f n x rel fr pk ks fl nt ov =>
    num 1 (if b then 1 else 0) ++ num 1 (if f then 1 else 0) ++ num 1 n
      ++ optional 1 (fun t : SessionTag => num 1 t.code) x ++ num 1 rel ++ num 1 fr ++ num 1 pk ++ num 2 ks ++ mark fl
      ++ num 1 nt ++ mark ov
  | .parameter n v => num 1 n ++ num 4 v

/-! ### Reply frames (R190) -/

/-- The presence byte of a present field: any value but 00h (R190, log 8). -/
def presenceByte (draw offset : Nat) : Byte :=
  if Config.presentByte draw offset = 0 then 1 else Config.presentByte draw offset

/-- The bytes of a body at a draw of the free values, from an offset on. -/
def resolveWire (draw : Nat) : Nat → Wire → List Byte
  | _, [] => []
  | n, .byte b :: l => b :: resolveWire draw (n + 1) l
  | n, .present :: l => presenceByte draw n :: resolveWire draw (n + 1) l
  | n, .filler :: l => Config.absentByte draw n :: resolveWire draw (n + 1) l

/-- The status byte: the code in the low seven bits, the CLAMPED mark in the top bit (R190). -/
def statusByte (st : Status) (clamped : Bool) : Byte := lowByte (st.code + if clamped then 128 else 0)

/-- The reply frame: status byte, tag, body length low byte first, body, CRC-8 (R190, R191). -/
def replyFrame (draw : Nat) (r : Reply) : List Byte :=
  let body := resolveWire draw 0 r.body.wire
  let f := [statusByte r.status r.clamped, r.tag] ++ leBytes 2 body.length ++ body
  f ++ [crc8 f]

end Sys2Proof.Machine
end

