-- ==== Sys2Proof/Machine/Frames.lean ====
section
/-! DEFINITION. Request frames (R190 to R192): the kind codes, permitted ports and body lengths of Table 10.3, the frame
check, the request a sound frame carries, and the frame that carries a request. -/

namespace Sys2Proof.Machine

open Sys2Proof

/-- The request kinds, in the order of Table 10.3. -/
inductive Kind where
  | measureOpen
  | reading
  | sessionClose
  | sessionAbandon
  | zeroOpen
  | spanOpen
  | selectReference
  | certifyReference
  | unlockReference
  | writeCurve
  | readReference
  | readCurve
  | register
  | retire
  | stock
  | withdraw
  | issue
  | issuePick
  | returnTool
  | returnFromRegrind
  | cancelDrawer
  | clearJam
  | clearDriver
  | setLife
  | writeCell
  | readDrawer
  | readPicks
  | restart
  | lock
  | unlock
  | readRecord
  | handoff
  | usage
  | requestTool
  | withdrawRequest
  | readCell
  | readNotice
  | status
  | setParameter
deriving DecidableEq, Repr

/-- One row of Table 10.3. -/
structure KindRow where
  code : Nat
  kind : Kind
  ports : List Port
  length : Nat
deriving DecidableEq, Repr

/-- Table 10.3: the kinds of port P. -/
def presetterKinds : List KindRow :=
  [⟨0x01, .measureOpen, [.P], 2⟩, ⟨0x02, .reading, [.P], 8⟩, ⟨0x03, .sessionClose, [.P], 2⟩,
    ⟨0x04, .sessionAbandon, [.P], 0⟩, ⟨0x05, .zeroOpen, [.P], 1⟩, ⟨0x06, .spanOpen, [.P], 9⟩,
    ⟨0x07, .selectReference, [.P], 1⟩, ⟨0x08, .certifyReference, [.P], 1⟩, ⟨0x09, .unlockReference, [.P], 1⟩,
    ⟨0x0A, .writeCurve, [.P], 18⟩, ⟨0x0B, .readReference, [.P], 1⟩, ⟨0x0C, .readCurve, [.P], 0⟩]

/-- Table 10.3: the kinds of port C. -/
def cribKinds : List KindRow :=
  [⟨0x10, .register, [.C], 28⟩, ⟨0x11, .retire, [.C], 2⟩, ⟨0x12, .stock, [.C], 3⟩, ⟨0x13, .withdraw, [.C], 2⟩,
    ⟨0x14, .issue, [.C], 4⟩, ⟨0x15, .issuePick, [.C], 2⟩, ⟨0x16, .returnTool, [.C], 4⟩,
    ⟨0x17, .returnFromRegrind, [.C], 2⟩, ⟨0x18, .cancelDrawer, [.C], 1⟩, ⟨0x19, .clearJam, [.C], 1⟩,
    ⟨0x1A, .clearDriver, [.C], 0⟩, ⟨0x1B, .setLife, [.C], 8⟩, ⟨0x1C, .writeCell, [.C], 11⟩,
    ⟨0x1D, .readDrawer, [.C], 1⟩, ⟨0x1E, .readPicks, [.C], 0⟩, ⟨0x1F, .restart, [.C], 0⟩]

/-- Table 10.3: the kinds of several ports and of port M. -/
def sharedKinds : List KindRow :=
  [⟨0x20, .lock, [.P, .C], 2⟩, ⟨0x21, .unlock, [.P, .C], 2⟩, ⟨0x22, .readRecord, [.P, .C], 2⟩,
    ⟨0x28, .handoff, [.M], 3⟩, ⟨0x29, .usage, [.M], 10⟩, ⟨0x2A, .requestTool, [.M], 3⟩,
    ⟨0x2B, .withdrawRequest, [.M], 2⟩, ⟨0x2C, .readCell, [.M], 1⟩, ⟨0x30, .readNotice, [.P, .C, .M], 0⟩,
    ⟨0x31, .status, [.P, .C, .M], 0⟩, ⟨0x32, .setParameter, [.P, .C, .M], 5⟩]

/-- Table 10.3. -/
def kindTable : List KindRow := presetterKinds ++ cribKinds ++ sharedKinds

/-- The row of a kind code. -/
def kindRow (code : Nat) : Option KindRow := kindTable.find? fun r => decide (r.code = code)

/-! ### Reading arguments -/

/-- A number of the given bytes, low byte first (R190). -/
def readLe : List Byte → Nat
  | [] => 0
  | b :: l => b.toNat + 256 * readLe l

/-- A two's complement number of the given bytes, low byte first (R190). -/
def readSigned (l : List Byte) : Int :=
  let v := readLe l
  if 2 * v < 256 ^ l.length then (v : Int) else (v : Int) - (256 ^ l.length : Nat)

/-- `w` bytes of a body from an offset. -/
def field (b : List Byte) (at_ w : Nat) : List Byte := (b.drop at_).take w

/-- An unsigned argument of `w` bytes at an offset. -/
def arg (b : List Byte) (at_ w : Nat) : Nat := readLe (field b at_ w)

/-- An optional argument behind its presence byte: 00h absent, any other value present (R190). -/
def optArg {α : Type} (b : List Byte) (at_ : Nat) (x : α) : Option α := if arg b at_ 1 = 0 then none else some x

/-- The nine values of a WRITE_CURVE body. -/
def curveArgs (b : List Byte) : List Int := (List.range 9).map fun i => readSigned (field b (2 * i) 2)

/-- The request a body of the kind's length carries, with the arguments in the order the owning rule names them
(R190). -/
def requestOf (k : Kind) (p : Port) (b : List Byte) : Instr :=
  match k with
  | .measureOpen => .measureOpen (arg b 0 2)
  | .reading => .reading (arg b 0 4) (arg b 4 4)
  | .sessionClose => .sessionClose (readSigned (field b 0 2))
  | .sessionAbandon => .sessionAbandon
  | .zeroOpen => .zeroOpen (arg b 0 1)
  | .spanOpen => .spanOpen (arg b 0 1) (arg b 1 4) (arg b 5 4)
  | .selectReference => .selectReference (arg b 0 1)
  | .certifyReference => .certifyReference (arg b 0 1)
  | .unlockReference => .unlockReference (arg b 0 1)
  | .writeCurve => .writeCurve (curveArgs b)
  | .readReference => .readReference (arg b 0 1)
  | .readCurve => .readCurve
  | .register =>
    .register (arg b 0 2) (optArg b 2 (arg b 3 1)) (optArg b 4 (arg b 5 4, arg b 9 4))
      (optArg b 13 (arg b 14 4, arg b 18 4)) (arg b 22 1) (arg b 23 4) (arg b 27 1)
  | .retire => .retire (arg b 0 2)
  | .stock => .stock (arg b 0 2) (arg b 2 1)
  | .withdraw => .withdraw (arg b 0 2)
  | .issue => .issue (arg b 0 2) (arg b 2 1) (arg b 3 1)
  | .issuePick => .issuePick (arg b 0 1) (arg b 1 1)
  | .returnTool => .returnTool (arg b 0 2) (arg b 2 1) (arg b 3 1)
  | .returnFromRegrind => .returnFromRegrind (arg b 0 2)
  | .cancelDrawer => .cancelDrawer (arg b 0 1)
  | .clearJam => .clearJam (arg b 0 1)
  | .clearDriver => .clearDriver
  | .setLife => .setLife (arg b 0 2) (arg b 2 1) (arg b 3 4) (arg b 7 1)
  | .writeCell =>
    .writeCell (arg b 0 1) (arg b 1 1) (arg b 2 1) (arg b 3 1) (arg b 4 1) (readSigned (field b 5 4)) (arg b 9 1)
      (arg b 10 1)
  | .readDrawer => .readDrawer (arg b 0 1)
  | .readPicks => .readPicks
  | .restart => .restart
  | .lock => .lock p (arg b 0 2)
  | .unlock => .unlock p (arg b 0 2)
  | .readRecord => .readRecord p (arg b 0 2)
  | .handoff => .handoff (arg b 0 1) (arg b 1 1) (arg b 2 1)
  | .usage => .usage (arg b 0 1) (arg b 1 1) (arg b 2 4) (arg b 6 4)
  | .requestTool => .requestTool (arg b 0 1) (arg b 1 1) (arg b 2 1)
  | .withdrawRequest => .withdrawRequest (arg b 0 1) (arg b 1 1)
  | .readCell => .readCell (arg b 0 1)
  | .readNotice => .readNotice p
  | .status => .status p
  | .setParameter => .setParameter p (arg b 0 1) (arg b 1 4)

/-! ### The frame check (R192) -/

/-- The body length field of a frame of at least five bytes. -/
def frameLength (l : List Byte) : Nat := arg l 2 2

/-- The body of a sound frame. -/
def frameBody (l : List Byte) : List Byte := field l 4 (l.length - 5)

/-- The frame is faulty (R192). -/
def frameFaulty (l : List Byte) (midByte : Bool) : Bool :=
  midByte || decide (l.length < 5) || decide (1024 < frameLength l) || decide (l.length ≠ 5 + frameLength l)
    || decide (crc8 l ≠ 0)
    || match kindRow (arg l 0 1) with
      | some r => decide (frameLength l ≠ r.length)
      | none => false

/-- What a request frame turns out to be on a port (R192, R193). -/
inductive Frame where
  | faulty (tag : Byte)
  | unknown (tag : Byte)
  | notPermitted (tag : Byte)
  | request (tag : Byte) (i : Instr)
deriving DecidableEq, Repr

/-- The frame check, then the kind and permission checks (R192, R193); a faulty frame echoes its second byte, or 00h when
fewer than two arrived. -/
def parseFrame (p : Port) (l : List Byte) (midByte : Bool) : Frame :=
  let tag := l.getD 1 0
  if frameFaulty l midByte then .faulty tag
  else match kindRow (arg l 0 1) with
    | none => .unknown tag
    | some r => if p ∈ r.ports then .request tag (requestOf r.kind p (frameBody l)) else .notPermitted tag

/-! ### Writing a frame -/

/-- An optional argument of a request: presence byte 01h and its bytes, or 00h and zeros. -/
def optBytes (w : Nat) : Option (List Byte) → List Byte
  | none => 0 :: List.replicate w 0
  | some l => 1 :: l

/-- A nominal pair's bytes. -/
def pairBytes (x : Nat × Nat) : List Byte := leBytes 4 x.1 ++ leBytes 4 x.2

/-- A signed argument's bytes. -/
def signedBytes (w : Nat) (v : Int) : List Byte := leBytes w (twos w v)

/-- Kind code and body of a request; none for a command that no frame carries (Table 10.3). -/
def requestBytes : Instr → Option (Nat × List Byte)
  | .measureOpen a => some (0x01, leBytes 2 a)
  | .reading z x => some (0x02, leBytes 4 z ++ leBytes 4 x)
  | .sessionClose t => some (0x03, signedBytes 2 t)
  | .sessionAbandon => some (0x04, [])
  | .zeroOpen k => some (0x05, leBytes 1 k)
  | .spanOpen k lm dm => some (0x06, leBytes 1 k ++ leBytes 4 lm ++ leBytes 4 dm)
  | .selectReference k => some (0x07, leBytes 1 k)
  | .certifyReference k => some (0x08, leBytes 1 k)
  | .unlockReference k => some (0x09, leBytes 1 k)
  | .writeCurve vs => some (0x0A, (vs.map (signedBytes 2)).flatten)
  | .readReference k => some (0x0B, leBytes 1 k)
  | .readCurve => some (0x0C, [])
  | .register a f nl nr m l w =>
    some (0x10, leBytes 2 a ++ optBytes 1 (f.map (leBytes 1)) ++ optBytes 8 (nl.map pairBytes)
      ++ optBytes 8 (nr.map pairBytes) ++ leBytes 1 m ++ leBytes 4 l ++ leBytes 1 w)
  | .retire a => some (0x11, leBytes 2 a)
  | .stock a d => some (0x12, leBytes 2 a ++ leBytes 1 d)
  | .withdraw a => some (0x13, leBytes 2 a)
  | .issue a c p => some (0x14, leBytes 2 a ++ leBytes 1 c ++ leBytes 1 p)
  | .issuePick c p => some (0x15, leBytes 1 c ++ leBytes 1 p)
  | .returnTool a d k => some (0x16, leBytes 2 a ++ leBytes 1 d ++ leBytes 1 k)
  | .returnFromRegrind a => some (0x17, leBytes 2 a)
  | .cancelDrawer d => some (0x18, leBytes 1 d)
  | .clearJam d => some (0x19, leBytes 1 d)
  | .clearDriver => some (0x1A, [])
  | .setLife a m l w => some (0x1B, leBytes 2 a ++ leBytes 1 m ++ leBytes 4 l ++ leBytes 1 w)
  | .writeCell c n u f o dt lf au =>
    some (0x1C, leBytes 1 c ++ leBytes 1 n ++ leBytes 1 u ++ leBytes 1 f ++ leBytes 1 o ++ signedBytes 4 dt
      ++ leBytes 1 lf ++ leBytes 1 au)
  | .readDrawer d => some (0x1D, leBytes 1 d)
  | .readPicks => some (0x1E, [])
  | .restart => some (0x1F, [])
  | .lock _ a => some (0x20, leBytes 2 a)
  | .unlock _ a => some (0x21, leBytes 2 a)
  | .readRecord _ a => some (0x22, leBytes 2 a)
  | .handoff c st n => some (0x28, leBytes 1 c ++ leBytes 1 st ++ leBytes 1 n)
  | .usage c p sec n => some (0x29, leBytes 1 c ++ leBytes 1 p ++ leBytes 4 sec ++ leBytes 4 n)
  | .requestTool c p f => some (0x2A, leBytes 1 c ++ leBytes 1 p ++ leBytes 1 f)
  | .withdrawRequest c p => some (0x2B, leBytes 1 c ++ leBytes 1 p)
  | .readCell c => some (0x2C, leBytes 1 c)
  | .readNotice _ => some (0x30, [])
  | .status _ => some (0x31, [])
  | .setParameter _ n v => some (0x32, leBytes 1 n ++ leBytes 4 v)
  | .requestFrameEnd _ _ _ | .replyRead _ _ | .openSeen _ | .closeSeen _ | .presenceLevelChange _ _
  | .pulseWidthElapsed | .overcurrent | .waitExpiry _ | .openTimeExpiry _ | .lockExpiry _ | .discardExpiry _
  | .entryFormation | .slotBuildCompletion | .readAheadBuildCompletion | .commitCompletion | .powerOn | .powerLoss _
  | .resetInputAsserted _ | .resetInputReleased | .loadEnd | .mntInputChange _ | .overcurrentSenseReleased => none

/-- The request frame of a command with a tag (R190, R191); the empty list for a command that no frame carries. -/
def frameOf (tag : Byte) (i : Instr) : List Byte :=
  match requestBytes i with
  | none => []
  | some (code, body) =>
    let f := [lowByte code, tag] ++ leBytes 2 body.length ++ body
    f ++ [crc8 f]

end Sys2Proof.Machine
end

