-- ==== Sys2Proof/Machine/PortCommands.lean ====
section
/-! DEFINITION. The transactions of the ports and the requests of every port: REQUEST_FRAME_END, REPLY_READ,
READ_NOTICE, STATUS, SET_PARAMETER (Section 10). -/

namespace Sys2Proof.Machine

open Sys2Proof

/-! ### Transactions -/

namespace State

/-- The bytes driven on data out in a transaction (R189). -/
def drive (s : State) (p : Port) (l : List Byte) : State := s.setPort p { s.port p with dataOut := l }

/-- A sound or faulty frame at a port whose request buffer holds no waiting request (R192, R193): FRAME_ERROR, LOADING,
UNKNOWN_KIND or NOT_PERMITTED at once, or the request placed in the request buffer. -/
def frameArrives (s : State) (p : Port) (f : Frame) : State :=
  match f, s.phase with
  | .faulty tag, _ => s.answer p tag (refuse .frameError)
  | .unknown tag, .drain => s.answerLoading p tag true
  | .notPermitted tag, .drain => s.answerLoading p tag true
  | .request tag _, .drain => s.answerLoading p tag true
  | .unknown tag, .load _ => s.answerLoading p tag false
  | .notPermitted tag, .load _ => s.answerLoading p tag false
  | .request tag _, .load _ => s.answerLoading p tag false
  | .unknown tag, _ => s.answer p tag (refuse .unknownKind)
  | .notPermitted tag, _ => s.answer p tag (refuse .notPermitted)
  | .request tag i, _ => s.setPort p { s.port p with buf := .pending tag i }

/-- A reply-read transaction of a number of whole bytes (R189, R194): FFh during the first byte, then the held reply, or
NOT_READY with the tag of the waiting request or 00h, then FFh; a held reply whose CRC byte was clocked out is read, and
the buffer becomes EMPTY. A reply cut short stays as it is, and the next read shows the same frame from its first byte. -/
def readReply (s : State) (p : Port) (clocked : Nat) : State :=
  if clocked = 0 then s
  else
    let notReady (tag : Byte) : Reply := ⟨.notReady, false, tag, .empty⟩
    let r : Reply := match (s.port p).buf with
      | .held r => r
      | .pending tag _ => notReady tag
      | .empty => notReady 0
    let f := replyFrame (s.draw p) r
    let out := 0xFF#8 :: ((f ++ List.replicate (clocked - 1 - f.length) 0xFF#8).take (clocked - 1))
    let t := s.drive p out
    match (s.port p).buf with
    | .held _ => if f.length < clocked then t.setPort p { t.port p with buf := .empty, keep := false } else t
    | _ => t

/-- A request-frame transaction (R189, R192, R193): FFh on data out throughout; no effect when select rose before the
first byte was complete; a first byte of 00h makes it a reply read; a frame that finds a waiting request is discarded. -/
def endFrame (s : State) (p : Port) (l : List Byte) (midByte : Bool) : State :=
  match l with
  | [] => s
  | b :: _ =>
    if b = 0 then s.readReply p l.length
    else
      let t := s.drive p (l.map fun _ => 0xFF#8)
      match (t.port p).buf with
      | .pending _ _ => t
      | _ => t.frameArrives p (parseFrame p l midByte)

/-- A transaction of `n` whole bytes whose effect is `t` where the part takes part in it (R189, R182). With the reset input
low, data out is held high, the bytes clocked in are discarded, and no reply is formed; a transaction whose end comes there
is the one in progress that the reset abandons (log 7). Without power nothing is driven. -/
def transact (s : State) (p : Port) (n : Nat) (t : State) : State :=
  match s.phase with
  | .off => s
  | .held => if n = 0 then s else s.drive p (List.replicate n 0xFF#8)
  | _ => t

end State

/-- REQUEST_FRAME_END (R192). -/
def execRequestFrameEnd (p : Port) (bytes : List Byte) (midByte : Bool) (s : State) :
    Host.Outcome State Fault Refusal :=
  .next (s.transact p bytes.length (s.endFrame p bytes midByte))

/-- REPLY_READ (R194). -/
def execReplyRead (p : Port) (clocked : Nat) (s : State) : Host.Outcome State Fault Refusal :=
  .next (s.transact p clocked (s.readReply p clocked))

/-! ### READ_NOTICE (R198) -/

/-- The oldest notice removed and returned with the overflow mark, which is then cleared (R198). -/
def readNotice (p : Port) (s : State) : State × Answer :=
  match (s.port p).notices with
  | [] => (s, accept (.notice (s.port p).overflow none))
  | n :: l =>
    (s.setPort p { s.port p with notices := l, overflow := false }, accept (.notice (s.port p).overflow (some n)))

/-- READ_NOTICE (R198). -/
def execReadNotice (p : Port) (s : State) : Host.Outcome State Fault Refusal :=
  .next (s.serve p (.readNotice p) (readNotice p))

/-! ### STATUS (R200) -/

/-- The number of FREE deferral slots (R200). -/
def State.freeSlots (s : State) : Nat := (s.hob.slots.toList.filter fun x => decide (x = .free)).length

/-- The body of STATUS on a port (R200). -/
def statusBody (p : Port) (s : State) : Body :=
  .status s.drc.driver.pulsing.isSome s.drc.driver.fault s.drc.driver.overcurrents (s.ocu.map fun x => x.kind.tag)
    s.releaseCount s.freeSlots s.picks.length s.rst.queue.length s.rst.flight.isSome (s.port p).notices.length
    (s.port p).overflow

/-- STATUS (R200). -/
def execStatus (p : Port) (s : State) : Host.Outcome State Fault Refusal :=
  .next (s.serve p (.status p) fun t => (t, accept (statusBody p t)))

/-! ### SET_PARAMETER (R196) -/

namespace State

/-- The idle timer of a held lock has reached the lock idle limit (R15). -/
def lockDue (s : State) (a : Nat) : Bool :=
  (s.asm a).holder.isSome && decide (s.params.lockIdleLimit ≤ (s.asm a).idle)

/-- The locks, open timers and slots that a changed limit finds at or beyond it act at that event, in ascending number
(R16, R85, R169). -/
def actOnLimit (s : State) (n : Nat) : State :=
  if n = 8 then ((List.range 512).filter s.lockDue).foldl State.expireLock s
  else if n = 7 then ((List.range 64).filter s.openDue).foldl State.reportLeftOpen s
  else if n = 9 then ((List.range 4).filter s.discardDue).foldl State.freeSlot s
  else s

end State

/-- SET_PARAMETER at the port interface (R196). The parameter record is dirtied after what the new limit does, so that
the keys of one event enter in ascending order (R178, log 27). -/
def setParameter (p : Port) (n v : Nat) (s : State) : State × Answer :=
  if paramOwner n = none then (s, refuse .badArgument)
  else if paramOwner n ≠ some p then (s, refuse .notPermitted)
  else
    let x := paramStored n v
    let a := acceptClamped (decide (x ≠ v)) (.parameter n x)
    if s.params.get n = x then (s, a)
    else (((s.setParams (s.params.put n x)).actOnLimit n).dirty paramsKey, a)

/-- SET_PARAMETER (R196). -/
def execSetParameter (p : Port) (number value : Nat) (s : State) : Host.Outcome State Fault Refusal :=
  .next (s.serve p (.setParameter p number value) (setParameter p number value))

end Sys2Proof.Machine
end

