-- ==== Sys2Proof/Machine/Clock.lean ====
section
/-! DEFINITION. One millisecond of the part's timers, and the expiries that fall due in it (log 3). -/

namespace Sys2Proof.Machine

open Sys2Proof

/-- The idle timer runs while a port holds the lock (R14). -/
def AsmRecord.tick (r : AsmRecord) : AsmRecord := if r.holder.isSome then { r with idle := r.idle + 1 } else r

/-- The wait timer runs in RETRY_WAIT and BACKOFF (R75), the open timer in OPEN (R85). -/
def Drawer.tick (r : Drawer) : Drawer :=
  if r.state.waiting then { r with waitTimer := r.waitTimer + 1 }
  else if r.state = .opened then { r with openTimer := r.openTimer + 1 }
  else r

/-- The pulse timer runs during a pulse (R76). -/
def Driver.tick (r : Driver) : Driver := if r.pulsing.isSome then { r with pulseTimer := r.pulseTimer + 1 } else r

/-- The discard timer runs in COMPLETE (R169). -/
def Slot.tick : Slot → Slot
  | .complete h b t => .complete h b (t + 1)
  | x => x

namespace State

/-- Every running timer a millisecond on. -/
def advance (s : State) : State :=
  { s with
    atb := tmap AsmRecord.tick s.atb
    drc := { s.drc with drawers := tmap Drawer.tick s.drc.drawers, driver := s.drc.driver.tick }
    hob := { s.hob with slots := tmap Slot.tick s.hob.slots } }

/-- The expiry commands due: pulse, waits, open times, locks, discards, each in ascending number (log 3). -/
def dueExpiries (s : State) : List Instr :=
  (if s.pulseDue then [.pulseWidthElapsed] else [])
    ++ ((List.finRange 64).filter fun d : Fin 64 => s.waitDue d.val).map Instr.waitExpiry
    ++ ((List.finRange 64).filter fun d : Fin 64 => s.openDue d.val).map Instr.openTimeExpiry
    ++ ((List.finRange 512).filter fun a : Fin 512 => s.lockDue a.val).map Instr.lockExpiry
    ++ ((List.finRange 4).filter fun i : Fin 4 => s.discardDue i.val).map Instr.discardExpiry

/-- What an empty queue gives (log 3): in normal operation and in the drain a millisecond passes and the expiries that
fall due join the queue; no timer runs in a load, with the reset input low or without power (R182). -/
def tick (s : State) : State :=
  if s.phase.active then { s.advance with pending := s.advance.dueExpiries } else s

end State

end Sys2Proof.Machine
end

