-- ==== Sys2Proof/Machine/Cells.lean ====
section
/-! DEFINITION. WRITE_CELL, READ_CELL, REQUEST_TOOL, WITHDRAW_REQUEST and READ_PICKS (Section 6). -/

namespace Sys2Proof.Machine

open Sys2Proof

/-! ### Profiles -/

/-- A profile from the arguments of WRITE_CELL (R116): none when a value is refused, the datum offset and the life factor
clamped. -/
def profileOf (size unit form order : Nat) (datum : Int) (factor auto : Nat) : Option Profile :=
  match decide (size ≤ 128), unitOf unit, radiusFormOf form, byteOrderOf order, autoRequestOf auto with
  | true, some u, some f, some o, some q =>
    some ⟨size, u, f, o, clampInt (-1000000) 1000000 datum, clampNat 4 16 factor, q⟩
  | _, _, _, _, _ => none

/-- A pocket at or above a size is RESERVED or BOUND, or a pick entry names one (R116 check 3). -/
def State.sizeBlocked (s : State) (c size : Nat) : Bool :=
  ((List.range 128).any fun p => decide (size ≤ p) && decide (s.pocket c p ≠ .empty))
    || s.picks.any fun k => decide (k.cell = c) && decide (size ≤ k.pocket)

/-- WRITE_CELL at the CTB (R116, R117). -/
def writeCell (c size unit form order : Nat) (datum : Int) (factor auto : Nat) (s : State) : State × Answer :=
  if 15 < c then (s, refuse .badArgument)
  else match profileOf size unit form order datum factor auto with
    | none => (s, refuse .badArgument)
    | some pr =>
      if s.sizeBlocked c size then (s, refuse .wrongState)
      else (((s.setProfile c pr).disturb (.cell c)).dirty (cellKey c),
        acceptClamped (decide (pr.datum ≠ datum) || decide (pr.factor ≠ factor)) (.profile pr))

/-- WRITE_CELL (R116). -/
def execWriteCell (cell size unit form order : Nat) (datum : Int) (factor auto : Nat) (s : State) :
    Host.Outcome State Fault Refusal :=
  .next (s.serve .C (.writeCell cell size unit form order datum factor auto)
    (writeCell cell size unit form order datum factor auto))

/-- READ_CELL at the CTB (R118). -/
def readCell (c : Nat) (s : State) : State × Answer :=
  if 15 < c then (s, refuse .badArgument)
  else (s, accept (.cell c (s.profile c) ((List.range (s.profile c).size).map (s.pocket c))
    (s.picks.filter fun k => decide (k.cell = c)).length))

/-- READ_CELL (R118). -/
def execReadCell (cell : Nat) (s : State) : Host.Outcome State Fault Refusal :=
  .next (s.serve .M (.readCell cell) (readCell cell))

/-! ### The pick list -/

/-- The state of a new MACHINE entry for a pocket (R123). -/
def Pocket.pickState : Pocket → PickState
  | .bound _ => .waitEmpty
  | _ => .waiting

/-- The pocket is RESERVED. -/
def Pocket.isReserved : Pocket → Bool
  | .reserved _ => true
  | _ => false

/-- REQUEST_TOOL at the CTB (R123). -/
def requestTool (c p f : Nat) (s : State) : State × Answer :=
  if 15 < c ∨ 127 < p ∨ f < 1 ∨ 255 < f then (s, refuse .badArgument)
  else if (s.profile c).size = 0 then (s, refuse .wrongState)
  else if (s.profile c).size ≤ p then (s, refuse .badArgument)
  else if (s.pocket c p).isReserved || (findPick s.picks c p).isSome then (s, refuse .pocketOccupied)
  else if 32 ≤ s.picks.length then (s, refuse .busy)
  else
    let st := (s.pocket c p).pickState
    let n := s.picks.length + 1
    ((s.setPicks (s.picks ++ [⟨c, p, f, .machine, st⟩])).notify .C (.pickAdded c p f .machine st n),
      accept (.pickEntry c p st n))

/-- REQUEST_TOOL (R123). -/
def execRequestTool (cell pocket family : Nat) (s : State) : Host.Outcome State Fault Refusal :=
  .next (s.serve .M (.requestTool cell pocket family) (requestTool cell pocket family))

/-- WITHDRAW_REQUEST at the CTB (R125). -/
def withdrawRequest (c p : Nat) (s : State) : State × Answer :=
  if 15 < c ∨ 127 < p then (s, refuse .badArgument)
  else match findPick s.picks c p with
    | none => (s, refuse .notFound)
    | some k =>
      if k.state = .inIssue then (s, refuse .busy)
      else
        ((s.setPicks (removePick s.picks c p)).notify .C (.pickWithdrawn c p k.family k.origin k.state),
          accept .empty)

/-- WITHDRAW_REQUEST (R125). -/
def execWithdrawRequest (cell pocket : Nat) (s : State) : Host.Outcome State Fault Refusal :=
  .next (s.serve .M (.withdrawRequest cell pocket) (withdrawRequest cell pocket))

/-- The operation of a drawer is a linked ISSUE to the cell and pocket. -/
def State.linksTo (s : State) (c p d : Nat) : Bool :=
  match s.op d with
  | some ⟨.issue c' p' true _, _, _⟩ => decide (c' = c) && decide (p' = p)
  | _ => false

/-- The assembly and drawer of the ISSUE linked to an IN_ISSUE entry (R128). -/
def State.linkedIssue (s : State) (k : Pick) : Option (Nat × Nat) :=
  if k.state = .inIssue then
    match (List.range 64).find? (s.linksTo k.cell k.pocket) with
    | some d => (s.op d).map fun o => (o.asm, d)
    | none => none
  else none

/-- READ_PICKS (R128). -/
def execReadPicks (s : State) : Host.Outcome State Fault Refusal :=
  .next (s.serve .C .readPicks fun t => (t, accept (.picks (t.picks.map fun k => (k, t.linkedIssue k)))))

end Sys2Proof.Machine
end

