-- ==== Sys2Proof/Machine/CribCommands.lean ====
section
/-! DEFINITION. REGISTER, RETIRE, RETURN_FROM_REGRIND, STOCK, WITHDRAW, ISSUE, ISSUE_PICK and RETURN (Section 5). -/

namespace Sys2Proof.Machine

open Sys2Proof

/-! ### Registration, retirement and regrind -/

/-- A nominal pair is absent or has both numbers at most `m` (R96 check 3). -/
def pairWithin (m : Nat) : Option (Nat × Nat) → Bool
  | none => true
  | some (v, t) => decide (v ≤ m) && decide (t ≤ m)

/-- A family is absent or 1..255 (R96 check 3). -/
def familyValid : Option Nat → Bool
  | none => true
  | some f => decide (1 ≤ f) && decide (f ≤ 255)

/-- The content REGISTER gives a record (R96): the lock stays as it was. -/
def AsmRecord.registered (r : AsmRecord) (family : Option Nat) (nomLength nomRadius : Option (Nat × Nat))
    (mode : LifeMode) (limit warn : Nat) : AsmRecord :=
  { r.enter .unmeasured with
    family := family, nomLength := nomLength, nomRadius := nomRadius, mode := mode, limit := limit, warn := warn,
    staged := none, used := 0, committed := 0, warned := false }

/-- The live limit a life limit argument gives (R96, R144). -/
def lifeLimitOf (v : Nat) : Nat := clampNat 1 4000000 v

/-- The warn percent a warn argument gives (R96, R144). -/
def warnOf (v : Nat) : Nat := clampNat 50 99 v

/-- REGISTER at the COC and the ATB (R96). -/
def registerAsm (a : Nat) (family : Option Nat) (nomLength nomRadius : Option (Nat × Nat)) (mode limit warn : Nat)
    (s : State) : State × Answer :=
  let r := s.asm a
  if 511 < a then (s, refuse .badArgument)
  else if r.holder = some .P then (s, refuse .locked)
  else match lifeModeOf mode with
    | none => (s, refuse .badArgument)
    | some m =>
      if !(familyValid family && pairWithin 4000000 nomLength && pairWithin 500000 nomRadius) then
        (s, refuse .badArgument)
      else if r.state ≠ .vacant ∧ r.state ≠ .lost then (s, refuse .wrongState)
      else
        let l := lifeLimitOf limit
        let w := warnOf warn
        ((s.changeAsm a (r.registered family nomLength nomRadius m l w)).dirty a,
          acceptClamped (decide (l ≠ limit) || decide (w ≠ warn)) (.assembly a))

/-- REGISTER (R96). -/
def execRegister (asm : Nat) (family : Option Nat) (nomLength nomRadius : Option (Nat × Nat)) (mode limit warn : Nat)
    (s : State) : Host.Outcome State Fault Refusal :=
  .next (s.serve .C (.register asm family nomLength nomRadius mode limit warn)
    (registerAsm asm family nomLength nomRadius mode limit warn))

/-- The state check of RETIRE (R97 check 4): one of five states, and a stocked assembly only from a drawer whose mismatch mark
is set (R86). -/
def State.retirable (s : State) (r : AsmRecord) : Bool :=
  (match r.state with
  | .unmeasured | .quarantined | .ready | .regrind | .lost => true
  | _ => false) && r.stock.all fun d => (s.drawer d).mismatch

/-- The content RETIRE leaves (R97): the life fields and the lock stay as they were. -/
def AsmRecord.retired (r : AsmRecord) : AsmRecord :=
  { r.enter .vacant with family := none, nomLength := none, nomRadius := none, staged := none }

/-- RETIRE at the COC, the ATB and the DRC (R97). -/
def retireAsm (a : Nat) (s : State) : State × Answer :=
  let r := s.asm a
  if 511 < a then (s, refuse .badArgument)
  else if r.holder = some .P then (s, refuse .locked)
  else if s.inOperation a then (s, refuse .busy)
  else if !s.retirable r then (s, refuse .wrongState)
  else
    let t := (s.changeAsm a r.retired).dirty a
    match r.stock with
    | none => (t, accept .empty)
    | some d => (t.clearStock d, accept .empty)

/-- RETIRE (R97). -/
def execRetire (asm : Nat) (s : State) : Host.Outcome State Fault Refusal :=
  .next (s.serve .C (.retire asm) (retireAsm asm))

/-- The content RETURN_FROM_REGRIND gives a record (R98). -/
def AsmRecord.reground (r : AsmRecord) : AsmRecord :=
  { r.enter .unmeasured with used := 0, committed := 0, warned := false }

/-- RETURN_FROM_REGRIND at the COC and the ATB (R98). -/
def returnFromRegrind (a : Nat) (s : State) : State × Answer :=
  let r := s.asm a
  if 511 < a then (s, refuse .badArgument)
  else if r.holder = some .P then (s, refuse .locked)
  else if s.inOperation a then (s, refuse .busy)
  else if r.state ≠ .regrind ∨ r.stock ≠ none then (s, refuse .wrongState)
  else ((s.changeAsm a r.reground).dirty a, accept .empty)

/-- RETURN_FROM_REGRIND (R98). -/
def execReturnFromRegrind (asm : Nat) (s : State) : Host.Outcome State Fault Refusal :=
  .next (s.serve .C (.returnFromRegrind asm) (returnFromRegrind asm))

/-! ### Operations -/

/-- The drawer's state at the end of the acceptance, QUEUED or PULSING (R92): PULSING when the driver, OK by the release
checks, is IDLE with nothing queued ahead. The overcurrent event that an asserted sense input gives this pulse is taken at
its start (R76), as an event of its own behind the acceptance; the reply does not show it (log 30). -/
def State.acceptedState (s : State) : DrawerState :=
  if s.drc.driver.pulsing.isNone && s.drc.queue.isEmpty then .pulsing else .queued

/-- The acceptance of an operation on a drawer (R92): its record stands before the drawer is queued. -/
def State.acceptOperation (s : State) (d : Nat) (o : Operation) : State × Answer :=
  (s.requestRelease d, accept (.operation o.kind o.asm d s.acceptedState))

/-- The checks of STOCK and RETURN on an empty drawer (R99 checks 7 to 9, R108 checks 7 to 9). -/
def State.emptyDrawerRefusal (s : State) (d : Nat) : Option Status :=
  if (s.drawer d).stock.isSome then some .wrongState
  else if (s.drawer d).mismatch then some .wrongState
  else s.releaseRefusal d

/-- STOCK at the COC (R99). -/
def stockAsm (a d : Nat) (s : State) : State × Answer :=
  let r := s.asm a
  if 511 < a then (s, refuse .badArgument)
  else if r.holder = some .P then (s, refuse .locked)
  else if 63 < d then (s, refuse .badArgument)
  else if s.inOperation a then (s, refuse .busy)
  else if (s.op d).isSome then (s, refuse .busy)
  else if !r.readyUnstocked then (s, refuse .wrongState)
  else match s.emptyDrawerRefusal d with
    | some st => (s, refuse st)
    | none =>
      let o : Operation := ⟨.stock, a, none⟩
      (s.setOp d (some o)).acceptOperation d o

/-- STOCK (R99). -/
def execStock (asm drawer : Nat) (s : State) : Host.Outcome State Fault Refusal :=
  .next (s.serve .C (.stock asm drawer) (stockAsm asm drawer))

/-- The drawer of a stocked READY or REGRIND record (R101 check 4). -/
def AsmRecord.withdrawable (r : AsmRecord) : Option Nat :=
  match r.state with
  | .ready | .regrind => r.stock
  | _ => none

/-- WITHDRAW at the COC (R101). -/
def withdrawAsm (a : Nat) (s : State) : State × Answer :=
  let r := s.asm a
  if 511 < a then (s, refuse .badArgument)
  else if r.holder = some .P then (s, refuse .locked)
  else if s.inOperation a then (s, refuse .busy)
  else match r.withdrawable with
    | none => (s, refuse .wrongState)
    | some d =>
      if (s.drawer d).mismatch then (s, refuse .wrongState)
      else match s.releaseRefusal d with
        | some st => (s, refuse st)
        | none =>
          let o : Operation := ⟨.withdraw, a, none⟩
          (s.setOp d (some o)).acceptOperation d o

/-- WITHDRAW (R101). -/
def execWithdraw (asm : Nat) (s : State) : Host.Outcome State Fault Refusal :=
  .next (s.serve .C (.withdraw asm) (withdrawAsm asm))

/-- A pick entry for the cell and pocket that an assembly of the family cannot link to (R103 check 11). -/
def State.pickBlocks (s : State) (c p : Nat) (family : Option Nat) : Bool :=
  match findPick s.picks c p with
  | none => false
  | some k => !(decide (k.state = PickState.waiting) && decide (family = some k.family))

/-- The drawer of a READY-stocked record (R103 check 5). -/
def AsmRecord.readyDrawer (r : AsmRecord) : Option Nat := if r.state = .ready then r.stock else none

/-- The checks of ISSUE from check 4 on (R103): the status of the first that fails, or the assembly's drawer. -/
def State.issueChecks (s : State) (a c p : Nat) : Except Status Nat :=
  let r := s.asm a
  if s.inOperation a then .error .busy
  else match r.readyDrawer with
    | none => .error .wrongState
    | some d =>
      if !r.markSet then .error .staleReference
      else if r.wornOut then .error .wrongState
      else if (s.profile c).size = 0 then .error .wrongState
      else if (s.profile c).size ≤ p then .error .badArgument
      else if s.pocket c p ≠ .empty then .error .pocketOccupied
      else if s.pickBlocks c p r.family then .error .pocketOccupied
      else if (s.drawer d).mismatch then .error .wrongState
      else match s.releaseRefusal d with
        | some st => .error st
        | none => .ok d

/-- The acceptance of an ISSUE (R104): the operation record, the assembly to ISSUING with its signal, the linked entry to
IN_ISSUE, the pocket RESERVED with POCKET_CHANGED to port M, the drawer queued. -/
def State.acceptIssue (s : State) (a c p d : Nat) (picked : Bool) : State × Answer :=
  let link := (findPick s.picks c p).isSome
  let o : Operation := ⟨.issue c p link picked, a, none⟩
  let t := (s.setOp d (some o)).changeAsm a ((s.asm a).enter .issuing)
  let u := if link then t.setPicks (movePick t.picks c p .inIssue) else t
  (u.changePocket c p (.reserved a)).acceptOperation d o

/-- The checks of ISSUE from check 4 on and, when they pass, its acceptance (R103, R104). -/
def State.issueFrom (s : State) (a c p : Nat) (picked : Bool) : State × Answer :=
  match s.issueChecks a c p with
  | .error st => (s, refuse st)
  | .ok d => s.acceptIssue a c p d picked

/-- ISSUE at the COC (R103). -/
def issueAsm (a c p : Nat) (s : State) : State × Answer :=
  if 511 < a then (s, refuse .badArgument)
  else if (s.asm a).holder = some .P then (s, refuse .locked)
  else if 15 < c ∨ 127 < p then (s, refuse .badArgument)
  else s.issueFrom a c p false

/-- ISSUE (R103, R104). -/
def execIssue (asm cell pocket : Nat) (s : State) : Host.Outcome State Fault Refusal :=
  .next (s.serve .C (.issue asm cell pocket) (issueAsm asm cell pocket))

/-- ISSUE_PICK at the COC (R105). -/
def issuePick (c p : Nat) (s : State) : State × Answer :=
  if 15 < c ∨ 127 < p then (s, refuse .badArgument)
  else if (s.profile c).size = 0 then (s, refuse .wrongState)
  else if (s.profile c).size ≤ p then (s, refuse .badArgument)
  else match findPick s.picks c p with
    | none => (s, refuse .notFound)
    | some k => match k.state with
      | .inIssue => (s, refuse .busy)
      | .waitEmpty => (s, refuse .wrongState)
      | .waiting => match s.chooseSister k.family with
        | none => (s, refuse .notFound)
        | some a => s.issueFrom a c p true

/-- ISSUE_PICK (R105). -/
def execIssuePick (cell pocket : Nat) (s : State) : Host.Outcome State Fault Refusal :=
  .next (s.serve .C (.issuePick cell pocket) (issuePick cell pocket))

/-- RETURN at the COC (R108). -/
def returnAsm (a d condition : Nat) (s : State) : State × Answer :=
  let r := s.asm a
  if 511 < a then (s, refuse .badArgument)
  else if r.holder = some .P then (s, refuse .locked)
  else if 63 < d then (s, refuse .badArgument)
  else match conditionOf condition with
    | none => (s, refuse .badArgument)
    | some k =>
      if s.inOperation a then (s, refuse .busy)
      else if (s.op d).isSome then (s, refuse .busy)
      else if r.state ≠ .issued ∧ r.state ≠ .exhausted then (s, refuse .wrongState)
      else match s.emptyDrawerRefusal d with
        | some st => (s, refuse st)
        | none =>
          let o : Operation := ⟨.giveBack k, a, none⟩
          (s.setOp d (some o)).acceptOperation d o

/-- RETURN (R108). -/
def execReturnTool (asm drawer condition : Nat) (s : State) : Host.Outcome State Fault Refusal :=
  .next (s.serve .C (.returnTool asm drawer condition) (returnAsm asm drawer condition))

end Sys2Proof.Machine
end

