-- ==== Sys2Proof/Machine/DrawerCommands.lean ====
section
/-! DEFINITION. CANCEL_DRAWER, CLEAR_JAM, CLEAR_DRIVER, READ_DRAWER, and the events of the switches, the driver and the
drawer timers (Section 4). -/

namespace Sys2Proof.Machine

open Sys2Proof

/-! ### Requests -/

/-- CANCEL_DRAWER at the DRC (R84). -/
def cancelDrawer (d : Nat) (s : State) : State × Answer :=
  if 63 < d then (s, refuse .badArgument)
  else match (s.drawer d).state with
    | .closed | .opened | .jammed => (s, refuse .wrongState)
    | .queued =>
      (((s.setReleaseQueue (s.drc.queue.erase d)).drawerRest d .closed 0).rollback d .cancelled, accept .empty)
    | .retryWait | .backoff => ((s.drawerRest d .closed 0).rollback d .cancelled, accept .empty)
    | .pulsing => (((s.endPulse.drawerRest d .closed 0).rollback d .cancelled).kickDriver, accept .empty)

/-- CANCEL_DRAWER (R84). -/
def execCancelDrawer (drawer : Nat) (s : State) : Host.Outcome State Fault Refusal :=
  .next (s.serve .C (.cancelDrawer drawer) (cancelDrawer drawer))

/-- CLEAR_JAM at the DRC (R83). -/
def clearJam (d : Nat) (s : State) : State × Answer :=
  if 63 < d then (s, refuse .badArgument)
  else if (s.drawer d).state ≠ .jammed then (s, refuse .wrongState)
  else (s.drawerRest d .closed 0, accept .empty)

/-- CLEAR_JAM (R83). -/
def execClearJam (drawer : Nat) (s : State) : Host.Outcome State Fault Refusal :=
  .next (s.serve .C (.clearJam drawer) (clearJam drawer))

/-- CLEAR_DRIVER at the DRC (R82). -/
def clearDriver (s : State) : State × Answer :=
  if s.drc.driver.fault then
    (s.setDriver { s.drc.driver with fault := false, overcurrents := 0 }, accept (.driverCondition false))
  else (s, refuse .wrongState)

/-- CLEAR_DRIVER (R82). -/
def execClearDriver (s : State) : Host.Outcome State Fault Refusal := .next (s.serve .C .clearDriver clearDriver)

/-- The content of a drawer record as READ_DRAWER reports it: the timers are not reported (R88). -/
def Drawer.reported (r : Drawer) : Drawer := { r with waitTimer := 0, waitTime := 0, openTimer := 0 }

/-- The position of a QUEUED drawer in the release queue, the head being 1 (R88). -/
def State.queuePosition (s : State) (d : Nat) : Option Nat :=
  if (s.drawer d).state = .queued then some (s.drc.queue.idxOf d + 1) else none

/-- READ_DRAWER at the DRC (R88). -/
def readDrawer (d : Nat) (s : State) : State × Answer :=
  if 63 < d then (s, refuse .badArgument)
  else (s, accept (.drawer d (s.drawer d).reported (s.queuePosition d) (s.op d)))

/-- READ_DRAWER (R88). -/
def execReadDrawer (drawer : Nat) (s : State) : Host.Outcome State Fault Refusal :=
  .next (s.serve .C (.readDrawer drawer) (readDrawer drawer))

/-! ### Switch events -/

namespace State

/-- The open level of a drawer written (R69). -/
def setOpenLevel (s : State) (d : Nat) (isOpen : Bool) : State :=
  s.setDrawer d { s.drawer d with levelOpen := isOpen }

/-- A change of a switch level outside normal operation (R90, R182): the level alone during a load, nothing with the reset
input low or without power. -/
def whileLoading (s t : State) : State :=
  match s.phase with
  | .load _ => t
  | _ => s

/-- OPEN_SEEN at the DRC (R71, R77): the levels alternate (R69), so a level that is open already makes no event. -/
def seeOpen (s : State) (d : Nat) : State :=
  let t := s.setOpenLevel d true
  if s.phase.active then if (s.drawer d).levelOpen then s else t.openEvent d else s.whileLoading t

/-- CLOSE_SEEN at the DRC (R72). -/
def seeClose (s : State) (d : Nat) : State :=
  let t := s.setOpenLevel d false
  if s.phase.active then if (s.drawer d).levelOpen then t.closeEvent d else s else s.whileLoading t

/-- PRESENCE_LEVEL_CHANGE at the DRC (R70). -/
def seePresence (s : State) (d : Nat) (present : Bool) : State :=
  let t := s.setDrawer d { s.drawer d with present := present }
  if s.phase.active then t else s.whileLoading t

end State

/-- OPEN_SEEN (R71). -/
def execOpenSeen (d : Fin 64) (s : State) : Host.Outcome State Fault Refusal := .next (s.seeOpen d)

/-- CLOSE_SEEN (R72). -/
def execCloseSeen (d : Fin 64) (s : State) : Host.Outcome State Fault Refusal := .next (s.seeClose d)

/-- PRESENCE_LEVEL_CHANGE (R70). -/
def execPresenceLevelChange (d : Fin 64) (present : Bool) (s : State) : Host.Outcome State Fault Refusal :=
  .next (s.seePresence d present)

/-! ### The driver and the timers -/

namespace State

/-- The pulse width elapses (R78): a failed attempt with the overcurrent count at 0, then the next head (R80). -/
def elapsePulse (s : State) : State :=
  match s.drc.driver.pulsing with
  | some d => ((s.endPulse.setOvercurrents 0).failedAttempt d).kickDriver
  | none => s

/-- The overcurrent sense input is asserted (R79): a pulse in progress ends; with none the level alone is held, for the
next pulse to find (R76). -/
def assertSense (s : State) : State :=
  let t := s.setPins { s.pins with sense := .asserted }
  match s.phase.active, s.drc.driver.pulsing with
  | true, some d => (t.overcurrentPulse d).kickDriver
  | _, _ => t

/-- The wait of a drawer in RETRY_WAIT or BACKOFF ends (R75). -/
def expireWait (s : State) (d : Nat) : State := (s.queueDrawer d (s.drawer d).attempts).kickDriver

end State

/-- PULSE_WIDTH_ELAPSED (R78): nothing when the pulse that it was for has ended and the pulse timer is not at the pulse
width (R76, log 4). -/
def execPulseWidthElapsed (s : State) : Host.Outcome State Fault Refusal :=
  .next (if s.phase.active && s.pulseDue then s.elapsePulse else s)

/-- OVERCURRENT (R79). -/
def execOvercurrent (s : State) : Host.Outcome State Fault Refusal := .next s.assertSense

/-- WAIT_EXPIRY (R75): nothing when the wait that it was for has ended and the wait timer is not at the wait time
(log 4). -/
def execWaitExpiry (d : Fin 64) (s : State) : Host.Outcome State Fault Refusal :=
  .next (if s.phase.active && s.waitDue d then s.expireWait d else s)

/-- OPEN_TIME_EXPIRY (R85): nothing when the open timer is not at the open-time limit or the mark is set (log 4). -/
def execOpenTimeExpiry (d : Fin 64) (s : State) : Host.Outcome State Fault Refusal :=
  .next (if s.phase.active && s.openDue d then s.reportLeftOpen d else s)

/-- OVERCURRENT_SENSE_RELEASED (R79). -/
def execOvercurrentSenseReleased (s : State) : Host.Outcome State Fault Refusal :=
  .next (s.setPins { s.pins with sense := .low })

end Sys2Proof.Machine
end

