-- ==== Sys2Proof/Machine/HandoffCommands.lean ====
section
/-! DEFINITION. HANDOFF and the events of the builder and the discard timers (Section 8). -/

namespace Sys2Proof.Machine

open Sys2Proof

/-- The RETRY answer for a slot that holds the identity (R151): whether its build is being formed, as it stands at the
end of the event. -/
def State.retry (s : State) (i : Ident) (n rebuilds : Nat) : State × Answer :=
  (s, ⟨.retry, false, .retry i n rebuilds (s.formingSlot n), false⟩)

/-- A COMPLETE slot serves its identity (R159). -/
def State.serveSlot (s : State) (n : Nat) (h : Held) (b : Block) : State × Answer :=
  if h.marks.any id && decide (h.rebuilds < 3) then
    (s.requeueSlot n h).kickBuilder.retry h.ident n (h.rebuilds + 1)
  else ((s.freeSlot n).queueReadAhead h.ident, accept (.block h.rebuilds (s.deliverable h b)))

/-- The match of an identity no slot holds: the VALID buffer, a FREE slot, or BUSY (R158 steps 3 to 5). -/
def State.serveFresh (s : State) (i : Ident) : State × Answer :=
  let fresh : State × Answer :=
    match s.findSlot fun x => decide (x = .free) with
    | some n => (s.takeSlot n i).retry i n 0
    | none => (s, ⟨.busy, false, .identity i, false⟩)
  match s.buffer i.cell with
  | .valid j b =>
    if j = i then ((s.setBuffer i.cell .empty).queueReadAhead i, accept (.block 0 b)) else fresh
  | _ => fresh

/-- HANDOFF at the HOB (R150, R158). -/
def handoff (c start size : Nat) (s : State) : State × Answer :=
  if 15 < c ∨ 127 < start then (s, refuse .badArgument)
  else if size = 0 then (s, refuse .badArgument)
  else if (s.profile c).size = 0 then (s, refuse .wrongState)
  else
    let i := decodeIdent c start size
    match s.slotOf i with
    | some n => match s.slot n with
      | .complete h b _ => s.serveSlot n h b
      | .building h => s.retry i n h.rebuilds
      | .free => s.serveFresh i
    | none => s.serveFresh i

/-- HANDOFF (R150). -/
def execHandoff (cell start size : Nat) (s : State) : Host.Outcome State Fault Refusal :=
  .next (s.serve .M (.handoff cell start size) (handoff cell start size))

/-! ### The builder -/

/-- Every entry of the build's block is formed. -/
def Build.done (b : Build) : Bool := decide (b.block.ident.size ≤ b.block.entries.length)

namespace State

/-- The builder forms the next entry of its block (R163). -/
def formNext (s : State) : State :=
  match s.hob.builder with
  | some b =>
    if b.done then s
    else
      let e := s.formEntry b (b.block.ident.start + b.block.entries.length)
      s.setHob { s.hob with builder := some { b with block := { b.block with entries := b.block.entries ++ [e] } } }
  | none => s

/-- The completion of a slot build (R164, R165). -/
def completeSlot (s : State) : State :=
  match s.hob.builder with
  | some b =>
    match b.target, b.done with
    | .slot n, true =>
      let t := s.dropBuild
      (match t.slot n with
        | .building h =>
          if h.marks.any id && decide (h.rebuilds < 3) then t.requeueSlot n h else t.setSlot n (.complete h b.block 0)
        | _ => t).kickBuilder
    | _, _ => s
  | none => s

/-- The completion of a read-ahead build (R164, R172). -/
def completeReadAhead (s : State) : State :=
  match s.hob.builder with
  | some b =>
    match b.target, b.done with
    | .readAhead c, true =>
      let t := s.dropBuild
      (match t.buffer c with
        | .pending i => t.setBuffer c (.valid i b.block)
        | _ => t).kickBuilder
    | _, _ => s
  | none => s

end State

/-- ENTRY_FORMATION (R163). -/
def execEntryFormation (s : State) : Host.Outcome State Fault Refusal :=
  .next (if s.phase.active then s.formNext else s)

/-- SLOT_BUILD_COMPLETION (R165): a build completes when its last entry is formed (R163, log 16). -/
def execSlotBuildCompletion (s : State) : Host.Outcome State Fault Refusal :=
  .next (if s.phase.active then s.completeSlot else s)

/-- READ_AHEAD_BUILD_COMPLETION (R172). -/
def execReadAheadBuildCompletion (s : State) : Host.Outcome State Fault Refusal :=
  .next (if s.phase.active then s.completeReadAhead else s)

/-- DISCARD_EXPIRY (R169): nothing when the slot is not COMPLETE with its discard timer at the discard limit (log 4). -/
def execDiscardExpiry (i : Fin 4) (s : State) : Host.Outcome State Fault Refusal :=
  .next (if s.phase.active && s.discardDue i then s.freeSlot i else s)

end Sys2Proof.Machine
end

