-- ==== Sys2Proof/Machine/Life.lean ====
section
/-! DEFINITION. SET_LIFE and USAGE (Section 7). -/

namespace Sys2Proof.Machine

open Sys2Proof

/-! ### SET_LIFE (R144 to R146) -/

/-- ISSUING, ISSUED or EXHAUSTED: the states in which SET_LIFE is staged (R146). -/
def AsmState.stagesLife : AsmState → Bool
  | .issuing | .issued | .exhausted => true
  | _ => false

/-- The record after a SET_LIFE applied at once (R145): the warned mark recomputed with the new values. -/
def AsmRecord.withLife (r : AsmRecord) (m : LifeMode) (l w : Nat) : AsmRecord :=
  let t := { r with mode := m, limit := l, warn := w, staged := none }
  { t with warned := t.warnReached }

/-- SET_LIFE at the LCU and the ATB (R144). -/
def setLife (a mode limit warn : Nat) (s : State) : State × Answer :=
  let r := s.asm a
  if 511 < a then (s, refuse .badArgument)
  else match lifeModeOf mode with
    | none => (s, refuse .badArgument)
    | some m =>
      if r.state = .vacant then (s, refuse .wrongState)
      else
        let l := lifeLimitOf limit
        let w := warnOf warn
        let clamped := decide (l ≠ limit) || decide (w ≠ warn)
        if r.state.stagesLife then
          if m ≠ r.mode then (s, refuse .wrongState)
          else
            let t := { r with staged := some (l, w) }
            ((s.changeAsm a t).commitChange a r, acceptClamped clamped (.lifeStaged l w t.lifeFields))
        else
          let t := r.withLife m l w
          ((s.changeAsm a t).commitChange a r, acceptClamped clamped (.lifeApplied t.lifeFields t.remaining))

/-- SET_LIFE (R144). -/
def execSetLife (asm mode limit warn : Nat) (s : State) : Host.Outcome State Fault Refusal :=
  .next (s.serve .C (.setLife asm mode limit warn) (setLife asm mode limit warn))

/-! ### USAGE (R136 to R143) -/

/-- The saturation value of used (R138). -/
def usedMax : Nat := 64000000

/-- The amount a report's clamped figures give in a mode (R137). -/
def usageAmount (m : LifeMode) (seconds count : Nat) : Nat :=
  match m with
  | .none => 0
  | .count => count
  | .time => seconds

/-- Used after a weighted amount, saturated (R138). -/
def AsmRecord.addUse (r : AsmRecord) (weighted : Nat) : AsmRecord := { r with used := min usedMax (r.used + weighted) }

/-- The warning test sets the mark (R139). -/
def AsmRecord.warnNow (r : AsmRecord) : Bool := r.warnReached && !r.warned

/-- The exhaustion test finds an ISSUED record worn out (R140). -/
def AsmRecord.exhaustNow (r : AsmRecord) : Bool := decide (r.state = .issued) && r.wornOut

/-- The record after the addition and both tests (R138 to R140). -/
def AsmRecord.worn (r : AsmRecord) (weighted : Nat) : AsmRecord :=
  let t := r.addUse weighted
  let u := { t with warned := t.warned || t.warnReached }
  if u.exhaustNow then u.enter .exhausted else u

namespace State

/-- LIFE_WARNING to ports C and M (R139). -/
def noticeWarning (s : State) (a c p : Nat) (r : AsmRecord) : State :=
  let n : Notice := .lifeWarning a c p r.units r.limit r.warn r.remaining
  (s.notify .C n).notify .M n

/-- LIFE_EXHAUSTED to ports C and M (R140). -/
def noticeExhausted (s : State) (a c p : Nat) (r : AsmRecord) : State :=
  let n : Notice := .lifeExhausted a c p r.family r.units r.limit
  (s.notify .C n).notify .M n

/-- The dirtying of a report (R143): a change beyond used, or a growth of used to the commit threshold. -/
def commitUse (s : State) (a : Nat) (old : AsmRecord) : State :=
  let r := s.asm a
  if old.viewChanged r then s.dirty a
  else if r.used ≠ old.used ∧ r.commitThreshold ≤ r.used - r.committed then s.dirty a
  else s

/-- The parts of an accepted report on a COUNT or TIME assembly, in the order of R141. -/
def reportUse (s : State) (a c p weighted : Nat) : State :=
  let old := s.asm a
  let t := s.changeAsm a (old.worn weighted)
  let u := if (old.addUse weighted).warnNow then t.noticeWarning a c p (old.addUse weighted) else t
  let v := if (old.addUse weighted).exhaustNow then
      (u.noticeExhausted a c p (old.addUse weighted)).autoRequest a c p
    else u
  v.commitUse a old

end State

/-- The reply body of USAGE (R137): the record after the report and the eighths it added. -/
def usageBody (a : Nat) (old new : AsmRecord) : Body :=
  .usage a new.state new.used new.units new.remaining new.warned (new.used - old.used)

/-- USAGE at the LCU and the CTB (R136). -/
def usage (c p seconds count : Nat) (s : State) : State × Answer :=
  if 15 < c ∨ 127 < p then (s, refuse .badArgument)
  else if (s.profile c).size = 0 then (s, refuse .wrongState)
  else if (s.profile c).size ≤ p then (s, refuse .badArgument)
  else match s.boundAsm c p with
    | none => (s, refuse .notFound)
    | some a =>
      let clamped := decide (3600 < seconds) || decide (1000 < count)
      let old := s.asm a
      if old.mode = .none then (s, acceptClamped clamped (usageBody a old old))
      else
        let weighted := usageAmount old.mode (min seconds 3600) (min count 1000) * (s.profile c).factor
        let t := s.reportUse a c p weighted
        (t, acceptClamped clamped (usageBody a old (t.asm a)))

/-- USAGE (R136, R141). -/
def execUsage (cell pocket seconds count : Nat) (s : State) : Host.Outcome State Fault Refusal :=
  .next (s.serve .M (.usage cell pocket seconds count) (usage cell pocket seconds count))

end Sys2Proof.Machine
end

