-- ==== Sys2Proof/Machine/Locks.lean ====
section
/-! DEFINITION. LOCK, UNLOCK, READ_RECORD and LOCK_EXPIRY (Section 1). -/

namespace Sys2Proof.Machine

open Sys2Proof

/-- LOCK at the ATB (R10). -/
def lockRecord (p : Port) (a : Nat) (s : State) : State × Answer :=
  if 511 < a then (s, refuse .badArgument)
  else match (s.asm a).holder with
    | none => (s.setAsm a { s.asm a with holder := some p, idle := 0 }, accept (.lockHolder a p))
    | some q =>
      if q = p then (s.setAsm a { s.asm a with idle := 0 }, accept (.lockHolder a p))
      else (s, { refuse .locked with body := .lockHolder a q })

/-- LOCK (R10). -/
def execLock (p : Port) (asm : Nat) (s : State) : Host.Outcome State Fault Refusal :=
  .next (s.serve p (.lock p asm) (lockRecord p asm))

/-- UNLOCK at the ATB (R11). -/
def unlockRecord (p : Port) (a : Nat) (s : State) : State × Answer :=
  if 511 < a then (s, refuse .badArgument)
  else match (s.asm a).holder with
    | none => (s, refuse .wrongState)
    | some q =>
      if q ≠ p then (s, refuse .locked)
      else if (s.asm a).state = .measuring then (s, refuse .wrongState)
      else (s.setAsm a (s.asm a).unlocked, accept .empty)

/-- UNLOCK (R11). -/
def execUnlock (p : Port) (asm : Nat) (s : State) : Host.Outcome State Fault Refusal :=
  .next (s.serve p (.unlock p asm) (unlockRecord p asm))

/-- The content of a record as READ_RECORD reports it: the idle timer's value is not reported (R18). -/
def AsmRecord.reported (r : AsmRecord) : AsmRecord := { r with idle := 0 }

/-- READ_RECORD at the ATB (R18). -/
def readRecord (a : Nat) (s : State) : State × Answer :=
  if 511 < a then (s, refuse .badArgument) else (s, accept (.record a (s.asm a).reported))

/-- READ_RECORD (R18). -/
def execReadRecord (p : Port) (asm : Nat) (s : State) : Host.Outcome State Fault Refusal :=
  .next (s.serve p (.readRecord p asm) (readRecord asm))

/-- LOCK_EXPIRY (R15): nothing when the idle timer is not at the lock idle limit, because a request of the holder taken
first restarted it or the lock is no longer held (R16, R35, log 4). -/
def execLockExpiry (a : Fin 512) (s : State) : Host.Outcome State Fault Refusal :=
  .next (if s.phase.active && s.lockDue a then s.expireLock a else s)

end Sys2Proof.Machine
end

