-- ==== Sys2Proof/Machine/References.lean ====
section
/-! DEFINITION. The requests of the Reference Store: ZERO_OPEN, SPAN_OPEN, SELECT_REFERENCE, CERTIFY_REFERENCE,
UNLOCK_REFERENCE, WRITE_CURVE, READ_REFERENCE, READ_CURVE (Section 3). -/

namespace Sys2Proof.Machine

open Sys2Proof

/-- ZERO_OPEN at the OCU and the RFS (R52). -/
def zeroOpen (k : Nat) (s : State) : State × Answer :=
  if 3 < k then (s, refuse .badArgument)
  else if s.ocu.isSome then (s, refuse .busy)
  else if (s.refSet k).certified then (s, refuse .certified)
  else (s.setSession (some ⟨.zero k, []⟩), accept (.zeroOpened k (s.refSet k)))

/-- ZERO_OPEN (R52). -/
def execZeroOpen (set : Nat) (s : State) : Host.Outcome State Fault Refusal :=
  .next (s.serve .P (.zeroOpen set) (zeroOpen set))

/-- The set is BLANK or INVALID. -/
def RefSet.unset : RefSet → Bool
  | .blank | .invalid => true
  | _ => false

/-- SPAN_OPEN at the OCU and the RFS (R55). -/
def spanOpen (k lm dm : Nat) (s : State) : State × Answer :=
  if 3 < k then (s, refuse .badArgument)
  else if lm < 50000 ∨ 400000 < lm ∨ dm < 1000 ∨ 100000 < dm then (s, refuse .badArgument)
  else if s.ocu.isSome then (s, refuse .busy)
  else if (s.refSet k).certified then (s, refuse .certified)
  else if (s.refSet k).unset then (s, refuse .wrongState)
  else (s.setSession (some ⟨.span k lm dm, []⟩), accept (.spanOpened k (s.refSet k) lm dm))

/-- SPAN_OPEN (R55). -/
def execSpanOpen (set lm dm : Nat) (s : State) : Host.Outcome State Fault Refusal :=
  .next (s.serve .P (.spanOpen set lm dm) (spanOpen set lm dm))

/-- SELECT_REFERENCE at the RFS (R61). -/
def selectReference (k : Nat) (s : State) : State × Answer :=
  if 3 < k then (s, refuse .badArgument)
  else if s.ocu.isSome then (s, refuse .busy)
  else if !(s.refSet k).certified then (s, refuse .wrongState)
  else if s.rfs.active = some k then (s, accept (.activeSet k))
  else ((s.setActive (some k)).dirty curveKey, accept (.activeSet k))

/-- SELECT_REFERENCE (R61). -/
def execSelectReference (set : Nat) (s : State) : Host.Outcome State Fault Refusal :=
  .next (s.serve .P (.selectReference set) (selectReference set))

/-- A ZERO or SPAN session is open on the set (R59). -/
def State.calibrating (s : State) (k : Nat) : Bool :=
  match s.ocu with
  | some x => decide (x.kind.calibrates = some k)
  | none => false

/-- The set with its certified mark written; a set that is not SPANNED holds none. -/
def RefSet.withCertified (c : Bool) : RefSet → RefSet
  | .spanned a b x y e f _ => .spanned a b x y e f c
  | r => r

/-- The set is SPANNED. -/
def RefSet.isSpanned : RefSet → Bool
  | .spanned _ _ _ _ _ _ _ => true
  | _ => false

/-- CERTIFY_REFERENCE at the RFS (R59). -/
def certifyReference (k : Nat) (s : State) : State × Answer :=
  if 3 < k then (s, refuse .badArgument)
  else if s.calibrating k then (s, refuse .busy)
  else if !(s.refSet k).isSpanned then (s, refuse .wrongState)
  else if (s.refSet k).certified then (s, refuse .certified)
  else ((s.setRefSet k ((s.refSet k).withCertified true)).dirty (refKey k), accept .empty)

/-- CERTIFY_REFERENCE (R59). -/
def execCertifyReference (set : Nat) (s : State) : Host.Outcome State Fault Refusal :=
  .next (s.serve .P (.certifyReference set) (certifyReference set))

/-- UNLOCK_REFERENCE at the RFS (R60). -/
def unlockReference (k : Nat) (s : State) : State × Answer :=
  if 3 < k then (s, refuse .badArgument)
  else if !(s.refSet k).certified then (s, refuse .wrongState)
  else if !s.pins.mnt then (s, refuse .wrongState)
  else if s.rfs.active = some k then (s, refuse .wrongState)
  else ((s.setRefSet k ((s.refSet k).withCertified false)).dirty (refKey k), accept .empty)

/-- UNLOCK_REFERENCE (R60). -/
def execUnlockReference (set : Nat) (s : State) : Host.Outcome State Fault Refusal :=
  .next (s.serve .P (.unlockReference set) (unlockReference set))

/-- The nine values of a WRITE_CURVE, each clamped to −500..+500 (R62). -/
def clampedCurve (l : List Int) : Curve := tgen 9 fun i => clampInt (-500) 500 (l.getD i 0)

/-- WRITE_CURVE at the RFS (R62). A command that does not carry exactly nine values is a frame fault (R62, R192). -/
def writeCurve (l : List Int) (s : State) : State × Answer :=
  if l.length ≠ 9 then (s, refuse .frameError)
  else
    let c := clampedCurve l
    let clamped := decide (c.toList ≠ l)
    if s.ocu.isSome then (s.setStagedCurve (some c), acceptClamped clamped (.curveWritten false))
    else if c = s.rfs.curve then (s, acceptClamped clamped (.curveWritten true))
    else ((s.setCurve c).dirty curveKey, acceptClamped clamped (.curveWritten true))

/-- WRITE_CURVE (R62). -/
def execWriteCurve (values : List Int) (s : State) : Host.Outcome State Fault Refusal :=
  .next (s.serve .P (.writeCurve values) (writeCurve values))

/-- READ_REFERENCE at the RFS (R64). -/
def readReference (k : Nat) (s : State) : State × Answer :=
  if 3 < k then (s, refuse .badArgument)
  else (s, accept (.reference k (s.refSet k) (decide (s.rfs.active = some k))))

/-- READ_REFERENCE (R64). -/
def execReadReference (set : Nat) (s : State) : Host.Outcome State Fault Refusal :=
  .next (s.serve .P (.readReference set) (readReference set))

/-- READ_CURVE (R64). -/
def execReadCurve (s : State) : Host.Outcome State Fault Refusal :=
  .next (s.serve .P .readCurve fun t => (t, accept (.curve t.rfs.curve t.rfs.staged t.rfs.active)))

end Sys2Proof.Machine
end

