-- ==== Sys2Proof/Machine/Sessions.lean ====
section
/-! DEFINITION. MEASURE_OPEN, READING, SESSION_CLOSE and SESSION_ABANDON (Section 2; the closes of ZERO and SPAN
sessions, Section 3). -/

namespace Sys2Proof.Machine

open Sys2Proof

/-- The content MEASURE_OPEN gives a record (R28, R17): MEASURING with its prior state held and port P's lock. -/
def AsmRecord.opened (r : AsmRecord) (pr : PriorState) : AsmRecord :=
  { r.enter .measuring with prior := some pr, holder := some .P, idle := 0 }

/-- MEASURE_OPEN at the OCU and the ATB: the checks of R27, then R28. The record is not dirtied (R22). -/
def measureOpen (a : Nat) (s : State) : State × Answer :=
  let r := s.asm a
  if 511 < a then (s, refuse .badArgument)
  else if r.holder = some .C then (s, refuse .locked)
  else if s.ocu.isSome then (s, refuse .busy)
  else match r.measurable, s.rfs.active with
    | none, _ => (s, refuse .wrongState)
    | some _, none => (s, refuse .wrongState)
    | some pr, some k =>
      ((s.setSession (some ⟨.measure a k, []⟩)).changeAsm a (r.opened pr), accept (.measureOpened a pr k))

/-- MEASURE_OPEN (R27, R28). -/
def execMeasureOpen (asm : Nat) (s : State) : Host.Outcome State Fault Refusal :=
  .next (s.serve .P (.measureOpen asm) (measureOpen asm))

/-- READING at the OCU (R30). -/
def addReading (z x : Nat) (s : State) : State × Answer :=
  match s.ocu with
  | none => (s, refuse .wrongState)
  | some n =>
    if saturated < z ∨ saturated < x then (s, refuse .badArgument)
    else if 8 ≤ n.readings.length then (s, refuse .full)
    else
      (s.setSession (some { n with readings := n.readings ++ [(z, x)] }),
        accept (.readingCount (n.readings.length + 1)))

/-- READING (R30). -/
def execReading (z x : Nat) (s : State) : Host.Outcome State Fault Refusal :=
  .next (s.serve .P (.reading z x) (addReading z x))

/-- The fields of SESSION_DONE for a MEASURE close (R36). -/
def measuredDone (x : Session) (temp : Nat) (m : Measured) : SessionDone :=
  match m with
  | .success l r n cl =>
    { kind := .measure, subject := x.kind.subject, outcome := .ready, reason := none, length := some l, radius := some r,
      used := n, rejected := x.readings.length - n, discarded := none, temp := some temp, tempClamped := some cl }
  | .failure why v n cl =>
    { kind := .measure, subject := x.kind.subject, outcome := .quarantined, reason := some why,
      length := v.map fun y => heldValue y.1, radius := v.map fun y => heldValue y.2, used := n,
      rejected := x.readings.length - n, discarded := none, temp := some temp, tempClamped := some cl }

/-- The fields of SESSION_DONE for a ZERO or SPAN close (R57). -/
def calibrationDone (x : Session) (o : SessionOutcome) (used : Nat) : SessionDone :=
  { kind := x.kind.tag, subject := x.kind.subject, outcome := o, reason := none, length := none, radius := none,
    used := used, rejected := x.readings.length - used, discarded := none, temp := none, tempClamped := none }

namespace State

/-- The result of a MEASURE session from the values its sources hold at the close (R38). -/
def measureResult (s : State) (x : Session) (a set temp : Nat) : Measured :=
  let v := (s.refSet set).values
  measure s.params s.rfs.curve v.1 v.2.1 v.2.2.1 v.2.2.2 (s.asm a).nomLength (s.asm a).nomRadius x.readings temp

end State

/-- The record after a MEASURE close with a result (R47, R48). -/
def closedRecord (r : AsmRecord) (set temp total : Nat) : Measured → AsmRecord
  | .success l rd n cl => r.measured set l rd temp n (total - n) cl
  | .failure why v _ _ => r.failed why v

/-- The close of a MEASURE session, in the order of R33. Every close with a result dirties the record, whatever it held
before (R22, R33 part 2). That the reply leaves the CLAMPED mark clear where R43 clamps the temperature for interpolation,
which TEMP_CLAMPED reports, is the model's reading (log 31). -/
def closeMeasure (s : State) (x : Session) (a set temp : Nat) : State × Answer :=
  let m := s.measureResult x a set temp
  let old := s.asm a
  let t := ((s.changeAsm a (closedRecord old set temp x.readings.length m)).dirty a).releaseSubject x
  let d := measuredDone x temp m
  (t.finishSession d, accept (.sessionDone d))

/-- The close of a ZERO session (R54, R57). -/
def closeZero (s : State) (x : Session) (set : Nat) : State × Answer :=
  match calibrateZero s.params x.readings with
  | none =>
    let d := calibrationDone x .tooFew 0
    (s.finishSession d, accept (.sessionDone d))
  | some (z0l, z0r, n) =>
    let d := calibrationDone x .calibrated n
    (((s.setRefSet set ((s.refSet set).withZeros z0l z0r)).sweep set).finishSession d, accept (.sessionDone d))

/-- The close of a SPAN session (R56, R57). -/
def closeSpan (s : State) (x : Session) (set lm dm : Nat) : State × Answer :=
  let v := (s.refSet set).values
  match calibrateSpan s.params v.1 v.2.1 lm dm x.readings with
  | .tooFew =>
    let d := calibrationDone x .tooFew 0
    (s.finishSession d, accept (.sessionDone d))
  | .calRange n =>
    let d := calibrationDone x .calRange n
    (s.finishSession d, accept (.sessionDone d))
  | .calibrated sl sr n =>
    let d := calibrationDone x .calibrated n
    (((s.setRefSet set ((s.refSet set).withScales sl sr lm dm)).sweep set).finishSession d, accept (.sessionDone d))

/-- SESSION_CLOSE at the OCU (R32). -/
def closeSession (temp : Int) (s : State) : State × Answer :=
  match s.ocu with
  | none => (s, refuse .wrongState)
  | some x =>
    if temp < 0 ∨ 600 < temp then (s, refuse .badArgument)
    else match x.kind with
      | .measure a k => closeMeasure s x a k temp.toNat
      | .zero k => closeZero s x k
      | .span k lm dm => closeSpan s x k lm dm

/-- SESSION_CLOSE (R32, R33). -/
def execSessionClose (temp : Int) (s : State) : Host.Outcome State Fault Refusal :=
  .next (s.serve .P (.sessionClose temp) (closeSession temp))

/-- SESSION_ABANDON at the OCU (R34). -/
def abandonSession (s : State) : State × Answer :=
  match s.ocu with
  | none => (s, refuse .wrongState)
  | some x =>
    (((s.returnSubject x).releaseSubject x).finishSession (endedWithout x .abandoned), accept .empty)

/-- SESSION_ABANDON (R34). -/
def execSessionAbandon (s : State) : Host.Outcome State Fault Refusal :=
  .next (s.serve .P .sessionAbandon abandonSession)

end Sys2Proof.Machine
end

