-- ==== Sys2Proof/Machine/Loading.lean ====
section
/-! DEFINITION. The load: what its beginning does (R182, R183), the cross-checks (R184, R185) and its end (R186). -/

namespace Sys2Proof.Machine

open Sys2Proof

/-! ### Reading pages (R176, R177, R183) -/

/-- What the load finds in a page: never written, a passing check with its view, or a failed check. -/
inductive PageRead where
  | blank
  | passed (v : View)
  | failed
deriving DecidableEq, Repr

/-- The view is that of the key's kind of record (Table 9.1). -/
def View.fits (k : Nat) : View → Bool
  | .asm _ => decide (k < 512)
  | .drawer _ _ => decide (512 ≤ k) && decide (k < 576)
  | .cell _ => decide (576 ≤ k) && decide (k < 592)
  | .ref _ => decide (592 ≤ k) && decide (k < 596)
  | .curve _ _ => decide (k = 596)
  | .params _ => decide (k = 597)

/-- The page of key `k` read (R176, R177): a blank page is recognised before the check; a written one passes when its key
number is its position and the check value it holds is the one formed over key number and view; mixed content fails. -/
def Page.read (k : Nat) : Page → PageRead
  | .blank => .blank
  | .written j v c => if j = k ∧ v.fits k ∧ c = checkValue j v then .passed v else .failed
  | .mixed => .failed

/-- The assembly record a page gives (R23): the persistent view held on it, with committed used equal to used, no lock and
the idle timer stopped, as every persistent view has them. -/
def PageRead.asm : PageRead → AsmRecord
  | .blank => blankRecord .vacant
  | .passed (.asm r) => r.view
  | _ => blankRecord .lost

/-- The stock and mismatch mark a page gives (R89). -/
def PageRead.stock : PageRead → Option Nat × Bool
  | .blank => (none, false)
  | .passed (.drawer st m) => (st, m)
  | _ => (none, true)

/-- The profile a page gives (R121). -/
def PageRead.profile : PageRead → Profile
  | .passed (.cell p) => p
  | _ => defaultProfile

/-- The reference set a page gives (R65). -/
def PageRead.refSet : PageRead → RefSet
  | .blank => .blank
  | .passed (.ref r) => r
  | _ => .invalid

/-- The working curve and active-set number a page gives (R66). -/
def PageRead.curve : PageRead → Curve × Option Nat
  | .passed (.curve c a) => (c, a)
  | _ => (tgen 9 fun _ => 0, none)

/-- The parameter record a page gives (R183). -/
def PageRead.params : PageRead → Params
  | .passed (.params p) => p
  | _ => defaultParams

namespace State

/-- The page of key `k` as the load reads it. -/
def readPage (s : State) (k : Nat) : PageRead := (s.page k).read k

/-- A drawer at the beginning of a load (R89, R90): at rest, its stock and mark from its page, its switch levels as they
are; R184 step 4 takes its state from the levels. -/
def loadedDrawer (s : State) (d : Nat) : Drawer :=
  let x := (s.readPage (drawerKey d)).stock
  { restDrawer (s.drawer d).levelOpen (s.drawer d).present with stock := x.1, mismatch := x.2 }

/-- A port at the beginning of a load: its queue emptied and its overflow mark cleared (R182, R197); its buffers emptied
at power-on and at the release of the reset input, and left as they are after a drain (R194). -/
def loadedPort (x : PortState) : Cause → PortState
  | .restart => { x with notices := [], overflow := false }
  | _ => { x with buf := .empty, keep := false, notices := [], overflow := false }

/-- The beginning of a load (R182), with every page read and handed to its owner (R183, log 21). -/
def loadBegin (s : State) (cause : Cause) : State where
  atb := tgen 512 fun a => (s.readPage a).asm
  ocu := none
  rfs := ⟨tgen 4 fun k => (s.readPage (refKey k)).refSet, (s.readPage curveKey).curve.1, none,
    (s.readPage curveKey).curve.2⟩
  drc := ⟨tgen 64 s.loadedDrawer, [], ⟨none, false, 0, 0, 0, 0⟩⟩
  coc := tgen 64 fun _ => none
  ctb := ⟨tgen 16 fun c => ⟨(s.readPage (cellKey c)).profile, tgen 128 fun _ => .empty⟩, []⟩
  hob := ⟨tgen 4 fun _ => .free, tgen 16 fun _ => .empty, [], [], none⟩
  rst := ⟨s.rst.pages, [], none⟩
  params := (s.readPage paramsKey).params
  ports := ⟨loadedPort s.ports.p cause, loadedPort s.ports.c cause, loadedPort s.ports.m cause⟩
  phase := .load cause
  pins := s.pins
  pending := s.pending

/-- A commit in flight ended by power loss or a reset (R181): its page as the store left it, the engine idle, the queue
lost. -/
def interruptCommit (s : State) (o : PageOutcome) : State :=
  let t := (s.setFlight none).setCommitQueue []
  match s.rst.flight with
  | none => t
  | some c => match o with
    | .former => t
    | .snapshot => t.setPage c.key (.whole c.key c.snapshot)
    | .mixed => t.setPage c.key .mixed

/-- The drain ends in the event that leaves the queue empty and the engine idle, and the load begins (R188). -/
def endDrain (s : State) : State :=
  if s.phase = .drain ∧ s.rst.queue = [] ∧ s.rst.flight = none then s.loadBegin .restart else s

/-! ### The cross-checks (R184, R185) -/

/-- The record's facts name a set loaded as INVALID. -/
def namesInvalid (s : State) (r : AsmRecord) : Bool :=
  match r.facts with
  | some f => decide (s.refSet f.refSet = .invalid)
  | none => false

/-- Reference validity (R184 step 1). -/
def checkReferences (s : State) : State :=
  { s with atb := tmap (fun r : AsmRecord => if s.namesInvalid r then r.clearMark else r) s.atb }

/-- Active set (R184 step 2). -/
def checkActive (s : State) : State :=
  match s.rfs.active with
  | some k => if (s.refSet k).certified then s else s.setActive none
  | none => s

/-- The binding of one record placed, or the record made LOST (R184 step 3, R24). -/
def placeBinding (s : State) (a : Nat) : State :=
  let r := s.asm a
  if r.state = .issued ∨ r.state = .exhausted then
    match r.binding with
    | some (c, p) =>
      if p < (s.profile c).size ∧ s.pocket c p = .empty then s.setPocket c p (.bound a)
      else s.setAsm a (r.enter .lost)
    | none => s.setAsm a (r.enter .lost)
  else s

/-- Binding placement (R184 step 3). -/
def placeBindings (s : State) : State := (List.range 512).foldl State.placeBinding s

/-- A drawer's state from its open level, and for a CLOSED drawer the comparison of presence with stock, without a notice
(R184 step 4, R89). -/
def settleDrawer (r : Drawer) : Drawer :=
  if r.levelOpen then { r with state := .opened, openTimer := 0 }
  else { r with state := .closed, mismatch := !r.agrees }

/-- Drawer states (R184 step 4). -/
def settleDrawers (s : State) : State :=
  { s with drc := { s.drc with drawers := tmap settleDrawer s.drc.drawers } }

/-- A drawer's stock stands when the assembly it names is READY or REGRIND and names the drawer (R185). -/
def stockStands (s : State) (d a : Nat) : Bool :=
  decide ((s.asm a).stock = some d) && (decide ((s.asm a).state = .ready) || decide ((s.asm a).state = .regrind))

/-- The drawer's half of the stock cross-check (R185). -/
def checkDrawerStock (s : State) (d : Nat) : State :=
  match (s.drawer d).stock with
  | some a => if s.stockStands d a then s else s.setStock d none true
  | none => s

/-- The assembly's half of the stock cross-check (R185). -/
def checkAsmStock (s : State) (a : Nat) : State :=
  match (s.asm a).stock with
  | some d =>
    if (s.drawer d).stock = some a then s
    else (s.setAsm a { s.asm a with stock := none }).setStock d (s.drawer d).stock true
  | none => s

/-- The stock cross-check (R184 step 5, R185). -/
def checkStock (s : State) : State :=
  (List.range 512).foldl State.checkAsmStock ((List.range 64).foldl State.checkDrawerStock s)

end State

/-! ### What the load dirties (R186) -/

/-- The places, counted from `n`, at which two lists differ. -/
def differAt {α : Type} [DecidableEq α] (n : Nat) : List α → List α → List Nat
  | x :: l, y :: m => if x = y then differAt (n + 1) l m else n :: differAt (n + 1) l m
  | _, _ => []

/-- What a drawer commits (R68). -/
def Drawer.mark (r : Drawer) : Option Nat × Bool := (r.stock, r.mismatch)

namespace State

/-- The keys of the records whose persistent view a cross-check changed: only assemblies, drawers and the curve record
take part in one. -/
def changedKeys (s t : State) : List Nat :=
  differAt 0 (s.atb.toList.map AsmRecord.view) (t.atb.toList.map AsmRecord.view)
    ++ differAt 512 (s.drc.drawers.toList.map Drawer.mark) (t.drc.drawers.toList.map Drawer.mark)
    ++ if s.rfs.active = t.rfs.active then [] else [curveKey]

/-- The keys whose pages failed their check, ascending (R183). -/
def failedKeys (s : State) : List Nat := (List.range 598).filter fun k => decide (s.readPage k = .failed)

/-- The number of keys of a list in `lo` up to but not including `hi`. -/
def countKeys (l : List Nat) (lo hi : Nat) : Nat := (l.filter fun k => decide (lo ≤ k) && decide (k < hi)).length

/-- The fields of STARTED (Table 9.5). -/
def startedNotice (cause : Cause) (failed keys : List Nat) : Started where
  cause := cause
  asm := countKeys failed 0 512
  drawer := countKeys failed 512 576
  cell := countKeys failed 576 592
  ref := countKeys failed 592 596
  curve := countKeys failed 596 597
  params := countKeys failed 597 598
  keys := keys.length

/-- The last event of the load (R186): the cross-checks in order, the failed and changed records dirtied in ascending key
order, STARTED to each port, normal operation, the keep of a RESTART reply dropped (R194). -/
def loadEnd (s : State) (cause : Cause) : State :=
  let s1 := s.checkReferences
  let s2 := s1.checkActive
  let s3 := s2.placeBindings
  let s4 := s3.settleDrawers
  let s5 := s4.checkStock
  let failed := s.failedKeys
  let changed := s.changedKeys s1 ++ s1.changedKeys s2 ++ s2.changedKeys s3 ++ s3.changedKeys s4 ++ s4.changedKeys s5
  let keys := (List.range 598).filter fun k => decide (k ∈ failed) || decide (k ∈ changed)
  let n : Notice := .started (startedNotice cause failed keys)
  let t := (((s5.setCommitQueue keys).kickEngine.notify .P n).notify .C n).notify .M n
  (t.setPort .C { t.port .C with keep := false }).setPhase .running

end State

end Sys2Proof.Machine
end

