-- ==== Sys2Proof/Machine/StoreCommands.lean ====
section
/-! DEFINITION. COMMIT_COMPLETION, RESTART, POWER_ON, POWER_LOSS, RESET_INPUT_ASSERTED, RESET_INPUT_RELEASED, LOAD_END and
MNT_INPUT_CHANGE (Sections 9 and 3). -/

namespace Sys2Proof.Machine

open Sys2Proof

namespace State

/-! ### Commits (R180) -/

/-- The committed used of an assembly key set to the used that its commit wrote (R180 step 2, R21). -/
def noteCommitted (s : State) (k : Nat) (v : View) : State :=
  match v with
  | .asm r => if k < 512 then s.setAsm k { s.asm k with committed := r.used } else s
  | _ => s

/-- The completion of the commit in flight (R180), and of the drain when it was the last (R188). -/
def completeCommit (s : State) : State :=
  match s.rst.flight with
  | none => s
  | some c =>
    let t := ((s.setPage c.key (.whole c.key c.snapshot)).noteCommitted c.key c.snapshot).setFlight none
    let u := if c.redirty ∧ c.key ∉ t.rst.queue then t.setCommitQueue (t.rst.queue ++ [c.key]) else t
    u.kickEngine.endDrain

end State

/-- COMMIT_COMPLETION (R180). -/
def execCommitCompletion (s : State) : Host.Outcome State Fault Refusal :=
  .next (if s.phase.active then s.completeCommit else s)

/-! ### RESTART (R187, R188) -/

/-- The drawer keeps RESTART out: PULSING, OPEN, or holding an operation (R187 check 2). -/
def State.busyDrawer (s : State) (d : Nat) : Bool :=
  decide ((s.drawer d).state = .pulsing) || decide ((s.drawer d).state = .opened) || (s.op d).isSome

/-- A request that waits at a port when a RESTART is accepted is answered LOADING, phase DRAIN (R193, log 18). -/
def State.answerWaiting (s : State) (p : Port) : State :=
  match (s.port p).buf with
  | .pending tag _ => s.answerLoading p tag true
  | _ => s

/-- RESTART at the RST (R187): its reply is kept (R194). -/
def restart (s : State) : State × Answer :=
  if s.ocu.isSome then (s, { refuse .busy with body := .restartRefused none })
  else match (List.range 64).find? s.busyDrawer with
    | some d => (s, { refuse .busy with body := .restartRefused (some d) })
    | none =>
      ((((s.answerWaiting .P).answerWaiting .M).setPhase .drain).endDrain,
        { accept (.restartAccepted s.rst.queue.length s.rst.flight.isSome) with keep := true })

/-- RESTART (R187). -/
def execRestart (s : State) : Host.Outcome State Fault Refusal := .next (s.serve .C .restart restart)

/-! ### Power and the reset input (R181, R182) -/

namespace State

/-- The reset input's level written. -/
def setResetInput (s : State) (asserted : Bool) : State := s.setPins { s.pins with resetAsserted := asserted }

/-- The part with its reset input low: data out of every port is held high (R189), which `dataOut` shows as FFh. -/
def enterReset (s : State) : State :=
  (((s.drive .P [0xFF]).drive .C [0xFF]).drive .M [0xFF]).setPhase .held

/-- Power-on of a part without power (R182): the load begins, unless the reset input is asserted (log 25). -/
def powerOn (s : State) : State :=
  if s.phase = .off then if s.pins.resetAsserted then s.enterReset else s.loadBegin .powerOn else s

/-- Power loss (R181): a commit in flight ends, and nothing goes on. -/
def powerLoss (s : State) (o : PageOutcome) : State :=
  if s.phase = .off then s else (s.interruptCommit o).setPhase .off

/-- The reset input is asserted (R182, R189): a commit in flight ends, data out is held high, and nothing goes on. -/
def assertReset (s : State) (o : PageOutcome) : State :=
  let t := s.setResetInput true
  match s.phase with
  | .off | .held => t
  | _ => (t.interruptCommit o).enterReset

/-- The reset input is released (R182): the load begins. -/
def releaseReset (s : State) : State :=
  let t := s.setResetInput false
  if s.phase = .held then t.loadBegin .resetInput else t

/-- The load in progress ends (R184, R186). -/
def finishLoad (s : State) : State :=
  match s.phase with
  | .load cause => s.loadEnd cause
  | _ => s

end State

/-- POWER_ON (R182). -/
def execPowerOn (s : State) : Host.Outcome State Fault Refusal := .next s.powerOn

/-- POWER_LOSS (R181). -/
def execPowerLoss (page : PageOutcome) (s : State) : Host.Outcome State Fault Refusal := .next (s.powerLoss page)

/-- RESET_INPUT_ASSERTED (R182). -/
def execResetInputAsserted (page : PageOutcome) (s : State) : Host.Outcome State Fault Refusal :=
  .next (s.assertReset page)

/-- RESET_INPUT_RELEASED (R182). -/
def execResetInputReleased (s : State) : Host.Outcome State Fault Refusal := .next s.releaseReset

/-- LOAD_END (R184, R186). -/
def execLoadEnd (s : State) : Host.Outcome State Fault Refusal := .next s.finishLoad

/-- MNT_INPUT_CHANGE (R60): the part holds the new level. -/
def execMntInputChange (high : Bool) (s : State) : Host.Outcome State Fault Refusal :=
  .next (s.setPins { s.pins with mnt := high })

end Sys2Proof.Machine
end

