-- ==== Sys2Proof/Machine/Dispatch.lean ====
section
/-! DEFINITION. The dispatch of a command to its meaning, one arm for each row of spec/opcode_table.json. -/

namespace Sys2Proof.Machine

open Sys2Proof

/-- The effect of a command on everything but the queue. -/
def exec (i : Instr) (s : State) : Host.Outcome State Fault Refusal :=
  match i with
  | .requestFrameEnd p bytes midByte => Sys2Proof.Machine.execRequestFrameEnd p bytes midByte s
  | .replyRead p clocked => Sys2Proof.Machine.execReplyRead p clocked s
  | .measureOpen asm => Sys2Proof.Machine.execMeasureOpen asm s
  | .reading z x => Sys2Proof.Machine.execReading z x s
  | .sessionClose temp => Sys2Proof.Machine.execSessionClose temp s
  | .sessionAbandon => Sys2Proof.Machine.execSessionAbandon s
  | .zeroOpen set => Sys2Proof.Machine.execZeroOpen set s
  | .spanOpen set lm dm => Sys2Proof.Machine.execSpanOpen set lm dm s
  | .selectReference set => Sys2Proof.Machine.execSelectReference set s
  | .certifyReference set => Sys2Proof.Machine.execCertifyReference set s
  | .unlockReference set => Sys2Proof.Machine.execUnlockReference set s
  | .writeCurve values => Sys2Proof.Machine.execWriteCurve values s
  | .readReference set => Sys2Proof.Machine.execReadReference set s
  | .readCurve => Sys2Proof.Machine.execReadCurve s
  | .register asm family nomLength nomRadius mode limit warn => Sys2Proof.Machine.execRegister asm family nomLength nomRadius mode limit warn s
  | .retire asm => Sys2Proof.Machine.execRetire asm s
  | .returnFromRegrind asm => Sys2Proof.Machine.execReturnFromRegrind asm s
  | .stock asm drawer => Sys2Proof.Machine.execStock asm drawer s
  | .withdraw asm => Sys2Proof.Machine.execWithdraw asm s
  | .issue asm cell pocket => Sys2Proof.Machine.execIssue asm cell pocket s
  | .issuePick cell pocket => Sys2Proof.Machine.execIssuePick cell pocket s
  | .returnTool asm drawer condition => Sys2Proof.Machine.execReturnTool asm drawer condition s
  | .cancelDrawer drawer => Sys2Proof.Machine.execCancelDrawer drawer s
  | .clearJam drawer => Sys2Proof.Machine.execClearJam drawer s
  | .clearDriver => Sys2Proof.Machine.execClearDriver s
  | .setLife asm mode limit warn => Sys2Proof.Machine.execSetLife asm mode limit warn s
  | .writeCell cell size unit form order datum factor auto => Sys2Proof.Machine.execWriteCell cell size unit form order datum factor auto s
  | .readDrawer drawer => Sys2Proof.Machine.execReadDrawer drawer s
  | .readPicks => Sys2Proof.Machine.execReadPicks s
  | .restart => Sys2Proof.Machine.execRestart s
  | .lock p asm => Sys2Proof.Machine.execLock p asm s
  | .unlock p asm => Sys2Proof.Machine.execUnlock p asm s
  | .readRecord p asm => Sys2Proof.Machine.execReadRecord p asm s
  | .handoff cell start size => Sys2Proof.Machine.execHandoff cell start size s
  | .usage cell pocket seconds count => Sys2Proof.Machine.execUsage cell pocket seconds count s
  | .requestTool cell pocket family => Sys2Proof.Machine.execRequestTool cell pocket family s
  | .withdrawRequest cell pocket => Sys2Proof.Machine.execWithdrawRequest cell pocket s
  | .readCell cell => Sys2Proof.Machine.execReadCell cell s
  | .readNotice p => Sys2Proof.Machine.execReadNotice p s
  | .status p => Sys2Proof.Machine.execStatus p s
  | .setParameter p number value => Sys2Proof.Machine.execSetParameter p number value s
  | .openSeen d => Sys2Proof.Machine.execOpenSeen d s
  | .closeSeen d => Sys2Proof.Machine.execCloseSeen d s
  | .presenceLevelChange d present => Sys2Proof.Machine.execPresenceLevelChange d present s
  | .pulseWidthElapsed => Sys2Proof.Machine.execPulseWidthElapsed s
  | .overcurrent => Sys2Proof.Machine.execOvercurrent s
  | .waitExpiry d => Sys2Proof.Machine.execWaitExpiry d s
  | .openTimeExpiry d => Sys2Proof.Machine.execOpenTimeExpiry d s
  | .lockExpiry a => Sys2Proof.Machine.execLockExpiry a s
  | .discardExpiry n => Sys2Proof.Machine.execDiscardExpiry n s
  | .entryFormation => Sys2Proof.Machine.execEntryFormation s
  | .slotBuildCompletion => Sys2Proof.Machine.execSlotBuildCompletion s
  | .readAheadBuildCompletion => Sys2Proof.Machine.execReadAheadBuildCompletion s
  | .commitCompletion => Sys2Proof.Machine.execCommitCompletion s
  | .powerOn => Sys2Proof.Machine.execPowerOn s
  | .powerLoss page => Sys2Proof.Machine.execPowerLoss page s
  | .resetInputAsserted page => Sys2Proof.Machine.execResetInputAsserted page s
  | .resetInputReleased => Sys2Proof.Machine.execResetInputReleased s
  | .loadEnd => Sys2Proof.Machine.execLoadEnd s
  | .mntInputChange high => Sys2Proof.Machine.execMntInputChange high s
  | .overcurrentSenseReleased => Sys2Proof.Machine.execOvercurrentSenseReleased s

end Sys2Proof.Machine
end

