-- ==== Sys2Proof/Machine/Step.lean ====
section
/-! DEFINITION. One step: the command at the front of the queue, or one millisecond when the queue is empty. -/

namespace Sys2Proof.Machine

open Sys2Proof

/-- The command at the front of the queue is run with the queue's rest; on an empty queue one millisecond passes
(log 3). -/
def step (s : State) : Host.Outcome State Fault Refusal :=
  match s.pending with
  | [] => .next s.tick
  | i :: q => exec i { s with pending := q }

/-- The state with the command that a word spells at the front of its queue; unchanged where the word spells none, which
is every word, since the table gives no row any bits. -/
def State.withFetchWord (s : State) (nbits w : Nat) : State :=
  match decodeTableWord nbits w with
  | some i => { s with pending := i :: s.pending }
  | none => s

end Sys2Proof.Machine
end

