-- ==== Sys2Proof/Safety.lean ====
section
/-! DEFINITION. What counts as a safe run, and the terms the statements use: when a block takes a request, what a reply or
a dirtying leaves, and the laws of the part that every step keeps. -/

namespace Sys2Proof.Machine

open Sys2Proof

/-- A state from which `k` steps all answer a next state. -/
def Safe : Nat → State → Prop
  | 0, _ => True
  | k + 1, s => ∃ t, step s = .next t ∧ Safe k t

/-! ### Requests -/

/-- The tag under which the owning block takes a request command (R193): normal operation, no kept reply, and either the
same request waits at the port, or none waits and Table 10.3 permits it there (log 5). -/
def State.taken (s : State) (p : Port) (i : Instr) : Option Byte :=
  match s.phase, (s.port p).keep with
  | .running, false => match (s.port p).buf with
    | .pending tag j => if j = i then some tag else none
    | _ => if requestPermitted i then some 0 else none
  | _, _ => none

/-- The state with a reply in a port's buffer, the next reply that the buffer holds. -/
def State.replied (s : State) (p : Port) (r : Reply) : State :=
  s.setPort p { s.port p with buf := .held r, draws := (s.port p).draws + 1 }

/-- The state with notices placed one after the other. -/
def State.placed (s : State) (l : List (Port × Notice)) : State := l.foldl (fun t x => t.notify x.1 x.2) s

/-- A reply with status OK. -/
def okReply (tag : Byte) (clamped : Bool) (b : Body) : Reply := ⟨.ok, clamped, tag, b⟩

/-! ### Dirtying -/

/-- The key waits in the commit queue or is in flight. -/
def State.queued (s : State) (k : Nat) : Prop := k ∈ s.rst.queue ∨ ∃ c, s.rst.flight = some c ∧ c.key = k

/-- A commit will write what the record of the key holds now: the key waits, or is in flight and redirtied, or is in flight
with this content. -/
def State.willWrite (s : State) (k : Nat) : Prop :=
  k ∈ s.rst.queue ∨ ∃ c, s.rst.flight = some c ∧ c.key = k ∧ (c.redirty = true ∨ c.snapshot = s.viewOf k)

/-- What an event that dirties exactly the listed keys, each listed once, does to the Record Store: the pages stay, the keys
will be written, and every other key waits or not as before. The keys enter in the order of the list (R178): with a commit in
flight each key joins the tail of the queue, but one that waits keeps its place, and one in flight sets the redirty mark. With
the engine idle and nothing waiting, the engine takes the first key at once with its record's view, and the others wait
behind it (R179). Where no key is listed nothing changes. -/
def Dirties (s t : State) (l : List Nat) : Prop :=
  t.rst.pages = s.rst.pages ∧ (∀ k ∈ l, t.willWrite k) ∧ (∀ k, k ∉ l → (t.queued k ↔ s.queued k)) ∧
    (l = [] → t.rst = s.rst) ∧
    (∀ c, s.rst.flight = some c →
      t.rst.queue = s.rst.queue ++ l.filter (fun k => decide (k ∉ s.rst.queue ∧ k ≠ c.key)) ∧
      t.rst.flight = some { c with redirty := c.redirty || decide (c.key ∈ l ∧ c.key ∉ s.rst.queue) }) ∧
    ∀ k q, l = k :: q → s.rst.flight = none → s.rst.queue = [] →
      t.rst.queue = q ∧ t.rst.flight = some ⟨k, t.viewOf k, false⟩

/-- What a calibrating close does to the Record Store (R58): the swept assembly keys `w`, in ascending order, then the key `r`
of the set, then the keys `l` are dirtied. An assembly key that waits keeps its place; one in flight enters the tail at once,
and the redirty mark of its commit is cleared. The set's key is taken from its place and enters behind the assemblies, or sets
the redirty mark of its commit in flight. All else is as in `Dirties`. -/
def SweepDirties (s t : State) (w : List Nat) (r : Nat) (l : List Nat) : Prop :=
  t.rst.pages = s.rst.pages ∧ (∀ k ∈ w ++ r :: l, t.willWrite k) ∧
    (∀ k, k ∉ w ++ r :: l → (t.queued k ↔ s.queued k)) ∧
    (∀ c, s.rst.flight = some c → s.rst.queue.Nodup →
      t.rst.queue = s.rst.queue.erase r ++ w.filter (fun k => decide (k ∉ s.rst.queue)) ++
        (r :: l).filter (fun k => decide ((k = r ∨ k ∉ s.rst.queue) ∧ k ≠ c.key)) ∧
      t.rst.flight = some { c with
        redirty := !decide (c.key ∈ w) &&
          (c.redirty || decide (c.key = r ∨ c.key ∈ l ∧ c.key ∉ s.rst.queue)) }) ∧
    ∀ k q, w ++ r :: l = k :: q → s.rst.flight = none → s.rst.queue = [] →
      t.rst.queue = q ∧ t.rst.flight = some ⟨k, t.viewOf k, false⟩

/-- Every assembly record but one stays. -/
def OthersStay (s t : State) (a : Nat) : Prop := ∀ b, b ≠ a → t.asm b = s.asm b

/-- Every drawer record but one stays. -/
def OtherDrawersStay (s t : State) (d : Nat) : Prop := ∀ e, e ≠ d → t.drawer e = s.drawer e

/-- Every operation record but one stays. -/
def OtherOpsStay (s t : State) (d : Nat) : Prop := ∀ e, e ≠ d → t.op e = s.op e

/-- Every pocket map entry but one stays. -/
def OtherPocketsStay (s t : State) (c p : Nat) : Prop :=
  ∀ e q, (e, q) ≠ (c, p) → t.pocket e q = s.pocket e q

/-! ### The laws of the part -/

/-- No notice queue holds more than 16 notices (R197). -/
def NoticeLaw (s : State) : Prop := ∀ p, (s.port p).notices.length ≤ 16

/-- Only port C keeps a reply, and only from the acceptance of a RESTART to the end of its load (R194). -/
def KeepLaw (s : State) : Prop :=
  (s.port .P).keep = false ∧ (s.port .M).keep = false ∧ (s.phase = .running → (s.port .C).keep = false)

/-- Law L12 with R179 and R180: each key waits at most once, an idle engine leaves no key waiting, a redirtied key in flight
does not wait as well, and a load finds nothing waiting or in flight (R182). -/
def CommitLaw (s : State) : Prop :=
  s.rst.queue.Nodup ∧ (s.rst.flight = none → s.rst.queue = []) ∧
    (∀ c, s.rst.flight = some c → c.redirty = true → c.key ∉ s.rst.queue) ∧
    ∀ x, s.phase = .load x → s.rst.queue = [] ∧ s.rst.flight = none

/-- The reading list holds at most 8 pairs, each count in range (R25, R31). -/
def ReadingLaw (s : State) : Prop :=
  ∀ x, s.ocu = some x → x.readings.length ≤ 8 ∧ ∀ r ∈ x.readings, r.1 ≤ saturated ∧ r.2 ≤ saturated

/-- The first half of law L11: at most 32 pick entries, at most one for a cell and pocket (R122). -/
def PickLaw (s : State) : Prop :=
  s.picks.length ≤ 32 ∧ (s.picks.map fun k => (k.cell, k.pocket)).Nodup

/-- Law L4 with R74: the release queue holds exactly the QUEUED drawers, each once; the driver is BUSY exactly with the one
PULSING drawer; in FAULT the release set is empty (R81); an IDLE and OK driver leaves no drawer QUEUED; the release set holds
at most 8; a load finds no release (R90); and while the blocks act a drawer is OPEN exactly when its open level is open
(R69, R71, R72). -/
def ReleaseLaw (s : State) : Prop :=
  s.drc.queue.Nodup ∧ (∀ d, d ∈ s.drc.queue ↔ (s.drawer d).state = .queued) ∧
    (∀ d, (s.drawer d).state = .pulsing ↔ s.drc.driver.pulsing = some d) ∧
    (s.drc.driver.fault = true → ∀ d, (s.drawer d).state.releasing = false) ∧
    (s.drc.driver.pulsing = none → s.drc.driver.fault = false → s.drc.queue = []) ∧ s.releaseCount ≤ 8 ∧
    (∀ x, s.phase = .load x → s.drc.queue = [] ∧ s.drc.driver.pulsing = none) ∧
    (s.phase.active = true → ∀ d, (s.drawer d).levelOpen = decide ((s.drawer d).state = .opened))

/-- Law L5: the subject of the open MEASURE session, and it alone, is MEASURING, with its prior state held and port P
holding its lock (R7, R17, R25). -/
def SessionLaw (s : State) : Prop :=
  (∀ a k l, s.ocu = some ⟨.measure a k, l⟩ → (s.asm a).state = .measuring ∧ (s.asm a).holder = some .P) ∧
    ∀ a, (s.asm a).state = .measuring → (s.asm a).prior.isSome = true ∧ ∃ k l, s.ocu = some ⟨.measure a k, l⟩

/-- No assembly is in two operations (R92); the assembly of an ISSUE is ISSUING (R104), that of a RETURN ISSUED or
EXHAUSTED (R108); no operation is held during a load (R91). -/
def OperationLaw (s : State) : Prop :=
  (∀ d e o u, s.op d = some o → s.op e = some u → o.asm = u.asm → d = e) ∧
    (∀ d o c p l k, s.op d = some o → o.kind = .issue c p l k → (s.asm o.asm).state = .issuing) ∧
    (∀ d o k, s.op d = some o → o.kind = .giveBack k →
      (s.asm o.asm).state = .issued ∨ (s.asm o.asm).state = .exhausted) ∧
    ∀ c d, s.phase = .load c → s.op d = none

/-- Law L10 with R161 and R171: no two slots hold one identity, a read-ahead buffer holds an identity of its own cell, and
none that a slot holds. -/
def SlotLaw (s : State) : Prop :=
  (∀ i j x, (s.slot i).ident = some x → (s.slot j).ident = some x → i = j) ∧
    ∀ c x, (s.buffer c).ident = some x → x.cell = c ∧ ∀ i, (s.slot i).ident ≠ some x

/-- While the blocks act, the active set is certified (R60, R61, R66). -/
def ActiveLaw (s : State) : Prop :=
  s.phase.active = true → ∀ k, s.rfs.active = some k → (s.refSet k).certified = true

/-- The second part of law L9: used never exceeds 64,000,000 eighths, on a page or in flight either (R138). -/
def UsedLaw (s : State) : Prop :=
  (∀ a, (s.asm a).used ≤ usedMax) ∧ (∀ k j r x, s.page k = .written j (.asm r) x → r.used ≤ usedMax) ∧
    ∀ c r, s.rst.flight = some c → c.snapshot = .asm r → r.used ≤ usedMax

end Sys2Proof.Machine
end

