-- ==== Sys2Proof/WellFormed.lean ====
section
/-! DEFINITION. Which commands a port partner can send: every request argument fits the width that Table 10.3 and
the list below it give it. The commands of the crib hardware and the internal events name existing drawers, records
and slots by their types. -/

namespace Sys2Proof

/-- The value fits an unsigned field of `w` bytes (R190). -/
def fitsUnsigned (w v : Nat) : Bool := decide (v < 256 ^ w)

/-- The value fits a two's complement field of `w` bytes (R190). -/
def fitsSigned (w : Nat) (v : Int) : Bool :=
  decide (-(256 ^ w : Nat) ≤ 2 * v) && decide (2 * v < (256 ^ w : Nat))

/-- A nominal pair behind its presence byte: two unsigned fields of 4 bytes. -/
def fitsPair : Option (Nat × Nat) → Bool
  | none => true
  | some (v, t) => fitsUnsigned 4 v && fitsUnsigned 4 t

/-- The command's arguments fit their fields (Table 10.3 and the widths below it). A request frame's first byte is
not 00h, which would name a reply read (R189); a WRITE_CURVE carries exactly nine values (R62). -/
def Instr.wellFormed : Instr → Bool
  | .requestFrameEnd _ bytes _ => match bytes with
    | [] => true
    | b :: _ => decide (b ≠ 0)
  | .replyRead _ _ => true
  | .measureOpen a => fitsUnsigned 2 a
  | .reading z x => fitsUnsigned 4 z && fitsUnsigned 4 x
  | .sessionClose t => fitsSigned 2 t
  | .sessionAbandon => true
  | .zeroOpen k => fitsUnsigned 1 k
  | .spanOpen k lm dm => fitsUnsigned 1 k && fitsUnsigned 4 lm && fitsUnsigned 4 dm
  | .selectReference k => fitsUnsigned 1 k
  | .certifyReference k => fitsUnsigned 1 k
  | .unlockReference k => fitsUnsigned 1 k
  | .writeCurve vs => decide (vs.length = 9) && vs.all (fitsSigned 2)
  | .readReference k => fitsUnsigned 1 k
  | .readCurve => true
  | .register a f nl nr m l w =>
    fitsUnsigned 2 a && (match f with | none => true | some v => fitsUnsigned 1 v) && fitsPair nl && fitsPair nr
      && fitsUnsigned 1 m && fitsUnsigned 4 l && fitsUnsigned 1 w
  | .retire a => fitsUnsigned 2 a
  | .returnFromRegrind a => fitsUnsigned 2 a
  | .stock a d => fitsUnsigned 2 a && fitsUnsigned 1 d
  | .withdraw a => fitsUnsigned 2 a
  | .issue a c p => fitsUnsigned 2 a && fitsUnsigned 1 c && fitsUnsigned 1 p
  | .issuePick c p => fitsUnsigned 1 c && fitsUnsigned 1 p
  | .returnTool a d k => fitsUnsigned 2 a && fitsUnsigned 1 d && fitsUnsigned 1 k
  | .cancelDrawer d => fitsUnsigned 1 d
  | .clearJam d => fitsUnsigned 1 d
  | .clearDriver => true
  | .setLife a m l w => fitsUnsigned 2 a && fitsUnsigned 1 m && fitsUnsigned 4 l && fitsUnsigned 1 w
  | .writeCell c n u f o dt lf au =>
    fitsUnsigned 1 c && fitsUnsigned 1 n && fitsUnsigned 1 u && fitsUnsigned 1 f && fitsUnsigned 1 o
      && fitsSigned 4 dt && fitsUnsigned 1 lf && fitsUnsigned 1 au
  | .readDrawer d => fitsUnsigned 1 d
  | .readPicks => true
  | .restart => true
  | .lock _ a => fitsUnsigned 2 a
  | .unlock _ a => fitsUnsigned 2 a
  | .readRecord _ a => fitsUnsigned 2 a
  | .handoff c st n => fitsUnsigned 1 c && fitsUnsigned 1 st && fitsUnsigned 1 n
  | .usage c p sec n => fitsUnsigned 1 c && fitsUnsigned 1 p && fitsUnsigned 4 sec && fitsUnsigned 4 n
  | .requestTool c p f => fitsUnsigned 1 c && fitsUnsigned 1 p && fitsUnsigned 1 f
  | .withdrawRequest c p => fitsUnsigned 1 c && fitsUnsigned 1 p
  | .readCell c => fitsUnsigned 1 c
  | .readNotice _ => true
  | .status _ => true
  | .setParameter _ n v => fitsUnsigned 1 n && fitsUnsigned 4 v
  | .openSeen _ => true
  | .closeSeen _ => true
  | .presenceLevelChange _ _ => true
  | .pulseWidthElapsed => true
  | .overcurrent => true
  | .waitExpiry _ => true
  | .openTimeExpiry _ => true
  | .lockExpiry _ => true
  | .discardExpiry _ => true
  | .entryFormation => true
  | .slotBuildCompletion => true
  | .readAheadBuildCompletion => true
  | .commitCompletion => true
  | .powerOn => true
  | .powerLoss _ => true
  | .resetInputAsserted _ => true
  | .resetInputReleased => true
  | .loadEnd => true
  | .mntInputChange _ => true
  | .overcurrentSenseReleased => true

end Sys2Proof
end

