-- ==== Sys2Proof/Certificates/Slice0/Obligations.lean ====
section
/-! DEFINITION. The statements for the provers. A statement about a request takes the request by `State.taken`, so it covers
the request that waits at its port after a frame and the command sent on its own (log 5). -/

open Sys2Proof Sys2Proof.Machine

/-! ### The machine -/

/-- A step runs the command at the front of the queue with the queue's rest. -/
def Obligations.StepRunsTheFrontCommand : Prop :=
  ∀ (i : Instr) (q : List Instr) (s : State), s.pending = i :: q → step s = exec i { s with pending := q }

/-- On an empty queue nothing but the running timers moves, each by 1 ms, and the queue then holds the expiries due, exactly
those: pulse, waits, open times, locks and discards at their limits (the model's choice, log 3; which timers run and when
each is due: R14, R15, R75, R76, R78, R85, R169; none in a load or a reset: R182). -/
def Obligations.EmptyQueueIsOneMillisecond : Prop :=
  ∀ s : State, s.pending = [] →
    (s.phase.active = false → step s = .next s) ∧
    (s.phase.active = true → ∃ t, step s = .next t ∧
      t = { s with atb := t.atb, drc := t.drc, hob := t.hob, pending := t.pending } ∧
      (∀ a, t.asm a = { s.asm a with
        idle := if (s.asm a).holder.isSome then (s.asm a).idle + 1 else (s.asm a).idle }) ∧
      (∀ d, t.drawer d = { s.drawer d with
        waitTimer := if (s.drawer d).state.waiting then (s.drawer d).waitTimer + 1 else (s.drawer d).waitTimer
        openTimer := if (s.drawer d).state = .opened then (s.drawer d).openTimer + 1 else (s.drawer d).openTimer }) ∧
      t.drc.queue = s.drc.queue ∧
      t.drc.driver = { s.drc.driver with
        pulseTimer := if s.drc.driver.pulsing.isSome then s.drc.driver.pulseTimer + 1 else s.drc.driver.pulseTimer } ∧
      (∀ n h b x, s.slot n = .complete h b x → t.slot n = .complete h b (x + 1)) ∧
      (∀ n, (∀ h b x, s.slot n ≠ .complete h b x) → t.slot n = s.slot n) ∧
      t.hob = { s.hob with slots := t.hob.slots } ∧
      (Instr.pulseWidthElapsed ∈ t.pending ↔
        t.drc.driver.pulsing.isSome = true ∧ t.drc.driver.pulseWidth ≤ t.drc.driver.pulseTimer) ∧
      (∀ d : Fin 64, Instr.waitExpiry d ∈ t.pending ↔
        (t.drawer d).state.waiting = true ∧ (t.drawer d).waitTime ≤ (t.drawer d).waitTimer) ∧
      (∀ d : Fin 64, Instr.openTimeExpiry d ∈ t.pending ↔ (t.drawer d).state = .opened ∧
        (t.drawer d).openReported = false ∧ t.params.openLimit * 1000 ≤ (t.drawer d).openTimer) ∧
      (∀ a : Fin 512, Instr.lockExpiry a ∈ t.pending ↔
        (t.asm a).holder.isSome = true ∧ t.params.lockIdleLimit ≤ (t.asm a).idle) ∧
      (∀ n : Fin 4, Instr.discardExpiry n ∈ t.pending ↔
        ∃ h b x, t.slot n = .complete h b x ∧ t.params.discardLimit ≤ x) ∧
      ∀ i ∈ t.pending, i = .pulseWidthElapsed ∨ (∃ d, i = .waitExpiry d) ∨ (∃ d, i = .openTimeExpiry d) ∨
        (∃ a, i = .lockExpiry a) ∨ ∃ n, i = .discardExpiry n)

/-- What reset leaves: the load of power-on has begun (R182), and every record reads as its blank page gives it (R177,
R23); the input levels and a store never written are the model's choice (logs 1 and 2). -/
def Obligations.ResetIsTheBeginningOfALoad : Prop :=
  State.reset.phase = .load .powerOn ∧ State.reset.pending = [] ∧ State.reset.ocu = none ∧
    (∀ a, a < 512 → State.reset.asm a = blankRecord .vacant) ∧
    (∀ d, d < 64 → State.reset.drawer d = restDrawer false false ∧ State.reset.op d = none) ∧
    State.reset.drc.queue = [] ∧ State.reset.drc.driver = ⟨none, false, 0, 0, 0, 0⟩ ∧
    (∀ c p, State.reset.profile c = defaultProfile ∧ State.reset.pocket c p = .empty) ∧ State.reset.picks = [] ∧
    (∀ k, State.reset.refSet k = .blank) ∧ State.reset.rfs.active = none ∧ State.reset.rfs.staged = none ∧
    (∀ i, i < 9 → tget 1 State.reset.rfs.curve i = 0) ∧
    (∀ n, State.reset.slot n = .free) ∧ (∀ c, State.reset.buffer c = .empty) ∧
    State.reset.hob.slotBuilds = [] ∧ State.reset.hob.readAheads = [] ∧ State.reset.hob.builder = none ∧
    State.reset.rst.queue = [] ∧ State.reset.rst.flight = none ∧ (∀ k, State.reset.page k = .blank) ∧
    State.reset.params = defaultParams ∧ ∀ p, State.reset.port p = idlePort

/-! ### Frames, ports and notices -/

/-- The frame of every request, read on its port, is that request with its tag. -/
def Obligations.FrameCarriesItsRequest : Prop :=
  ∀ (i : Instr) (p : Port) (tag : Byte), requestPort i = some p → requestPermitted i = true → i.wellFormed = true →
    parseFrame p (frameOf tag i) false = .request tag i

/-- A frame is handed over, answered or discarded (R189, R192, R193). The frame of a permitted request, at a port where none
waits, puts the request in the request buffer in normal operation, a held reply giving way; FFh is driven throughout, and
nothing else changes. A frame of two or more bytes that does not begin with 00h and is not handed over is discarded behind a
waiting request; when faulty it is answered FRAME_ERROR; in a drain or a load a sound one is answered LOADING; in normal
operation an unknown kind or one not permitted is refused. Its tag is echoed. -/
def Obligations.FramesAreHandedOverOrAnswered : Prop :=
  (∀ (i : Instr) (p : Port) (tag : Byte) (s : State), requestPort i = some p → requestPermitted i = true →
    i.wellFormed = true → s.phase = .running → (∀ g j, (s.port p).buf ≠ .pending g j) →
    exec (.requestFrameEnd p (frameOf tag i) false) s = .next (s.setPort p { s.port p with
      buf := .pending tag i, dataOut := List.replicate (frameOf tag i).length 0xFF })) ∧
  ∀ (p : Port) (b tag : Byte) (l : List Byte) (midByte : Bool) (s : State), b ≠ 0 → (s.port p).keep = false →
    s.phase ≠ .held → s.phase ≠ .off →
    ∃ t, exec (.requestFrameEnd p (b :: tag :: l) midByte) s = .next t ∧
      (t.port p).dataOut = List.replicate (l.length + 2) 0xFF ∧
      t = s.setPort p { s.port p with
        buf := (t.port p).buf, dataOut := (t.port p).dataOut, draws := (t.port p).draws } ∧
      (∀ g j, (s.port p).buf = .pending g j → (t.port p).buf = (s.port p).buf) ∧
      ((∀ g j, (s.port p).buf ≠ .pending g j) →
        (frameFaulty (b :: tag :: l) midByte = true → (t.port p).buf = .held ⟨.frameError, false, tag, .empty⟩) ∧
        (frameFaulty (b :: tag :: l) midByte = false →
          (s.phase = .drain → (t.port p).buf = .held ⟨.loading, false, tag, .phase true⟩) ∧
          (∀ c, s.phase = .load c → (t.port p).buf = .held ⟨.loading, false, tag, .phase false⟩) ∧
          (s.phase = .running →
            (kindRow b.toNat = none → (t.port p).buf = .held ⟨.unknownKind, false, tag, .empty⟩) ∧
            (∀ r, kindRow b.toNat = some r → p ∉ r.ports →
              (t.port p).buf = .held ⟨.notPermitted, false, tag, .empty⟩))))

/-- A reply read (R189, R194) drives FFh on its first byte, then the frame of the held reply, or of NOT_READY with the tag
of the waiting request or 00h, then FFh; the buffer becomes EMPTY exactly when the CRC byte of a held reply was clocked
out. A held reply cut short stays, and the next read shows the same frame from its first byte, its open bytes (log 8)
included. With the reset input low a transaction of either kind shows FFh for each byte, data out being held high, and nothing
else changes (R189; log 7). -/
def Obligations.ReplyReadReturnsTheBuffer : Prop :=
  ∀ (p : Port) (n : Nat) (s : State),
    (s.phase ≠ .held → s.phase ≠ .off → ∃ t, exec (.replyRead p (n + 1)) s = .next t ∧
      t = s.setPort p (t.port p) ∧ (t.port p).draws = (s.port p).draws ∧
      (t.port p).notices = (s.port p).notices ∧ (t.port p).overflow = (s.port p).overflow ∧
      ∀ r, r = (match (s.port p).buf with
          | .held x => x
          | .pending tag _ => ⟨.notReady, false, tag, .empty⟩
          | .empty => ⟨.notReady, false, 0, .empty⟩) →
        (t.port p).dataOut = 0xFF :: ((replyFrame (s.draw p) r).take n
          ++ List.replicate (n - (replyFrame (s.draw p) r).length) 0xFF) ∧
        ((∃ x, (s.port p).buf = .held x) → (replyFrame (s.draw p) r).length ≤ n →
          (t.port p).buf = .empty ∧ (t.port p).keep = false) ∧
        (n < (replyFrame (s.draw p) r).length ∨ (∀ x, (s.port p).buf ≠ .held x) →
          (t.port p).buf = (s.port p).buf ∧ (t.port p).keep = (s.port p).keep) ∧
        ((∃ x, (s.port p).buf = .held x) → n < (replyFrame (s.draw p) r).length → ∀ m, ∃ u,
          exec (.replyRead p (m + 1)) t = .next u ∧ (u.port p).dataOut = 0xFF :: ((replyFrame (s.draw p) r).take m
            ++ List.replicate (m - (replyFrame (s.draw p) r).length) 0xFF))) ∧
    (s.phase = .held → ∀ (l : List Byte) (midByte : Bool), l.length = n + 1 →
      exec (.replyRead p (n + 1)) s = .next (s.setPort p { s.port p with dataOut := List.replicate (n + 1) 0xFF }) ∧
      exec (.requestFrameEnd p l midByte) s =
        .next (s.setPort p { s.port p with dataOut := List.replicate (n + 1) 0xFF }))

/-- Every reply frame is status byte with the CLAMPED mark on top, tag, body length low byte first, body, and the CRC-8
byte that makes the whole frame's CRC 00h (R190, R191). The body is the reply's own, its fields laid out by `Body.wire` (its
orders and codes: logs 9 and 10) with the free bytes of absent fields (log 8); of a notice it is the overflow mark, the
notice code and the notice's fields (R198); of a handoff block it is the 6-byte header of Table 10.7 and 18 bytes for each
entry, laid out by Table 10.8 in the block's byte order (R201). -/
def Obligations.ReplyFrameIsWellMade : Prop :=
  ∀ (draw : Nat) (r : Reply) (body : List Byte), body = resolveWire draw 0 r.body.wire →
    body.length + 5 < 65536 →
    replyFrame draw r = [BitVec.ofNat 8 (r.status.code + if r.clamped then 128 else 0), r.tag,
      BitVec.ofNat 8 (body.length % 256), BitVec.ofNat 8 (body.length / 256)] ++ body ++
      [crc8 ((replyFrame draw r).take (body.length + 4))] ∧
    crc8 (replyFrame draw r) = 0 ∧
    (∀ ov n, r.body = .notice ov (some n) →
      body = (if ov then 1 else 0) :: BitVec.ofNat 8 n.code :: resolveWire draw 2 n.wire) ∧
    ∀ (n : Nat) (b : Block), r.body = .block n b → body.length = 6 + 18 * b.entries.length ∧
      body.take 6 = [BitVec.ofNat 8 b.ident.cell, BitVec.ofNat 8 b.ident.start, BitVec.ofNat 8 b.ident.size,
        BitVec.ofNat 8 b.unit.code, BitVec.ofNat 8 b.form.code, BitVec.ofNat 8 n] ∧
      ∀ (k : Nat) (e : Entry) (le : Nat → Nat → List Byte), b.entries[k]? = some e →
        (∀ w v, le w v = match b.order with
          | .little => leBytes w v
          | .big => (leBytes w v).reverse) →
        (body.drop (6 + 18 * k)).take 18 = [BitVec.ofNat 8 e.status.code, BitVec.ofNat 8 ((if e.asm.isSome then 1 else 0) +
            (if e.length.isSome then 2 else 0) + (if e.radius.isSome then 4 else 0) + (if e.life.isSome then 8 else 0) +
            if e.sister.isSome then 16 else 0), if e.clamped then 1 else 0] ++
          le 2 (e.asm.getD 0) ++ le 4 (twos 4 (e.length.getD 0)) ++ le 4 (twos 4 (e.radius.getD 0)) ++
          le 4 (e.life.getD 0) ++ [BitVec.ofNat 8 (e.sister.getD 0)]

/-- READ_NOTICE removes and returns the oldest notice with the overflow mark, which is then clear; from an empty queue it
returns the mark alone (R198). -/
def Obligations.ReadNoticeTakesTheOldest : Prop :=
  ∀ (p : Port) (tag : Byte) (s : State), s.taken p (.readNotice p) = some tag →
    (∀ n l, (s.port p).notices = n :: l → exec (.readNotice p) s = .next (s.setPort p { s.port p with
      notices := l, overflow := false, draws := (s.port p).draws + 1
      buf := .held (okReply tag false (.notice (s.port p).overflow (some n))) })) ∧
    ((s.port p).notices = [] → exec (.readNotice p) s =
      .next (s.replied p (okReply tag false (.notice (s.port p).overflow none))))

/-- READ_REFERENCE, READ_CURVE, READ_DRAWER, READ_PICKS, READ_CELL, STATUS and READ_RECORD answer from the state as it stands
and change nothing but the reply buffer (R64, R88, R128, R118, R200, R18); READ_RECORD leaves its idle timer's value out, and
the holder's own restarts the timer (R14). -/
def Obligations.ReadsChangeNothing : Prop :=
  ∀ (tag : Byte) (s : State),
    (∀ k, k ≤ 3 → s.taken .P (.readReference k) = some tag → exec (.readReference k) s =
      .next (s.replied .P (okReply tag false (.reference k (s.refSet k) (decide (s.rfs.active = some k)))))) ∧
    (s.taken .P .readCurve = some tag → exec .readCurve s =
      .next (s.replied .P (okReply tag false (.curve s.rfs.curve s.rfs.staged s.rfs.active)))) ∧
    (∀ d, d ≤ 63 → s.taken .C (.readDrawer d) = some tag → exec (.readDrawer d) s =
      .next (s.replied .C (okReply tag false (.drawer d
        { s.drawer d with waitTimer := 0, waitTime := 0, openTimer := 0 }
        (if (s.drawer d).state = .queued then some (s.drc.queue.idxOf d + 1) else none) (s.op d))))) ∧
    (s.taken .C .readPicks = some tag → exec .readPicks s =
      .next (s.replied .C (okReply tag false (.picks (s.picks.map fun k => (k, s.linkedIssue k)))))) ∧
    (∀ c, c ≤ 15 → s.taken .M (.readCell c) = some tag → exec (.readCell c) s =
      .next (s.replied .M (okReply tag false (.cell c (s.profile c)
        ((List.range (s.profile c).size).map (s.pocket c)) (s.picks.filter fun k => k.cell = c).length)))) ∧
    (∀ p, s.taken p (.status p) = some tag → exec (.status p) s =
      .next (s.replied p (okReply tag false (.status s.drc.driver.pulsing.isSome s.drc.driver.fault
        s.drc.driver.overcurrents (s.ocu.map fun x => x.kind.tag) s.releaseCount
        (s.hob.slots.toList.filter fun x => x = .free).length s.picks.length s.rst.queue.length
        s.rst.flight.isSome (s.port p).notices.length (s.port p).overflow)))) ∧
    ∀ p a, a ≤ 511 → s.taken p (.readRecord p a) = some tag → exec (.readRecord p a) s = .next (State.replied
      (if (s.asm a).holder = some p then s.setAsm a { s.asm a with idle := 0 } else s) p
      (okReply tag false (.record a { s.asm a with idle := 0 })))

/-! ### Refusals -/

/-- The status of the first check that fails, in the order of the list. -/
def firstOf (l : List (Bool × Status)) : Option Status := (l.find? fun x => x.1).map fun x => x.2

/-- A request is answered by the first of its checks that fails, with an empty body, or else with OK. -/
def AnsweredBy (t : State) (p : Port) (tag : Byte) (l : List (Bool × Status)) : Prop :=
  (∀ st, firstOf l = some st → (t.port p).buf = .held ⟨st, false, tag, .empty⟩) ∧
    (firstOf l = none → ∃ c b, (t.port p).buf = .held (okReply tag c b))

/-- The release checks in the order of R73. -/
def releaseChecks (s : State) (d : Nat) : List (Bool × Status) :=
  [(decide ((s.drawer d).state ≠ .closed), .wrongState), (s.drc.driver.fault, .drawerFault),
    (decide (8 ≤ s.releaseCount), .busy)]

/-- Every request that its block takes is answered with its tag, and one that is refused (a status other than OK and RETRY)
has no effect: nothing changes but the reply buffer and, of the record it names, the idle timer of a lock that the port
holds (00_scope, Requests, replies and notices; R92; R14). -/
def Obligations.RefusedRequestsHaveNoEffect : Prop :=
  ∀ (i : Instr) (p : Port) (tag : Byte) (s : State), requestPort i = some p → s.taken p i = some tag →
    ∃ (t : State) (r : Reply), exec i s = .next t ∧ (t.port p).buf = .held r ∧ r.tag = tag ∧
      (r.status ≠ .ok → r.status ≠ .retry → t = { s.replied p r with atb := t.atb } ∧
        ∀ a, a < 512 → t.asm a = { s.asm a with
          idle := if namedAsm s.ocu i = some a ∧ (s.asm a).holder = some p then 0 else (s.asm a).idle })

/-- STOCK, WITHDRAW, ISSUE and RETURN apply their checks in the order of R99, R101, R103 and R108, the release checks of R73
last (R92); ISSUE_PICK applies its own and then those of ISSUE from check 4 on to the sister chosen (R105); CANCEL_DRAWER,
CLEAR_JAM and READ_DRAWER apply those of R84, R83 and R88: the first check that fails gives the status, and a request that
passes them all is accepted. -/
def Obligations.OperationChecksComeInOrder : Prop :=
  ∀ (a c p d n : Nat) (tag : Byte) (s : State) (empty issue : List (Bool × Status)),
    empty = [(s.inOperation a, .busy), ((s.op d).isSome, .busy)] →
    (∀ l, l = [((s.drawer d).stock.isSome, .wrongState), ((s.drawer d).mismatch, .wrongState)] ++ releaseChecks s d →
      (s.taken .C (.stock a d) = some tag → ∃ t, exec (.stock a d) s = .next t ∧ AnsweredBy t .C tag
        ([(decide (511 < a), .badArgument), (decide ((s.asm a).holder = some .P), .locked),
          (decide (63 < d), .badArgument)] ++ empty ++
          [(decide ¬((s.asm a).state = .ready ∧ (s.asm a).stock = none), .wrongState)] ++ l)) ∧
      (s.taken .C (.returnTool a d n) = some tag → ∃ t, exec (.returnTool a d n) s = .next t ∧ AnsweredBy t .C tag
        ([(decide (511 < a), .badArgument), (decide ((s.asm a).holder = some .P), .locked),
          (decide (63 < d ∨ 1 < n), .badArgument)] ++ empty ++
          [(decide ¬((s.asm a).state = .issued ∨ (s.asm a).state = .exhausted), .wrongState)] ++ l))) ∧
    (s.taken .C (.withdraw a) = some tag → (∀ e, (s.asm a).stock = some e → e = d) →
      ∃ t, exec (.withdraw a) s = .next t ∧ AnsweredBy t .C tag
        ([(decide (511 < a), .badArgument), (decide ((s.asm a).holder = some .P), .locked), (s.inOperation a, .busy),
          (decide ¬(((s.asm a).state = .ready ∨ (s.asm a).state = .regrind) ∧ (s.asm a).stock ≠ none), .wrongState),
          ((s.drawer d).mismatch, .wrongState)] ++ releaseChecks s d)) ∧
    ((∀ e, (s.asm a).stock = some e → e = d) →
      issue = [(s.inOperation a, .busy), (decide ¬((s.asm a).state = .ready ∧ (s.asm a).stock ≠ none), .wrongState),
        (!(s.asm a).markSet, .staleReference), (decide (8 * (s.asm a).limit ≤ (s.asm a).used), .wrongState),
        (decide ((s.profile c).size = 0), .wrongState), (decide ((s.profile c).size ≤ p), .badArgument),
        (decide (s.pocket c p ≠ .empty), .pocketOccupied),
        ((findPick s.picks c p).any fun k => !(decide (k.state = .waiting) && decide ((s.asm a).family = some k.family)),
          .pocketOccupied), ((s.drawer d).mismatch, .wrongState)] ++ releaseChecks s d →
      (s.taken .C (.issue a c p) = some tag → ∃ t, exec (.issue a c p) s = .next t ∧ AnsweredBy t .C tag
        ([(decide (511 < a), .badArgument), (decide ((s.asm a).holder = some .P), .locked),
          (decide (15 < c ∨ 127 < p), .badArgument)] ++ issue)) ∧
      (s.taken .C (.issuePick c p) = some tag → (∀ k, findPick s.picks c p = some k → k.state = .waiting →
          s.chooseSister k.family = some a ∨ s.chooseSister k.family = none) →
        ∃ t, exec (.issuePick c p) s = .next t ∧ AnsweredBy t .C tag
          ([(decide (15 < c ∨ 127 < p), .badArgument), (decide ((s.profile c).size = 0), .wrongState),
            (decide ((s.profile c).size ≤ p), .badArgument), ((findPick s.picks c p).isNone, .notFound),
            ((findPick s.picks c p).any fun k => decide (k.state = .inIssue), .busy),
            ((findPick s.picks c p).any fun k => decide (k.state = .waitEmpty), .wrongState),
            ((findPick s.picks c p).any fun k => (s.chooseSister k.family).isNone, .notFound)] ++ issue))) ∧
    (s.taken .C (.cancelDrawer d) = some tag → ∃ t, exec (.cancelDrawer d) s = .next t ∧ AnsweredBy t .C tag
      [(decide (63 < d), .badArgument), (decide ((s.drawer d).state = .closed ∨ (s.drawer d).state = .opened ∨
        (s.drawer d).state = .jammed), .wrongState)]) ∧
    (s.taken .C (.clearJam d) = some tag → ∃ t, exec (.clearJam d) s = .next t ∧ AnsweredBy t .C tag
      [(decide (63 < d), .badArgument), (decide ((s.drawer d).state ≠ .jammed), .wrongState)]) ∧
    (s.taken .C (.readDrawer d) = some tag → ∃ t, exec (.readDrawer d) s = .next t ∧ AnsweredBy t .C tag
      [(decide (63 < d), .badArgument)])

/-- The requests on assembly and cell records apply their checks in the order of their rules (MEASURE_OPEN R27, REGISTER R96,
RETIRE R97, RETURN_FROM_REGRIND R98, SET_LIFE R144, READ_RECORD R18, USAGE R136, WRITE_CELL R116, READ_CELL R118, REQUEST_TOOL
R123, WITHDRAW_REQUEST R125, HANDOFF R150): the first check that fails gives the status, and a request that passes them all is
accepted, a HANDOFF matched (R158). RETIRE holds a stocked assembly to the mismatch mark of its drawer (R86).
The enumerated arguments are read by `lifeModeOf`, `unitOf`, `radiusFormOf`, `byteOrderOf`
and `autoRequestOf` (log 9). -/
def Obligations.RecordChecksComeInOrder : Prop :=
  ∀ (a c p n f : Nat) (fam : Option Nat) (nl nr : Option (Nat × Nat)) (mode limit warn seconds : Nat) (tag : Byte)
    (s : State),
    (s.taken .P (.measureOpen a) = some tag → ∃ t, exec (.measureOpen a) s = .next t ∧ AnsweredBy t .P tag
      [(decide (511 < a), .badArgument), (decide ((s.asm a).holder = some .C), .locked), (s.ocu.isSome, .busy),
        (decide ¬((s.asm a).state = .unmeasured ∨ (s.asm a).state = .quarantined ∨
          (s.asm a).state = .ready ∧ (s.asm a).stock = none), .wrongState), (s.rfs.active.isNone, .wrongState)]) ∧
    (s.taken .C (.register a fam nl nr mode limit warn) = some tag →
      ∃ t, exec (.register a fam nl nr mode limit warn) s = .next t ∧ AnsweredBy t .C tag
        [(decide (511 < a), .badArgument), (decide ((s.asm a).holder = some .P), .locked),
          (fam.any (fun x => decide (x < 1 ∨ 255 < x)) || nl.any (fun x => decide (4000000 < x.1 ∨ 4000000 < x.2)) ||
            nr.any (fun x => decide (500000 < x.1 ∨ 500000 < x.2)) || (lifeModeOf mode).isNone, .badArgument),
          (decide ¬((s.asm a).state = .vacant ∨ (s.asm a).state = .lost), .wrongState)]) ∧
    (s.taken .C (.retire a) = some tag → ∃ t, exec (.retire a) s = .next t ∧ AnsweredBy t .C tag
      [(decide (511 < a), .badArgument), (decide ((s.asm a).holder = some .P), .locked), (s.inOperation a, .busy),
        (decide ¬(((s.asm a).state = .unmeasured ∨ (s.asm a).state = .quarantined ∨ (s.asm a).state = .ready ∨
          (s.asm a).state = .regrind ∨ (s.asm a).state = .lost) ∧
            ((s.asm a).stock.all fun d => (s.drawer d).mismatch) = true), .wrongState)]) ∧
    (s.taken .C (.returnFromRegrind a) = some tag → ∃ t, exec (.returnFromRegrind a) s = .next t ∧ AnsweredBy t .C tag
      [(decide (511 < a), .badArgument), (decide ((s.asm a).holder = some .P), .locked), (s.inOperation a, .busy),
        (decide ¬((s.asm a).state = .regrind ∧ (s.asm a).stock = none), .wrongState)]) ∧
    (s.taken .C (.setLife a mode limit warn) = some tag →
      ∃ t, exec (.setLife a mode limit warn) s = .next t ∧ AnsweredBy t .C tag
        [(decide (511 < a), .badArgument), ((lifeModeOf mode).isNone, .badArgument),
          (decide ((s.asm a).state = .vacant), .wrongState),
          (decide (((s.asm a).state = .issuing ∨ (s.asm a).state = .issued ∨ (s.asm a).state = .exhausted) ∧
            lifeModeOf mode ≠ some (s.asm a).mode), .wrongState)]) ∧
    (∀ q, s.taken q (.readRecord q a) = some tag → ∃ t, exec (.readRecord q a) s = .next t ∧ AnsweredBy t q tag
      [(decide (511 < a), .badArgument)]) ∧
    (s.taken .M (.usage c p seconds n) = some tag → ∃ t, exec (.usage c p seconds n) s = .next t ∧ AnsweredBy t .M tag
      [(decide (15 < c ∨ 127 < p), .badArgument), (decide ((s.profile c).size = 0), .wrongState),
        (decide ((s.profile c).size ≤ p), .badArgument), ((s.boundAsm c p).isNone, .notFound)]) ∧
    (∀ (unit form order factor auto : Nat) (datum : Int),
      s.taken .C (.writeCell c n unit form order datum factor auto) = some tag →
      ∃ t, exec (.writeCell c n unit form order datum factor auto) s = .next t ∧ AnsweredBy t .C tag
        [(decide (15 < c), .badArgument), (decide (128 < n) || (unitOf unit).isNone || (radiusFormOf form).isNone ||
            (byteOrderOf order).isNone || (autoRequestOf auto).isNone, .badArgument),
          (((List.range 128).any fun x => decide (n ≤ x) && decide (s.pocket c x ≠ .empty)) ||
            s.picks.any fun k => decide (k.cell = c) && decide (n ≤ k.pocket), .wrongState)]) ∧
    (s.taken .M (.readCell c) = some tag → ∃ t, exec (.readCell c) s = .next t ∧ AnsweredBy t .M tag
      [(decide (15 < c), .badArgument)]) ∧
    (s.taken .M (.requestTool c p f) = some tag → ∃ t, exec (.requestTool c p f) s = .next t ∧ AnsweredBy t .M tag
      [(decide (15 < c ∨ 127 < p ∨ f < 1 ∨ 255 < f), .badArgument), (decide ((s.profile c).size = 0), .wrongState),
        (decide ((s.profile c).size ≤ p), .badArgument),
        ((s.pocket c p).isReserved || (findPick s.picks c p).isSome, .pocketOccupied),
        (decide (32 ≤ s.picks.length), .busy)]) ∧
    (s.taken .M (.withdrawRequest c p) = some tag → ∃ t, exec (.withdrawRequest c p) s = .next t ∧ AnsweredBy t .M tag
      [(decide (15 < c ∨ 127 < p), .badArgument), ((findPick s.picks c p).isNone, .notFound),
        ((findPick s.picks c p).any fun k => decide (k.state = .inIssue), .busy)]) ∧
    (s.taken .M (.handoff c p n) = some tag → ∃ (t : State) (r : Reply), exec (.handoff c p n) s = .next t ∧
      (t.port .M).buf = .held r ∧ ∀ l, l = [(decide (15 < c ∨ 127 < p), .badArgument), (decide (n = 0), .badArgument),
          (decide ((s.profile c).size = 0), .wrongState)] →
        (∀ st, firstOf l = some st → r = ⟨st, false, tag, .empty⟩) ∧
        (firstOf l = none → r.tag = tag ∧ (r.status = .ok ∨ r.status = .retry ∨ r.status = .busy)))

/-- The requests of the presetter apply their checks in the order of their rules (READING R30, SESSION_CLOSE R32,
SESSION_ABANDON R34, ZERO_OPEN R52, SPAN_OPEN R55, CERTIFY_REFERENCE R59, UNLOCK_REFERENCE R60, SELECT_REFERENCE R61,
READ_REFERENCE R64): the first check that fails gives the status, and a request that passes them all is accepted. -/
def Obligations.SessionChecksComeInOrder : Prop :=
  ∀ (k z x lm dm : Nat) (temp : Int) (tag : Byte) (s : State),
    (s.taken .P (.reading z x) = some tag → ∃ t, exec (.reading z x) s = .next t ∧ AnsweredBy t .P tag
      [(s.ocu.isNone, .wrongState), (decide (1048575 < z ∨ 1048575 < x), .badArgument),
        (s.ocu.any fun n => decide (8 ≤ n.readings.length), .full)]) ∧
    (s.taken .P (.sessionClose temp) = some tag → ∃ t, exec (.sessionClose temp) s = .next t ∧ AnsweredBy t .P tag
      [(s.ocu.isNone, .wrongState), (decide (temp < 0 ∨ 600 < temp), .badArgument)]) ∧
    (s.taken .P .sessionAbandon = some tag → ∃ t, exec .sessionAbandon s = .next t ∧ AnsweredBy t .P tag
      [(s.ocu.isNone, .wrongState)]) ∧
    (s.taken .P (.zeroOpen k) = some tag → ∃ t, exec (.zeroOpen k) s = .next t ∧ AnsweredBy t .P tag
      [(decide (3 < k), .badArgument), (s.ocu.isSome, .busy), ((s.refSet k).certified, .certified)]) ∧
    (s.taken .P (.spanOpen k lm dm) = some tag → ∃ t, exec (.spanOpen k lm dm) s = .next t ∧ AnsweredBy t .P tag
      [(decide (3 < k), .badArgument),
        (decide ¬(50000 ≤ lm ∧ lm ≤ 400000 ∧ 1000 ≤ dm ∧ dm ≤ 100000), .badArgument), (s.ocu.isSome, .busy),
        ((s.refSet k).certified, .certified), (decide (s.refSet k = .blank ∨ s.refSet k = .invalid), .wrongState)]) ∧
    (s.taken .P (.certifyReference k) = some tag → ∃ t, exec (.certifyReference k) s = .next t ∧ AnsweredBy t .P tag
      [(decide (3 < k), .badArgument), (s.ocu.any fun y => decide (y.kind.calibrates = some k), .busy),
        (!(s.refSet k).isSpanned, .wrongState), ((s.refSet k).certified, .certified)]) ∧
    (s.taken .P (.unlockReference k) = some tag → ∃ t, exec (.unlockReference k) s = .next t ∧ AnsweredBy t .P tag
      [(decide (3 < k), .badArgument), (!(s.refSet k).certified, .wrongState), (!s.pins.mnt, .wrongState),
        (decide (s.rfs.active = some k), .wrongState)]) ∧
    (s.taken .P (.selectReference k) = some tag → ∃ t, exec (.selectReference k) s = .next t ∧ AnsweredBy t .P tag
      [(decide (3 < k), .badArgument), (s.ocu.isSome, .busy), (!(s.refSet k).certified, .wrongState)]) ∧
    (s.taken .P (.readReference k) = some tag → ∃ t, exec (.readReference k) s = .next t ∧ AnsweredBy t .P tag
      [(decide (3 < k), .badArgument)])

/-- SET_PARAMETER by the owning port (R196): the value clamped into its range, the discard limit down to a step of 10, the
CLAMPED mark when the value differs from the one sent; a change is dirtied. Nothing else moves, but for the three limits
that act on running timers (R16, R85, R169), stated in `LoweredLimitsActAtOnce`. A number above 9 is refused with
BAD_ARGUMENT, a parameter of another port with NOT_PERMITTED. -/
def Obligations.SetParameterStoresTheClampedValue : Prop :=
  ∀ (p : Port) (n v : Nat) (tag : Byte) (s : State), s.taken p (.setParameter p n v) = some tag →
    (9 < n → exec (.setParameter p n v) s = .next (s.replied p ⟨.badArgument, false, tag, .empty⟩)) ∧
    (n ≤ 1 ∧ p ≠ .P ∨ 2 ≤ n ∧ n ≤ 9 ∧ p ≠ .C → exec (.setParameter p n v) s =
      .next (s.replied p ⟨.notPermitted, false, tag, .empty⟩)) ∧
    (n ≤ 1 ∧ p = .P ∨ 2 ≤ n ∧ n ≤ 9 ∧ p = .C →
      ∃ t, exec (.setParameter p n v) s = .next t ∧ t.params = s.params.put n (paramStored n v) ∧
        (t.port p).buf = .held (okReply tag (decide (paramStored n v ≠ v)) (.parameter n (paramStored n v))) ∧
        (s.params.get n = paramStored n v → t = s.replied p (okReply tag (decide (paramStored n v ≠ v))
          (.parameter n (paramStored n v)))) ∧
        (s.params.get n ≠ paramStored n v → t.willWrite paramsKey) ∧
        (s.params.get n ≠ paramStored n v → n ≤ 6 → Dirties s t [paramsKey] ∧
          t = { s.replied p (okReply tag (decide (paramStored n v ≠ v)) (.parameter n (paramStored n v))) with
            params := t.params, rst := t.rst }))

/-- What an expired lock reports (R15, R36, R63): LOCK_EXPIRED to the former holder, and for a MEASURING record SESSION_DONE
with outcome ABORTED and, where a staged curve waits, CURVE_APPLIED. -/
def expiryNotices (s : State) (a : Nat) : List (Port × Notice) :=
  match (s.asm a).holder with
  | none => []
  | some p => (p, .lockExpired a) :: match s.ocu with
    | some x => if (s.asm a).state = .measuring then
        (.P, .sessionDone (endedWithout x .aborted)) :: match s.rfs.staged with
          | some c => [(.P, .curveApplied c)]
          | none => []
      else []
    | none => []

/-- A changed limit acts on the timers it finds at or beyond it (R16, R85, R169): every such lock is released with its
notices, every such OPEN drawer's mark set with DRAWER_LEFT_OPEN, every such slot freed without a notice; a timer below it
runs on, and no other record changes. The notices stand in ascending number. The lock of a MEASURING record so released
aborts the session: the record is back in its prior state, the slot empty, a staged curve takes effect, and SESSION_DONE
carries the counts of log 17. The parameter record is dirtied (R196), behind the curve record where that changes, an order
that is the model's choice (log 27). -/
def Obligations.LoweredLimitsActAtOnce : Prop :=
  ∀ (v : Nat) (tag : Byte) (s : State) (rep : Nat → Reply),
    rep = (fun n => okReply tag (decide (paramStored n v ≠ v)) (.parameter n (paramStored n v))) →
    (s.taken .C (.setParameter .C 8 v) = some tag → s.params.lockIdleLimit ≠ paramStored 8 v →
      ∃ t, exec (.setParameter .C 8 v) s = .next t ∧
        t = { s with
          params := t.params, atb := t.atb, ocu := t.ocu, rfs := t.rfs, rst := t.rst, ports := t.ports } ∧
        (∀ a, a < 512 → ((s.asm a).holder = none ∨ (s.asm a).idle < paramStored 8 v → t.asm a = s.asm a) ∧
          ((s.asm a).holder ≠ none → paramStored 8 v ≤ (s.asm a).idle → (s.asm a).state ≠ .measuring →
            t.asm a = { s.asm a with holder := none, idle := 0 })) ∧
        (SessionLaw s → t.ports = ((s.placed ((List.range 512).flatMap fun a =>
            if paramStored 8 v ≤ (s.asm a).idle then expiryNotices s a else [])).replied .C (rep 8)).ports ∧
          ((∀ a, a < 512 → (s.asm a).state = .measuring → (s.asm a).idle < paramStored 8 v) →
            t.ocu = s.ocu ∧ t.rfs = s.rfs ∧ Dirties s t [paramsKey]) ∧
          ∀ a r, a < 512 → (s.asm a).prior = some r → (s.asm a).state = .measuring → paramStored 8 v ≤ (s.asm a).idle →
            t.asm a = { s.asm a with state := r.toState, prior := none, holder := none, idle := 0 } ∧ t.ocu = none ∧
            (s.rfs.staged = none → t.rfs = s.rfs ∧ Dirties s t [paramsKey]) ∧
            ∀ c, s.rfs.staged = some c → t.rfs = { s.rfs with curve := c, staged := none } ∧
              Dirties s t [curveKey, paramsKey])) ∧
    (s.taken .C (.setParameter .C 7 v) = some tag → s.params.openLimit ≠ paramStored 7 v →
      ∃ t, exec (.setParameter .C 7 v) s = .next t ∧ Dirties s t [paramsKey] ∧
      t = { s with params := t.params, drc := { s.drc with drawers := t.drc.drawers }, rst := t.rst, ports := t.ports } ∧
      (∀ d, d < 64 → t.drawer d = { s.drawer d with
        openReported := (s.drawer d).openReported || (decide ((s.drawer d).state = .opened)
          && decide (paramStored 7 v * 1000 ≤ (s.drawer d).openTimer)) }) ∧
      t.ports = ((s.placed ((List.range 64).flatMap fun d =>
        if (s.drawer d).state = .opened ∧ (s.drawer d).openReported = false ∧
          paramStored 7 v * 1000 ≤ (s.drawer d).openTimer then [(.C, .drawerLeftOpen d (s.op d).isSome)]
        else [])).replied .C (rep 7)).ports) ∧
    (s.taken .C (.setParameter .C 9 v) = some tag → s.params.discardLimit ≠ paramStored 9 v →
      ∃ t, exec (.setParameter .C 9 v) s = .next t ∧ Dirties s t [paramsKey] ∧
        t = { s.replied .C (rep 9) with params := t.params, hob := { s.hob with slots := t.hob.slots }, rst := t.rst } ∧
        ∀ n, t.slot n = match s.slot n with
        | .complete h b x => if paramStored 9 v ≤ x then .free else .complete h b x
        | y => y)

/-! ### Locks (Section 1) -/

/-- LOCK (R10): a number above 511 is refused with BAD_ARGUMENT (R1); a free lock is taken and the holder's own is kept, the
idle timer from 0 either way; the other port's is refused with LOCKED and unchanged; both replies carry the holder. It is
permitted on ports P and C only. -/
def Obligations.LockGoesToTheFirstPort : Prop :=
  (∀ (p : Port) (a : Nat) (tag : Byte) (s : State), s.taken p (.lock p a) = some tag →
    (511 < a → exec (.lock p a) s = .next (s.replied p ⟨.badArgument, false, tag, .empty⟩)) ∧
    (a ≤ 511 →
      ((s.asm a).holder = none ∨ (s.asm a).holder = some p → exec (.lock p a) s =
        .next ((s.setAsm a { s.asm a with holder := some p, idle := 0 }).replied p
          (okReply tag false (.lockHolder a p)))) ∧
      (∀ q, q ≠ p → (s.asm a).holder = some q →
        ∃ n, exec (.lock p a) s = .next (s.replied p ⟨.locked, false, tag, .lockHolder n q⟩)))) ∧
  ∀ (a : Nat) (s : State), s.phase = .running → (s.port .M).keep = false → (∀ g j, (s.port .M).buf ≠ .pending g j) →
    ∃ g, exec (.lock .M a) s = .next (s.replied .M ⟨.notPermitted, false, g, .empty⟩)

/-- UNLOCK (R11): a number above 511 is refused with BAD_ARGUMENT; LOCKED when the other port holds, WRONG_STATE when none
holds or the record is MEASURING, each without effect; otherwise the holder becomes none and the timer stops, and no notice
is formed. It is permitted on ports P and C only. -/
def Obligations.UnlockFollowsItsChecks : Prop :=
  (∀ (p : Port) (a : Nat) (tag : Byte) (s : State), s.taken p (.unlock p a) = some tag →
    (511 < a → exec (.unlock p a) s = .next (s.replied p ⟨.badArgument, false, tag, .empty⟩)) ∧
    (a ≤ 511 →
      (∀ q, q ≠ p → (s.asm a).holder = some q → exec (.unlock p a) s =
        .next (s.replied p ⟨.locked, false, tag, .empty⟩)) ∧
      ((s.asm a).holder = none → exec (.unlock p a) s = .next (s.replied p ⟨.wrongState, false, tag, .empty⟩)) ∧
      ((s.asm a).holder = some p → (s.asm a).state = .measuring → exec (.unlock p a) s =
        .next ((s.setAsm a { s.asm a with idle := 0 }).replied p ⟨.wrongState, false, tag, .empty⟩)) ∧
      ((s.asm a).holder = some p → (s.asm a).state ≠ .measuring → exec (.unlock p a) s =
        .next ((s.setAsm a { s.asm a with holder := none, idle := 0 }).replied p (okReply tag false .empty))))) ∧
  ∀ (a : Nat) (s : State), s.phase = .running → (s.port .M).keep = false → (∀ g j, (s.port .M).buf ≠ .pending g j) →
    ∃ g, exec (.unlock .M a) s = .next (s.replied .M ⟨.notPermitted, false, g, .empty⟩)

/-- The fields of SESSION_DONE for a session that ends without a result (R36; its counts are those of log 17). -/
def endedDone (x : Session) (o : SessionOutcome) : SessionDone :=
  { kind := x.kind.tag, subject := x.kind.subject, outcome := o, reason := none, length := none, radius := none, used := 0,
    rejected := x.readings.length, discarded := some x.readings.length, temp := none, tempClamped := none }

/-- What the end of a session with this report leaves in the session slot, the Reference Store, port P's queue and the commit
queue (R33 parts 4 and 5, R63): SESSION_DONE, the slot empty, and a staged curve the working curve, dirtied behind what the
event dirties before, with CURVE_APPLIED behind SESSION_DONE. `r` is the Reference Store before that, and `dirties l` says what
the event dirties when the keys `l` are dirtied last. -/
def SessionEnds (s t : State) (r : RefStore) (dirties : List Nat → Prop) (before : List (Port × Notice)) (d : SessionDone)
    (rep : Option Reply) : Prop :=
  t.ocu = none ∧ ∀ u : State, u = s.placed (before ++ (.P, .sessionDone d) :: match r.staged with
      | some c => [(.P, .curveApplied c)]
      | none => []) →
    t.ports = (match rep with
      | some x => u.replied .P x
      | none => u).ports ∧
    (r.staged = none → t.rfs = r ∧ dirties []) ∧
    ∀ c, r.staged = some c → t.rfs = { r with curve := c, staged := none } ∧ dirties [curveKey]

/-- LOCK_EXPIRY of a lock whose idle timer is at the limit (R15, R35, R63): the lock is released and its holder gets
LOCK_EXPIRED; of a MEASURING record the session is aborted as well, the record back in its prior state, SESSION_DONE behind
LOCK_EXPIRED (its counts are those of log 17), a staged curve taking effect; no assembly record is dirtied, and the curve
record only where a staged curve takes effect (R63). Where the timer is below the limit, as when a request of
the holder taken first restarted it, or no lock is held, there is no expiry (R16, log 4). -/
def Obligations.LockExpiryReleases : Prop :=
  ∀ (a : Fin 512) (p : Port) (s : State), s.phase.active = true →
    ((s.asm a).idle < s.params.lockIdleLimit ∨ (s.asm a).holder = none → exec (.lockExpiry a) s = .next s) ∧
    ((s.asm a).holder = some p → s.params.lockIdleLimit ≤ (s.asm a).idle →
      ((s.asm a).state ≠ .measuring → exec (.lockExpiry a) s =
        .next ((s.setAsm a { s.asm a with holder := none, idle := 0 }).placed [(p, .lockExpired a)])) ∧
      (∀ k l r, s.ocu = some ⟨.measure a k, l⟩ → (s.asm a).state = .measuring → (s.asm a).prior = some r →
        ∃ t, exec (.lockExpiry a) s = .next t ∧ OthersStay s t a ∧
          t.asm a = { s.asm a with state := r.toState, prior := none, holder := none, idle := 0 } ∧
          SessionEnds s t s.rfs (Dirties s t) [(p, .lockExpired a)] (endedDone ⟨.measure a k, l⟩ .aborted) none ∧
          t = { s with atb := t.atb, ocu := t.ocu, rfs := t.rfs, rst := t.rst, ports := t.ports }))

/-! ### Disturbances and the builder (Section 8) -/

/-- The build the builder starts for a target and an identity, as the profile stands (R163). -/
def freshBuild (s : State) (t : Target) (i : Ident) : Build :=
  ⟨t, (s.profile i.cell).datum, ⟨i, (s.profile i.cell).unit, (s.profile i.cell).form, (s.profile i.cell).order, []⟩⟩

/-- An idle builder takes its next build (R162, R163), the slots being `slots`, the waiting builds `q` and `r`, the profiles
those of `t`: the head of the slot builds, the marks of its slot cleared, else the head of the read-ahead builds, else none.
The heads are builds of a BUILDING slot and a PENDING buffer. -/
def TakesNext (s t : State) (slots : Nat → Slot) (q r : List Nat) : Prop :=
  (∀ n l h, q = n :: l → n < 4 → slots n = .building h →
    t.slot n = .building { h with marks := h.marks.map fun _ => false } ∧ (∀ m, m ≠ n → t.slot m = slots m) ∧
      t.hob = { s.hob with
        slots := t.hob.slots, buffers := t.hob.buffers, slotBuilds := l, readAheads := r
        builder := some (freshBuild t (.slot n) h.ident) }) ∧
    (q = [] → (∀ m, t.slot m = slots m) ∧
      (∀ c l i, r = c :: l → t.buffer c = .pending i → t.hob = { s.hob with
        slots := t.hob.slots, buffers := t.hob.buffers, slotBuilds := [], readAheads := l
        builder := some (freshBuild t (.readAhead c) i) }) ∧
      (r = [] → t.hob = { s.hob with
        slots := t.hob.slots, buffers := t.hob.buffers, slotBuilds := [], readAheads := [], builder := none }))

/-- A signal covers a slot or a read-ahead buffer of this identity (R166, R167): a pocket in its span, its cell, or any. -/
def covers (g : Signal) (i : Ident) : Bool :=
  match g with
  | .pocket c p => decide (i.cell = c ∧ i.start ≤ p ∧ p < i.start + i.size)
  | .cell c => decide (i.cell = c)
  | .all => true

/-- A covered slot's marks (R167): that of the named pocket is set, or every one. -/
def markedBy (g : Signal) (h : Held) : Held :=
  if covers g h.ident then
    { h with marks := h.marks.mapIdx fun n m => m || match g with
      | .pocket _ p => decide (h.ident.start + n = p)
      | _ => true }
  else h

/-- What a signal does at the Handoff Builder (R167, Table 8.6): in each covered slot, BUILDING or COMPLETE, it sets the mark of
the named pocket, or every mark; a covered VALID buffer is INVALID; a covered PENDING one whose build is being formed is INVALID,
its build is abandoned and the builder takes its next build (R162); one whose build waits stays. Nothing else changes. -/
def DisturbedBy (s t : State) (g : Signal) : Prop :=
  (∀ e, t.buffer e = match s.buffer e with
    | .valid i b => if covers g i then .invalid i else .valid i b
    | .pending i => if covers g i && s.formingReadAhead e then .invalid i else .pending i
    | x => x) ∧
  ∀ marked : Nat → Slot, (∀ n, marked n = match s.slot n with
      | .building h => .building (markedBy g h)
      | .complete h b x => .complete (markedBy g h) b x
      | .free => .free) →
    ((∀ b, s.hob.builder = some b → ∀ e, b.target = .readAhead e → covers g b.block.ident = false) →
      t.hob = { s.hob with slots := t.hob.slots, buffers := t.hob.buffers } ∧ ∀ n, t.slot n = marked n) ∧
    ∀ b, s.hob.builder = some b → ∀ e, b.target = .readAhead e → covers g b.block.ident = true →
      TakesNext s t marked s.hob.slotBuilds s.hob.readAheads

/-! ### Sessions and reference sets (Sections 2 and 3) -/

/-- The session openings, no session being open: MEASURE_OPEN (R28, R17, R7) opens on the active set and takes the record,
MEASURING with its prior state held and port P holding its lock; ZERO_OPEN and SPAN_OPEN (R52, R55) open on an uncertified
set, a SPAN only on a ZEROED or SPANNED one with masters in range. The list is empty and nothing else changes. -/
def Obligations.SessionsOpen : Prop :=
  ∀ (a k lm dm : Nat) (pr : PriorState) (tag : Byte) (r : AsmRecord) (s : State), s.ocu = none →
    r = { s.asm a with
      state := .measuring, prior := some pr, stock := none, binding := none, holder := some .P, idle := 0 } →
    (s.taken .P (.measureOpen a) = some tag → a ≤ 511 → (s.asm a).holder ≠ some .C → s.rfs.active = some k →
      (s.asm a).measurable = some pr →
      exec (.measureOpen a) s =
        .next (((s.setSession (some ⟨.measure a k, []⟩)).setAsm a r).replied .P
          (okReply tag false (.measureOpened a pr k)))) ∧
    (k ≤ 3 → (s.refSet k).certified = false →
      (s.taken .P (.zeroOpen k) = some tag → exec (.zeroOpen k) s =
        .next ((s.setSession (some ⟨.zero k, []⟩)).replied .P (okReply tag false (.zeroOpened k (s.refSet k))))) ∧
      (s.taken .P (.spanOpen k lm dm) = some tag → 50000 ≤ lm → lm ≤ 400000 → 1000 ≤ dm → dm ≤ 100000 →
        s.refSet k ≠ .blank → s.refSet k ≠ .invalid → exec (.spanOpen k lm dm) s =
        .next ((s.setSession (some ⟨.span k lm dm, []⟩)).replied .P
          (okReply tag false (.spanOpened k (s.refSet k) lm dm)))))

/-- READING (R30): the pair joins the tail of the list and the reply carries the new length; for a MEASURE session the idle
timer of the subject restarts (R14); nothing else changes. -/
def Obligations.ReadingJoinsTheList : Prop :=
  ∀ (z x : Nat) (tag : Byte) (n : Session) (s : State), s.taken .P (.reading z x) = some tag → s.ocu = some n →
    z ≤ 1048575 → x ≤ 1048575 → n.readings.length < 8 →
    (∀ a k, n.kind = .measure a k → (s.asm a).holder = some .P) →
    exec (.reading z x) s = .next (((match n.kind with
      | .measure a _ => s.setAsm a { s.asm a with idle := 0 }
      | _ => s).setSession (some { n with readings := n.readings ++ [(z, x)] })).replied .P
      (okReply tag false (.readingCount (n.readings.length + 1))))

/-- SESSION_CLOSE of a MEASURE session (R33, R36, R47, R48) with the result `measure` gives from the measuring set, the
working curve and the parameters at the close: READY-unstocked with the new geometry and facts, or QUARANTINED with the
rejected measurement; the lock released, the record dirtied whatever it held before (R22), SESSION_DONE placed, the slot
emptied, and a staged curve taking effect behind it all (R63). That the reply's CLAMPED mark stays clear where the temperature
is clamped for interpolation is the model's reading (log 31). -/
def Obligations.MeasureCloseWritesTheResult : Prop :=
  ∀ (a k : Nat) (l : List (Nat × Nat)) (temp : Nat) (m : Measured) (tag : Byte) (s : State),
    s.taken .P (.sessionClose temp) = some tag → a < 512 → temp ≤ 600 → s.ocu = some ⟨.measure a k, l⟩ →
    (s.asm a).state = .measuring →
    m = measure s.params s.rfs.curve (s.refSet k).values.1 (s.refSet k).values.2.1 (s.refSet k).values.2.2.1
      (s.refSet k).values.2.2.2 (s.asm a).nomLength (s.asm a).nomRadius l temp →
    ∃ (t : State) (d : SessionDone), exec (.sessionClose temp) s = .next t ∧ OthersStay s t a ∧
      t = { s with atb := t.atb, ocu := t.ocu, rfs := t.rfs, rst := t.rst, ports := t.ports } ∧
      SessionEnds s t s.rfs (fun l => Dirties s t (a :: l)) [] d (some (okReply tag false (.sessionDone d))) ∧
      (∀ L R n c, m = .success L R n c →
        t.asm a = { s.asm a with
          state := .ready, prior := none, geometry := some ⟨L, R⟩, facts := some ⟨k, true, temp, n, l.length - n, c⟩,
          rejected := none, stock := none, binding := none, holder := none, idle := 0 } ∧
        d =
          { kind := .measure, subject := a, outcome := .ready, reason := none, length := some L, radius := some R,
            used := n, rejected := l.length - n, discarded := none, temp := some temp, tempClamped := some c }) ∧
      (∀ w v n c, m = .failure w v n c →
        t.asm a = { s.asm a with
          state := .quarantined, prior := none, geometry := none, facts := none,
          rejected := some ⟨w, v.map fun x => min x.1 4194303, v.map fun x => min x.2 4194303,
            v.any fun x => 4194303 < x.1 || 4194303 < x.2⟩,
          stock := none, binding := none, holder := none, idle := 0 } ∧
        d =
          { kind := .measure, subject := a, outcome := .quarantined, reason := some w,
            length := v.map fun x => min x.1 4194303, radius := v.map fun x => min x.2 4194303, used := n,
            rejected := l.length - n, discarded := none, temp := some temp, tempClamped := some c })

/-- SESSION_CLOSE of a ZERO session (R54) or of a SPAN session (R56, R57). When it calibrates, the set takes its new zeros or
scales, the reference-current mark of every record measured with it is cleared and nothing else in any record (R58), and
every record swept and, behind them, the set are dirtied; when a record swept has a pocket, all pockets are disturbed (R167).
With TOO_FEW or CAL_RANGE the set, every record and every mark stay, and nothing
is dirtied. Either way the slot empties with SESSION_DONE and a staged curve takes effect (R63). -/
def Obligations.CalibrationWritesAndSweeps : Prop :=
  ∀ (k : Nat) (kind : SessionKind) (l : List (Nat × Nat)) (temp n : Nat) (new : RefSet) (o : SessionOutcome)
    (d : SessionDone) (tag : Byte) (s : State),
    s.taken .P (.sessionClose temp) = some tag → k < 4 → temp ≤ 600 → s.ocu = some ⟨kind, l⟩ →
    d =
      { kind := kind.tag, subject := k, outcome := o, reason := none, length := none, radius := none, used := n,
        rejected := l.length - n, discarded := none, temp := none, tempClamped := none } →
    (kind = .zero k ∧ o = .calibrated ∧
          (∃ z x, calibrateZero s.params l = some (z, x, n) ∧ new = (s.refSet k).withZeros z x) ∨
        (∃ lm dm, kind = .span k lm dm ∧ o = .calibrated ∧ ∃ a b, calibrateSpan s.params (s.refSet k).values.1
          (s.refSet k).values.2.1 lm dm l = .calibrated a b n ∧ new = (s.refSet k).withScales a b lm dm) →
      ∃ t, exec (.sessionClose temp) s = .next t ∧ t.refSet k = new ∧ (∀ j, j ≠ k → t.refSet j = s.refSet j) ∧
        t = { s with atb := t.atb, ocu := t.ocu, rfs := t.rfs, hob := t.hob, rst := t.rst, ports := t.ports } ∧
        (∀ b, t.asm b = if (s.asm b).measuredWith k then (s.asm b).clearMark else s.asm b) ∧
        SessionEnds s t { s.rfs with sets := t.rfs.sets }
          (SweepDirties s t ((List.range 512).filter fun b => (s.asm b).measuredWith k) (592 + k)) [] d
          (some (okReply tag false (.sessionDone d))) ∧
        ((∀ b, (s.asm b).measuredWith k = true →
          (s.asm b).state ≠ .issuing ∧ (s.asm b).state ≠ .issued ∧ (s.asm b).state ≠ .exhausted) → t.hob = s.hob) ∧
        ((∃ b, (s.asm b).measuredWith k = true ∧ ((s.asm b).state = .issuing ∨ (s.asm b).state = .issued ∨
          (s.asm b).state = .exhausted)) → t.hob = (s.disturb .all).hob ∧ DisturbedBy s t .all)) ∧
    (kind = .zero k ∧ o = .tooFew ∧ n = 0 ∧ calibrateZero s.params l = none ∨
        (∃ lm dm, kind = .span k lm dm ∧
          (o = .tooFew ∧ n = 0 ∧
              calibrateSpan s.params (s.refSet k).values.1 (s.refSet k).values.2.1 lm dm l = .tooFew ∨
            o = .calRange ∧
              calibrateSpan s.params (s.refSet k).values.1 (s.refSet k).values.2.1 lm dm l = .calRange n)) →
      ∃ t, exec (.sessionClose temp) s = .next t ∧
        t = { s with ocu := t.ocu, rfs := t.rfs, rst := t.rst, ports := t.ports } ∧
        SessionEnds s t s.rfs (Dirties s t) [] d (some (okReply tag false (.sessionDone d))))

/-- SESSION_ABANDON (R34, R36, R63): the subject of a MEASURE session is back in its prior state with that content and
without its lock; of a ZERO or SPAN session no record and no set changes; the slot empties with SESSION_DONE, whose counts
are those of log 17, and a staged curve becomes the working curve with CURVE_APPLIED behind it. -/
def Obligations.AbandonRestoresTheRecord : Prop :=
  ∀ (x : Session) (tag : Byte) (s : State), s.taken .P .sessionAbandon = some tag → s.ocu = some x →
    (∀ a k, x.kind = .measure a k → (s.asm a).state = .measuring) → ∃ t, exec .sessionAbandon s = .next t ∧
      SessionEnds s t s.rfs (Dirties s t) [] (endedDone x .abandoned) (some (okReply tag false .empty)) ∧
      t = { s with atb := t.atb, ocu := t.ocu, rfs := t.rfs, rst := t.rst, ports := t.ports } ∧
      (∀ a k r, x.kind = .measure a k → a < 512 → (s.asm a).prior = some r → OthersStay s t a ∧
        t.asm a = { s.asm a with state := r.toState, prior := none, holder := none, idle := 0 }) ∧
      ((∀ a k, x.kind ≠ .measure a k) → t.atb = s.atb)

/-- SELECT_REFERENCE makes a certified set the active set, and changes nothing and dirties nothing where it is active
already (R61); CERTIFY_REFERENCE sets the mark of a SPANNED set (R59), UNLOCK_REFERENCE clears it with MNT high on a set
that is not active (R60); each change dirties its record and touches nothing else. WRITE_CURVE (R62) of nine values,
each clamped to -500..500 with the CLAMPED mark: with a session open they are staged and nothing is dirtied; with none
open they become the working curve at once, dirtied when they differ. -/
def Obligations.ReferenceRequestsWrite : Prop :=
  (∀ (k z x a b lm dm : Nat) (tag : Byte) (s : State), k ≤ 3 →
    (s.taken .P (.selectReference k) = some tag → s.ocu = none → (s.refSet k).certified = true →
      (s.rfs.active ≠ some k →
        ∃ t, exec (.selectReference k) s = .next t ∧ t.rfs = { s.rfs with active := some k } ∧ Dirties s t [curveKey] ∧
          t = { s.replied .P (okReply tag false (.activeSet k)) with rfs := t.rfs, rst := t.rst }) ∧
      (s.rfs.active = some k →
        exec (.selectReference k) s = .next (s.replied .P (okReply tag false (.activeSet k))))) ∧
    (s.taken .P (.certifyReference k) = some tag → (∀ y, s.ocu = some y → y.kind.calibrates ≠ some k) →
      s.refSet k = .spanned z x a b lm dm false →
      ∃ t, exec (.certifyReference k) s = .next t ∧ t.refSet k = .spanned z x a b lm dm true ∧
        (∀ j, j ≠ k → t.refSet j = s.refSet j) ∧ t.rfs = { s.rfs with sets := t.rfs.sets } ∧ Dirties s t [592 + k] ∧
        t = { s.replied .P (okReply tag false .empty) with rfs := t.rfs, rst := t.rst }) ∧
    (s.taken .P (.unlockReference k) = some tag → s.pins.mnt = true → s.rfs.active ≠ some k →
      s.refSet k = .spanned z x a b lm dm true →
      ∃ t, exec (.unlockReference k) s = .next t ∧ t.refSet k = .spanned z x a b lm dm false ∧
        (∀ j, j ≠ k → t.refSet j = s.refSet j) ∧ t.rfs = { s.rfs with sets := t.rfs.sets } ∧ Dirties s t [592 + k] ∧
        t = { s.replied .P (okReply tag false .empty) with rfs := t.rfs, rst := t.rst })) ∧
  ∀ (l : List Int) (c : Curve) (tag : Byte) (s : State), s.taken .P (.writeCurve l) = some tag → l.length = 9 →
    c.toList = l.map (clampInt (-500) 500) →
    (s.ocu.isSome = true → exec (.writeCurve l) s =
      .next ((s.setStagedCurve (some c)).replied .P (okReply tag (decide (c.toList ≠ l)) (.curveWritten false)))) ∧
    (s.ocu = none → ∃ t, exec (.writeCurve l) s = .next t ∧ t.rfs = { s.rfs with curve := c } ∧
      (c = s.rfs.curve → t.rst = s.rst) ∧ (c ≠ s.rfs.curve → Dirties s t [curveKey]) ∧
      t = { s.replied .P (okReply tag (decide (c.toList ≠ l)) (.curveWritten true)) with rfs := t.rfs, rst := t.rst })

/-! ### Drawers and the driver (Section 4) -/

/-- What the driver and drawers are when a drawer has just been released into an IDLE driver: PULSING with attempt count `n`,
the driver BUSY with it, the pulse timer from 0 with the pulse width in force, the bus carrying its number (R74, R76). -/
def BeginsPulse (s t : State) (d n : Nat) : Prop :=
  t.drawer d = { s.drawer d with state := .pulsing, attempts := n, waitTimer := 0 } ∧ t.drc.queue = s.drc.queue ∧
    t.drc.driver = { s.drc.driver with pulsing := some d, pulseTimer := 0, pulseWidth := s.params.pulseWidth, bus := d }

/-- What they are when the driver is BUSY with another drawer: QUEUED at the tail (R73, R75). -/
def JoinsQueue (s t : State) (d n : Nat) : Prop :=
  t.drawer d = { s.drawer d with state := .queued, attempts := n, waitTimer := 0 } ∧ t.drc.queue = s.drc.queue ++ [d] ∧
    t.drc.driver = s.drc.driver

/-- The fate of a failed attempt that neither faults nor jams (R80 steps 3 and 4), the attempt count now `n`. -/
def Waits (s t : State) (d n : Nat) : Prop :=
  t.drawer d = { s.drawer d with
    attempts := n
    waitTimer := 0
    state := if n % (s.params.quickRetries + 1) = 0 then .backoff else .retryWait
    waitTime := if n % (s.params.quickRetries + 1) = 0 then s.params.backOff * 1000 else s.params.quickRetryWait }

/-- What a pulse that begins on drawer `d` with the sense input asserted leaves, its overcurrent event taken at the start
(R76, R79, R80): the failed attempt `n`, the driver IDLE with one more overcurrent, the bus carrying the drawer's number,
the assertion spent (log 13). -/
def PulseFailsAtStart (s t : State) (d n : Nat) : Prop :=
  Waits s t d n ∧ t.drc.queue = s.drc.queue ∧ t.pins = { s.pins with sense := .spent } ∧
    t.drc.driver = { s.drc.driver with
      pulseTimer := 0, overcurrents := s.drc.driver.overcurrents + 1, pulseWidth := s.params.pulseWidth, bus := d }

/-- How the driver goes on when the pulse of drawer `d` has ended, the overcurrent count now `oc` (R74, R76): IDLE with
nothing queued; else BUSY with the head of the queue, which is PULSING with its attempt count kept. Every drawer but `d` and
that head stays. (That a PULSING drawer is not in the queue is law L4, which every step keeps:
`EveryStepKeepsTheReleaseLaw`.) -/
def DriverGoesOn (s t : State) (d oc : Nat) : Prop :=
  (s.drc.queue = [] → OtherDrawersStay s t d ∧ t.drc.queue = [] ∧
    t.drc.driver = { s.drc.driver with pulsing := none, pulseTimer := 0, overcurrents := oc }) ∧
  ∀ e q, s.drc.queue = e :: q → e ≠ d → e < 64 → t.drawer e = { s.drawer e with state := .pulsing } ∧
    (∀ x, x ≠ d → x ≠ e → t.drawer x = s.drawer x) ∧ t.drc.queue = q ∧
    t.drc.driver = { s.drc.driver with
      pulsing := some e, pulseTimer := 0, overcurrents := oc, pulseWidth := s.params.pulseWidth, bus := e }

/-- The idle timer of a record after a request of port C that names it (R14). -/
def idleAfterC (r : AsmRecord) : Nat := if r.holder = some .C then 0 else r.idle

/-- Of the assembly records a request from port C that names `a` has changed the idle timer of a lock that port C holds on
`a`, and nothing else (R14). -/
def OnlyTheTimerRestarts (s t : State) (a : Nat) : Prop :=
  t.asm a = { s.asm a with idle := idleAfterC (s.asm a) } ∧ OthersStay s t a

/-- STOCK, WITHDRAW and RETURN accepted (R92, R73, R99, R101, R108): the drawer holds the operation and is PULSING when
the driver was IDLE, QUEUED at the tail when it was BUSY; no assembly, stock or pocket changes, but that the idle timer
restarts where port C holds the lock itself (R12, R14), and nothing is dirtied. With the sense input asserted the
overcurrent event at the start of the pulse follows the acceptance, whose reply carries PULSING (log 30), and the
assertion is then spent (log 13). -/
def Obligations.OperationsQueueTheirDrawer : Prop :=
  ∀ (i : Instr) (o : Operation) (a d : Nat) (tag : Byte) (s : State), s.taken .C i = some tag → a ≤ 511 → d ≤ 63 →
    (s.asm a).holder ≠ some .P → s.inOperation a = false → (s.drawer d).state = .closed → (s.drawer d).mismatch = false →
    s.drc.driver.fault = false → s.releaseCount < 8 → s.op d = none →
    (i = .stock a d ∧ o = ⟨.stock, a, none⟩ ∧ (s.asm a).state = .ready ∧ (s.asm a).stock = none ∧
        (s.drawer d).stock = none ∨
      i = .withdraw a ∧ o = ⟨.withdraw, a, none⟩ ∧ ((s.asm a).state = .ready ∨ (s.asm a).state = .regrind) ∧
        (s.asm a).stock = some d ∨
      ∃ n k, i = .returnTool a d n ∧ conditionOf n = some k ∧ o = ⟨.giveBack k, a, none⟩ ∧
        ((s.asm a).state = .issued ∨ (s.asm a).state = .exhausted) ∧ (s.drawer d).stock = none) →
    (s.drc.driver.pulsing.isSome = true → ∃ t, exec i s = .next t ∧ t.op d = some o ∧ OtherOpsStay s t d ∧
      JoinsQueue s t d 0 ∧ OtherDrawersStay s t d ∧ OnlyTheTimerRestarts s t a ∧
      t = { s.replied .C (okReply tag false (.operation o.kind a d .queued)) with
        atb := t.atb, drc := t.drc, coc := t.coc }) ∧
    (s.drc.driver.pulsing = none → s.drc.queue = [] → s.pins.sense ≠ .asserted → ∃ t, exec i s = .next t ∧
      t.op d = some o ∧ OtherOpsStay s t d ∧ BeginsPulse s t d 0 ∧ OtherDrawersStay s t d ∧
      OnlyTheTimerRestarts s t a ∧
      t = { s.replied .C (okReply tag false (.operation o.kind a d .pulsing)) with
        atb := t.atb, drc := t.drc, coc := t.coc }) ∧
    (s.drc.driver.pulsing = none → s.drc.queue = [] → s.pins.sense = .asserted → s.drc.driver.overcurrents < 2 →
      1 < s.params.attemptLimit → ∃ t, exec i s = .next t ∧
        t.op d = some o ∧ OtherOpsStay s t d ∧ PulseFailsAtStart s t d 1 ∧ OtherDrawersStay s t d ∧
        OnlyTheTimerRestarts s t a ∧
        t = { s.replied .C (okReply tag false (.operation o.kind a d .pulsing)) with
          atb := t.atb, drc := t.drc, coc := t.coc, pins := t.pins })

/-- CANCEL_DRAWER on an operation that is no ISSUE (R84, R111; of an ISSUE: `IssuesAreRolledBack`): the drawer is CLOSED with
attempt count 0, its operation gone with OP_DONE CANCELLED, and every assembly, stock and pocket is as it stood. A QUEUED
drawer leaves the queue; a PULSING one gives the driver up with the overcurrent count as it was, and the driver takes the
next head of the queue (R74). -/
def Obligations.CancelEndsTheRelease : Prop :=
  ∀ (d : Nat) (o : Operation) (tag : Byte) (s : State), s.taken .C (.cancelDrawer d) = some tag → d ≤ 63 →
    s.op d = some o → (∀ c p l k, o.kind ≠ .issue c p l k) →
    ((s.drawer d).state = .queued ∨ (s.drawer d).state = .retryWait ∨ (s.drawer d).state = .backoff ∨
      (s.drawer d).state = .pulsing ∧ d ∉ s.drc.queue ∧
        (s.drc.queue = [] ∨ s.drc.driver.fault = false ∧ s.pins.sense ≠ .asserted)) →
    ∃ t, exec (.cancelDrawer d) s = .next t ∧
      t.drawer d = { s.drawer d with state := .closed, attempts := 0, waitTimer := 0 } ∧
      t.op d = none ∧ OtherOpsStay s t d ∧
      ((s.drawer d).state ≠ .pulsing → OtherDrawersStay s t d ∧ t.drc.driver = s.drc.driver ∧
        t.drc.queue = (if (s.drawer d).state = .queued then s.drc.queue.erase d else s.drc.queue)) ∧
      ((s.drawer d).state = .pulsing → DriverGoesOn s t d s.drc.driver.overcurrents) ∧
      t = { s with drc := t.drc, coc := t.coc, ports := t.ports } ∧
      t.ports = ((s.placed [(.C, .opDone ⟨d, o, .cancelled, none, (s.asm o.asm).state, (s.asm o.asm).stockedMark,
        if o.kind = .stock then some false else none⟩)]).replied .C (okReply tag false .empty)).ports

/-- What the rollback of an ISSUE leaves (R111, R107, Table 5.3), beside its drawer, the driver and the ports: the assembly
READY again in its drawer, the pocket EMPTY and signalled, a linked pick entry WAITING in its place, the operation gone; the
pages and the commit queue stay, so nothing is dirtied. -/
def IssueUndone (s t : State) (d a c p : Nat) (link : Bool) : Prop :=
  t.asm a = { s.asm a with state := .ready, prior := none, rejected := none, binding := none } ∧ OthersStay s t a ∧
    t.pocket c p = .empty ∧ OtherPocketsStay s t c p ∧ (∀ e, t.profile e = s.profile e) ∧
    t.picks = (if link then s.picks.map fun k => if k.cell = c ∧ k.pocket = p then { k with state := .waiting } else k
      else s.picks) ∧
    t.op d = none ∧ OtherOpsStay s t d ∧ t.hob = (s.disturb (.pocket c p)).hob ∧
    t = { s with
      atb := t.atb, ctb := t.ctb, drc := t.drc, coc := t.coc, hob := t.hob, pins := t.pins, ports := t.ports }

/-- The rollback of an ISSUE on a CANCEL_DRAWER of its drawer, waiting or PULSING (R84, R111), with POCKET_CHANGED to port M
and OP_DONE CANCELLED; and on the failed attempt at the attempt limit (R80, R111), the drawer JAMMED, with DRAWER_JAMMED,
POCKET_CHANGED and OP_DONE JAMMED in this order. A pulse that ends so leaves the driver to the next head of the queue (R74);
an assertion that ended it is then spent (log 13). -/
def Obligations.IssuesAreRolledBack : Prop :=
  ∀ (d a c p : Nat) (link picked : Bool) (o : Operation) (s : State), d ≤ 63 → a ≤ 511 → c ≤ 15 → p ≤ 127 →
    s.op d = some o → o = ⟨.issue c p link picked, a, none⟩ → (s.asm a).state = .issuing → (s.asm a).stock = some d →
    (∀ tag, s.taken .C (.cancelDrawer d) = some tag →
      ((s.drawer d).state = .queued ∨ (s.drawer d).state.waiting = true ∨ (s.drawer d).state = .pulsing ∧
        d ∉ s.drc.queue ∧ (s.drc.queue = [] ∨ s.drc.driver.fault = false ∧ s.pins.sense ≠ .asserted)) →
      ∃ t, exec (.cancelDrawer d) s = .next t ∧ IssueUndone s t d a c p link ∧ t.pins = s.pins ∧
        t.drawer d = { s.drawer d with state := .closed, attempts := 0, waitTimer := 0 } ∧
        ((s.drawer d).state ≠ .pulsing → OtherDrawersStay s t d ∧ t.drc.driver = s.drc.driver ∧
          t.drc.queue = (if (s.drawer d).state = .queued then s.drc.queue.erase d else s.drc.queue)) ∧
        ((s.drawer d).state = .pulsing → DriverGoesOn s t d s.drc.driver.overcurrents) ∧
        t.ports = ((s.placed [(.M, .pocketChanged c p .empty), (.C, .opDone ⟨d, o, .cancelled, none, .ready, some true,
          none⟩)]).replied .C (okReply tag false .empty)).ports) ∧
    ∀ (i : Instr) (n oc : Nat), s.phase.active = true → s.drc.driver.pulsing = some d → (s.drawer d).state = .pulsing →
      d ∉ s.drc.queue → s.drc.driver.fault = false → n = (s.drawer d).attempts + 1 → s.params.attemptLimit ≤ n →
      (i = .pulseWidthElapsed ∧ s.drc.driver.pulseWidth ≤ s.drc.driver.pulseTimer ∧ oc = 0 ∧
          (s.drc.queue = [] ∨ s.pins.sense ≠ .asserted) ∨
        i = .overcurrent ∧ oc = s.drc.driver.overcurrents + 1 ∧ oc ≠ 3) →
      ∃ t, exec i s = .next t ∧ IssueUndone s t d a c p link ∧ DriverGoesOn s t d oc ∧
        t.pins = { s.pins with sense := if i = .overcurrent then .spent else s.pins.sense } ∧
        t.drawer d = { s.drawer d with state := .jammed, attempts := n, waitTimer := 0 } ∧
        t.ports = (s.placed [(.C, .drawerJammed d n), (.M, .pocketChanged c p .empty),
          (.C, .opDone ⟨d, o, .jammed, none, .ready, some true, none⟩)]).ports

/-- CLEAR_JAM takes a JAMMED drawer to CLOSED with attempt count 0 (R83), CLEAR_DRIVER takes the condition FAULT to OK with
overcurrent count 0 and reports it (R82); nothing else changes, and where there is nothing to clear each is refused with
WRONG_STATE. CLEAR_DRIVER is permitted on port C alone. -/
def Obligations.JamAndFaultAreCleared : Prop :=
  ∀ (d : Nat) (tag : Byte) (s : State),
    (s.taken .C (.clearJam d) = some tag → d ≤ 63 →
      ((s.drawer d).state = .jammed → exec (.clearJam d) s = .next ((s.setDrawer d
        { s.drawer d with state := .closed, attempts := 0, waitTimer := 0 }).replied .C (okReply tag false .empty))) ∧
      ((s.drawer d).state ≠ .jammed → exec (.clearJam d) s =
        .next (s.replied .C ⟨.wrongState, false, tag, .empty⟩))) ∧
    (s.taken .C .clearDriver = some tag →
      (s.drc.driver.fault = true → exec .clearDriver s = .next ((s.setDriver
        { s.drc.driver with fault := false, overcurrents := 0 }).replied .C
          (okReply tag false (.driverCondition false)))) ∧
      (s.drc.driver.fault = false → exec .clearDriver s = .next (s.replied .C ⟨.wrongState, false, tag, .empty⟩))) ∧
    ∀ p, parseFrame p (frameOf tag .clearDriver) false = if p = .C then .request tag .clearDriver else .notPermitted tag

/-- OPEN_SEEN (R71): a CLOSED or JAMMED drawer is forced open; a QUEUED or waiting one opens with its operation, the
released mark clear, and leaves the release queue. The attempt count becomes 0, the open timer starts from 0. In a load the
open level becomes open, for LOAD_END to read (R89), and nothing else changes (R90, log 15). Where the level is open already
there is no event (R69), and with the reset input low or without power nothing is sampled: nothing changes (log 15). -/
def Obligations.OpeningsOutsideAPulse : Prop :=
  ∀ (d : Fin 64) (s : State),
    (∀ c, s.phase = .load c → exec (.openSeen d) s = .next (s.setDrawer d { s.drawer d with levelOpen := true })) ∧
    (s.phase.active = true ∧ (s.drawer d).levelOpen = true ∨ s.phase = .held ∨ s.phase = .off →
      exec (.openSeen d) s = .next s) ∧
    (s.phase.active = true → (s.drawer d).levelOpen = false → (s.drawer d).state ≠ .pulsing →
      (s.drawer d).state ≠ .opened →
      ∃ t, exec (.openSeen d) s = .next t ∧
        t.drawer d = { s.drawer d with
          state := .opened, attempts := 0, waitTimer := 0, openTimer := 0, levelOpen := true } ∧
        OtherDrawersStay s t d ∧ t.drc.driver = s.drc.driver ∧
        t.drc.queue = (if (s.drawer d).state = .queued then s.drc.queue.erase d else s.drc.queue) ∧
        t = { s with drc := t.drc, coc := t.coc, ports := t.ports } ∧
        (((s.drawer d).state = .closed ∨ (s.drawer d).state = .jammed) → t.coc = s.coc ∧
          t.ports = (s.placed [(.C, .drawerForced d (s.drawer d).state (s.drawer d).stock)]).ports) ∧
        ((s.drawer d).state.releasing = true → OtherOpsStay s t d ∧
          t.op d = (s.op d).map (fun o => { o with released := some false }) ∧
          t.ports = (s.placed [(.C, .drawerOpened d (s.drawer d).attempts false)]).ports))

/-- OPEN_SEEN on a PULSING drawer (R77): a successful release; the pulse ends, the overcurrent count is 0, the operation's
released mark is set, and the driver takes the next head of the queue. -/
def Obligations.OpeningEndsAPulse : Prop :=
  ∀ (d : Fin 64) (s : State), s.phase.active = true → (s.drawer d).levelOpen = false →
    (s.drawer d).state = .pulsing → d.val ∉ s.drc.queue →
    (s.drc.queue = [] ∨ s.drc.driver.fault = false ∧ s.pins.sense ≠ .asserted) →
    ∃ t, exec (.openSeen d) s = .next t ∧
      t.drawer d = { s.drawer d with
        state := .opened, attempts := 0, waitTimer := 0, openTimer := 0, levelOpen := true } ∧
      t.op d = (s.op d).map (fun o => { o with released := some true }) ∧ OtherOpsStay s t d ∧
      t = { s with drc := t.drc, coc := t.coc, ports := t.ports } ∧
      t.ports = (s.placed [(.C, .drawerOpened d (s.drawer d).attempts true)]).ports ∧ DriverGoesOn s t d 0

/-- CLOSE_SEEN on a drawer with no operation (R72, R86, R68): CLOSED, the timer stopped, the marks and count cleared; the
mismatch mark is set with STOCK_MISMATCH when presence and stock disagree and cleared when they agree, and a change of it is
dirtied. In a load the open level becomes closed, for LOAD_END to read (R89), and nothing else changes (R90, log 15). Where
the level is closed already there is no event (R69), and with the reset input low or without power nothing is sampled:
nothing changes (log 15). -/
def Obligations.CloseComparesPresence : Prop :=
  ∀ (d : Fin 64) (s : State),
    (∀ c, s.phase = .load c → exec (.closeSeen d) s = .next (s.setDrawer d { s.drawer d with levelOpen := false })) ∧
    (s.phase.active = true ∧ (s.drawer d).levelOpen = false ∨ s.phase = .held ∨ s.phase = .off →
      exec (.closeSeen d) s = .next s) ∧
    (s.phase.active = true → (s.drawer d).levelOpen = true → s.op d = none →
      ∃ t, exec (.closeSeen d) s = .next t ∧
        t.drawer d = { s.drawer d with
          state := .closed, attempts := 0, openReported := false, openTimer := 0, levelOpen := false,
          mismatch := decide ((s.drawer d).present ≠ (s.drawer d).stock.isSome) } ∧
        OtherDrawersStay s t d ∧ t.drc.queue = s.drc.queue ∧ t.drc.driver = s.drc.driver ∧
        t = { s with drc := t.drc, rst := t.rst, ports := t.ports } ∧
        ((t.drawer d).mismatch = (s.drawer d).mismatch → t.rst = s.rst) ∧
        ((t.drawer d).mismatch ≠ (s.drawer d).mismatch → Dirties s t [512 + d.val]) ∧
        t.ports = (s.placed (if (s.drawer d).present = (s.drawer d).stock.isSome then []
          else [(.C, .stockMismatch d (s.drawer d).stock (s.drawer d).present)])).ports)

/-- The lines of the part. PRESENCE_LEVEL_CHANGE, MNT_INPUT_CHANGE and OVERCURRENT_SENSE_RELEASED hold the new level and
change nothing else (R70, R60, R79); the presence switches are not sampled with the reset input low or without power
(log 15). A port's attention line is high exactly while its queue holds a notice, and low with the reset input low or
without power (R189, R199, R182); the driver-enable line is high exactly for the length of a pulse, and low in a load,
with the reset input low or without power (R76, R90, R182). -/
def Obligations.LinesFollowTheirLevels : Prop :=
  ∀ (d : Fin 64) (b : Bool) (p : Port) (s : State),
    (s.phase ≠ .held → s.phase ≠ .off →
      exec (.presenceLevelChange d b) s = .next (s.setDrawer d { s.drawer d with present := b })) ∧
    (s.phase = .held ∨ s.phase = .off → exec (.presenceLevelChange d b) s = .next s) ∧
    exec (.mntInputChange b) s = .next { s with pins := { s.pins with mnt := b } } ∧
    exec .overcurrentSenseReleased s = .next { s with pins := { s.pins with sense := .low } } ∧
    (s.attention p = true ↔ (s.port p).notices ≠ [] ∧ s.phase ≠ .held ∧ s.phase ≠ .off) ∧
    (s.driverEnable = true ↔ (∃ e, s.drc.driver.pulsing = some e) ∧ (s.phase = .running ∨ s.phase = .drain)) ∧
    (∀ n, (s.notify p n).attention p = true ↔ s.phase ≠ .held ∧ s.phase ≠ .off) ∧
    ∀ t, exec (.resetInputAsserted .former) s = .next t → s.phase ≠ .off →
      t.attention p = false ∧ t.driverEnable = false

/-- PULSE_WIDTH_ELAPSED and OVERCURRENT end a pulse as a failed attempt (R78, R79, R80): overcurrent count 0, or 1 more;
below the attempt limit the drawer waits, whatever its operation, which is held on; at it the drawer jams with DRAWER_JAMMED
before the OP_DONE of its rolled back STOCK, WITHDRAW or RETURN (of an ISSUE: `IssuesAreRolledBack`); the driver takes the
next head of the queue (R74). An assertion is then spent (log 13). A PULSE_WIDTH_ELAPSED that finds no pulse at its width, as
behind the event that ended its pulse and began the next, changes nothing (R76, log 4); an assertion outside a pulse ends
none (R79). The third overcurrent is stated in `ThirdOvercurrentFaults`. -/
def Obligations.FailedAttempts : Prop :=
  (∀ (i : Instr) (d n oc : Nat) (s : State), s.phase.active = true → d < 64 →
    s.drc.driver.pulsing = some d → (s.drawer d).state = .pulsing → d ∉ s.drc.queue → s.drc.driver.fault = false →
    n = (s.drawer d).attempts + 1 →
    (i = .pulseWidthElapsed ∧ s.drc.driver.pulseWidth ≤ s.drc.driver.pulseTimer ∧ oc = 0 ∧
        (s.drc.queue = [] ∨ s.pins.sense ≠ .asserted) ∨
      i = .overcurrent ∧ oc = s.drc.driver.overcurrents + 1 ∧ oc ≠ 3) →
    (n < s.params.attemptLimit → ∃ t, exec i s = .next t ∧ Waits s t d n ∧ DriverGoesOn s t d oc ∧ t = { s with
      drc := t.drc, pins := { s.pins with sense := if i = .overcurrent then .spent else s.pins.sense } }) ∧
    (∀ o, s.params.attemptLimit ≤ n → s.op d = some o → (∀ c p l k, o.kind ≠ .issue c p l k) →
      ∃ t, exec i s = .next t ∧ t.drawer d = { s.drawer d with state := .jammed, attempts := n, waitTimer := 0 } ∧
        DriverGoesOn s t d oc ∧ t.op d = none ∧ OtherOpsStay s t d ∧
        t = { s with
          drc := t.drc, coc := t.coc, ports := t.ports
          pins := { s.pins with sense := if i = .overcurrent then .spent else s.pins.sense } } ∧
        t.ports = (s.placed [(.C, .drawerJammed d n), (.C, .opDone ⟨d, o, .jammed, none, (s.asm o.asm).state,
          (s.asm o.asm).stockedMark, if o.kind = .stock then some false else none⟩)]).ports)) ∧
  ∀ s : State,
    (s.phase.active = false ∨ s.drc.driver.pulsing = none ∨ s.drc.driver.pulseTimer < s.drc.driver.pulseWidth →
      exec .pulseWidthElapsed s = .next s) ∧
    (s.phase.active = false ∨ s.drc.driver.pulsing = none →
      exec .overcurrent s = .next { s with pins := { s.pins with sense := .asserted } })

/-- What the flush of a driver fault reports of a drawer (R111, R112): POCKET_CHANGED of a rolled back ISSUE, then
OP_DONE DRIVER_FAULT, the assembly of an ISSUE READY-stocked again. -/
def flushNotices (s : State) (e : Nat) : List (Port × Notice) :=
  match s.op e with
  | some o => match o.kind with
    | .issue c p _ _ => [(.M, .pocketChanged c p .empty),
      (.C, .opDone ⟨e, o, .driverFault, none, .ready, some (s.asm o.asm).stock.isSome, none⟩)]
    | _ => [(.C, .opDone ⟨e, o, .driverFault, none, (s.asm o.asm).state, (s.asm o.asm).stockedMark,
      if o.kind = .stock then some false else none⟩)]
  | none => []

/-- The third overcurrent in succession (R81, R112), in a pulse or found at the start of one that the end of a wait begins
(R75, R76): the condition is FAULT with count 3, every drawer of the release set is CLOSED with attempt count 0 and holds no
operation, every other drawer and operation stands, the queue is empty, the driver IDLE, the assertion spent (log 13). Port C
gets DRIVER_FAULT with the number of drawers returned; then each operation is rolled back in ascending drawer number: an ISSUE
is undone with POCKET_CHANGED before its OP_DONE, its assembly READY again, its pocket EMPTY and signalled, its linked pick
entry WAITING; every other assembly, pocket and pick entry stands, and nothing is dirtied. -/
def Obligations.ThirdOvercurrentFaults : Prop :=
  ∀ (i : Instr) (d : Fin 64) (l : List Nat) (s : State), s.phase.active = true → s.drc.driver.overcurrents = 2 →
    (i = .overcurrent ∧ s.drc.driver.pulsing = some d.val ∧ (s.drawer d).state = .pulsing ∨
      i = .waitExpiry d ∧ s.drc.driver.pulsing = none ∧ s.drc.driver.fault = false ∧ s.drc.queue = [] ∧
        s.pins.sense = .asserted ∧ (s.drawer d).state.waiting = true ∧
        (s.drawer d).waitTime ≤ (s.drawer d).waitTimer) →
    OperationLaw s → l = ((List.range 64).filter fun e => (s.drawer e).state.releasing) →
    (∀ e ∈ l, ∀ c p k m a r, s.op e = some ⟨.issue c p k m, a, r⟩ →
      c ≤ 15 ∧ p ≤ 127 ∧ a ≤ 511 ∧ (s.asm a).stock = some e) →
    ∃ t, exec i s = .next t ∧ t.drc.queue = [] ∧
      t.drc.driver = { s.drc.driver with
        pulsing := none, pulseTimer := 0, overcurrents := 3, fault := true
        pulseWidth := if i = .overcurrent then s.drc.driver.pulseWidth else s.params.pulseWidth
        bus := if i = .overcurrent then s.drc.driver.bus else d.val } ∧
      (∀ e, e < 64 → (s.drawer e).state.releasing = true → t.op e = none ∧
        t.drawer e = { s.drawer e with state := .closed, attempts := 0, waitTimer := 0 }) ∧
      (∀ e, (s.drawer e).state.releasing = false → t.op e = s.op e ∧ t.drawer e = s.drawer e) ∧
      (∀ e ∈ l, ∀ c p k m a r, s.op e = some ⟨.issue c p k m, a, r⟩ → t.pocket c p = .empty ∧
        t.asm a = { s.asm a with state := .ready, prior := none, rejected := none, binding := none }) ∧
      (∀ a, (∀ e ∈ l, ∀ c p k m r, s.op e ≠ some ⟨.issue c p k m, a, r⟩) → t.asm a = s.asm a) ∧
      (∀ c p, (∀ e ∈ l, ∀ k m a r, s.op e ≠ some ⟨.issue c p k m, a, r⟩) → t.pocket c p = s.pocket c p) ∧
      (∀ c, t.profile c = s.profile c) ∧
      t.picks = s.picks.map (fun x => if l.any fun e => match s.op e with
        | some ⟨.issue c p true _, _, _⟩ => decide (x.cell = c ∧ x.pocket = p)
        | _ => false then { x with state := .waiting } else x) ∧
      t.hob = ((l.filterMap fun e => match s.op e with
        | some ⟨.issue c p _ _, _, _⟩ => some (Signal.pocket c p)
        | _ => none).foldl State.disturb s).hob ∧
      t.ports = (s.placed ((.C, .driverFault d l.length) :: l.flatMap (flushNotices s))).ports ∧
      t = { s with
        atb := t.atb, drc := t.drc, coc := t.coc, ctb := t.ctb, hob := t.hob, ports := t.ports
        pins := { s.pins with sense := .spent } }

/-- WAIT_EXPIRY of a wait timer at its wait time (R75): the drawer is QUEUED at the tail with its attempt count kept; an IDLE
and OK driver with nothing queued takes it at once (R74), and the sense input found asserted there ends that pulse as it
begins: one more failed attempt, one more overcurrent (R76, R79, R80, log 13). OPEN_TIME_EXPIRY of an open timer at the
limit, its mark clear (R85): the mark is set and port C gets DRAWER_LEFT_OPEN with whether an operation is held; the drawer
stays OPEN, the timer runs on, and nothing else changes. Each changes nothing when its timer does not run or is below its
limit, and OPEN_TIME_EXPIRY when the mark is set (log 4). -/
def Obligations.DrawerTimersExpire : Prop :=
  ∀ (d : Fin 64) (s : State), s.phase.active = true →
    ((s.drawer d).state.waiting = true → (s.drawer d).waitTime ≤ (s.drawer d).waitTimer →
      (s.drc.driver.pulsing.isSome = true → ∃ t, exec (.waitExpiry d) s = .next t ∧
        JoinsQueue s t d (s.drawer d).attempts ∧ OtherDrawersStay s t d ∧ t = { s with drc := t.drc }) ∧
      (s.drc.driver.pulsing = none → s.drc.driver.fault = false → s.drc.queue = [] →
        (s.pins.sense ≠ .asserted → ∃ t, exec (.waitExpiry d) s = .next t ∧
          BeginsPulse s t d (s.drawer d).attempts ∧ OtherDrawersStay s t d ∧ t = { s with drc := t.drc }) ∧
        (s.pins.sense = .asserted → s.drc.driver.overcurrents < 2 → (s.drawer d).attempts + 1 < s.params.attemptLimit →
          ∃ t, exec (.waitExpiry d) s = .next t ∧ PulseFailsAtStart s t d ((s.drawer d).attempts + 1) ∧
            OtherDrawersStay s t d ∧ t = { s with drc := t.drc, pins := t.pins }))) ∧
    ((s.drawer d).state.waiting = false ∨ (s.drawer d).waitTimer < (s.drawer d).waitTime →
      exec (.waitExpiry d) s = .next s) ∧
    ((s.drawer d).state = .opened → (s.drawer d).openReported = false →
      s.params.openLimit * 1000 ≤ (s.drawer d).openTimer → exec (.openTimeExpiry d) s =
        .next ((s.setDrawer d { s.drawer d with openReported := true }).placed
          [(.C, .drawerLeftOpen d (s.op d).isSome)])) ∧
    ((s.drawer d).state ≠ .opened ∨ (s.drawer d).openReported = true ∨
      (s.drawer d).openTimer < s.params.openLimit * 1000 → exec (.openTimeExpiry d) s = .next s)

/-! ### Crib operations (Section 5) -/

/-- REGISTER (R96): the record is UNMEASURED with the request's family, nominals and life fields, limit and percent clamped,
wear 0 and everything else absent; its lock stays; it is dirtied. RETURN_FROM_REGRIND (R98, R148) takes a REGRIND-unstocked
record to UNMEASURED with wear 0, keeping the rest. -/
def Obligations.RecordsBeginAnew : Prop :=
  ∀ (a : Nat) (f : Option Nat) (nl nr : Option (Nat × Nat)) (mode limit warn l w : Nat) (m : LifeMode) (tag : Byte)
    (s : State), a ≤ 511 → (s.asm a).holder ≠ some .P →
    (s.taken .C (.register a f nl nr mode limit warn) = some tag → lifeModeOf mode = some m →
      (∀ x, f = some x → 1 ≤ x ∧ x ≤ 255) → (∀ v t, nl = some (v, t) → v ≤ 4000000 ∧ t ≤ 4000000) →
      (∀ v t, nr = some (v, t) → v ≤ 500000 ∧ t ≤ 500000) →
      ((s.asm a).state = .vacant ∨ (s.asm a).state = .lost) →
      l = min 4000000 (max 1 limit) → w = min 99 (max 50 warn) →
      ∃ t, exec (.register a f nl nr mode limit warn) s = .next t ∧ OthersStay s t a ∧
        t.asm a =
          { state := .unmeasured, prior := none, family := f, nomLength := nl, nomRadius := nr, geometry := none,
            facts := none, rejected := none, mode := m, limit := l, warn := w, staged := none, used := 0, committed := 0,
            warned := false, stock := none, binding := none, holder := (s.asm a).holder,
            idle := idleAfterC (s.asm a) } ∧
        Dirties s t [a] ∧
        t = { s.replied .C (okReply tag (decide (l ≠ limit ∨ w ≠ warn)) (.assembly a)) with
          atb := t.atb, rst := t.rst }) ∧
    (s.taken .C (.returnFromRegrind a) = some tag → s.inOperation a = false → (s.asm a).state = .regrind →
      (s.asm a).stock = none →
      ∃ t, exec (.returnFromRegrind a) s = .next t ∧ OthersStay s t a ∧
        t.asm a = { s.asm a with
          state := .unmeasured, prior := none, geometry := none, facts := none, rejected := none, binding := none,
          used := 0, committed := 0, warned := false, idle := idleAfterC (s.asm a) } ∧
        Dirties s t [a] ∧ t = { s.replied .C (okReply tag false .empty) with atb := t.atb, rst := t.rst })

/-- RETIRE (R97): the record is VACANT, its life fields and lock as they were; a drawer that named it loses its stock, the
mismatch mark of a CLOSED drawer becomes what presence says, with STOCK_MISMATCH when an assembly lies in it; the
record is dirtied, and the drawer where its stock or mark changes. A stocked assembly is accepted only from a drawer whose mark
is set (R86); from a drawer whose mark is clear it is refused with WRONG_STATE. -/
def Obligations.RetireEmptiesTheRecord : Prop :=
  ∀ (a : Nat) (tag : Byte) (s : State), s.taken .C (.retire a) = some tag → a ≤ 511 → (s.asm a).holder ≠ some .P →
    s.inOperation a = false →
    (∀ d, (s.asm a).stock = some d → (s.drawer d).mismatch = false → exec (.retire a) s = .next
      ((s.setAsm a { s.asm a with idle := idleAfterC (s.asm a) }).replied .C ⟨.wrongState, false, tag, .empty⟩)) ∧
    (((s.asm a).state = .unmeasured ∨ (s.asm a).state = .quarantined ∨ (s.asm a).state = .ready ∨
        (s.asm a).state = .regrind ∨ (s.asm a).state = .lost) →
      ((s.asm a).stock = none →
        ∃ t, exec (.retire a) s = .next t ∧ OthersStay s t a ∧
          t.asm a = { s.asm a with
            state := .vacant, prior := none, family := none, nomLength := none, nomRadius := none, geometry := none,
            facts := none, rejected := none, staged := none, binding := none, idle := idleAfterC (s.asm a) } ∧
          Dirties s t [a] ∧ t = { s.replied .C (okReply tag false .empty) with atb := t.atb, rst := t.rst }) ∧
      ∀ d, (s.asm a).stock = some d → d ≤ 63 → (s.drawer d).mismatch = true →
        ∃ t, exec (.retire a) s = .next t ∧ OthersStay s t a ∧
          t.asm a = { s.asm a with
            state := .vacant, prior := none, family := none, nomLength := none, nomRadius := none, geometry := none,
            facts := none, rejected := none, staged := none, stock := none, binding := none,
            idle := idleAfterC (s.asm a) } ∧
          t.drawer d = { s.drawer d with
            stock := none
            mismatch := if (s.drawer d).state = .closed then (s.drawer d).present else (s.drawer d).mismatch } ∧
          OtherDrawersStay s t d ∧ t.drc.queue = s.drc.queue ∧ t.drc.driver = s.drc.driver ∧
          Dirties s t (if (t.drawer d).stock = (s.drawer d).stock ∧ (t.drawer d).mismatch = (s.drawer d).mismatch
            then [a] else [a, 512 + d]) ∧
          t = { s with atb := t.atb, drc := t.drc, rst := t.rst, ports := t.ports } ∧
          t.ports = ((s.placed (if (s.drawer d).state = .closed ∧ (s.drawer d).present = true then
            [(.C, .stockMismatch d none true)] else [])).replied .C (okReply tag false .empty)).ports)

/-- An accepted ISSUE, or ISSUE_PICK of the sister chosen (R103, R104, R105): the assembly is ISSUING in its drawer, the
pocket RESERVED with POCKET_CHANGED to port M and its signal to the Handoff Builder, a WAITING entry of the family IN_ISSUE,
the operation held, the drawer queued or pulsing; nothing is dirtied. With the sense input asserted the overcurrent event at
the start of the pulse follows the acceptance, whose reply carries PULSING (log 30), and the assertion is then spent
(log 13). -/
def Obligations.IssueReservesThePocket : Prop :=
  ∀ (i : Instr) (a c p d : Nat) (link picked : Bool) (tag : Byte) (s : State), s.taken .C i = some tag → a ≤ 511 →
    c ≤ 15 → p ≤ 127 → d ≤ 63 →
    (i = .issue a c p ∧ picked = false ∧ (s.asm a).holder ≠ some .P ∨
      i = .issuePick c p ∧ picked = true ∧ ∃ k, findPick s.picks c p = some k ∧ s.chooseSister k.family = some a) →
    s.inOperation a = false → (s.asm a).state = .ready → (s.asm a).stock = some d → (s.asm a).markSet = true →
    (s.asm a).used < 8 * (s.asm a).limit → p < (s.profile c).size → s.pocket c p = .empty →
    link = (findPick s.picks c p).isSome →
    (∀ k, findPick s.picks c p = some k → k.state = .waiting ∧ (s.asm a).family = some k.family) →
    (s.drawer d).state = .closed → (s.drawer d).mismatch = false → s.drc.driver.fault = false → s.releaseCount < 8 →
    (s.drc.driver.pulsing.isSome = true ∨ s.drc.queue = [] ∧ (s.pins.sense ≠ .asserted ∨
      s.drc.driver.overcurrents < 2 ∧ 1 < s.params.attemptLimit)) →
    ∃ t, exec i s = .next t ∧ OthersStay s t a ∧
      t.asm a = { s.asm a with
        state := .issuing, prior := none, rejected := none, binding := none, idle := idleAfterC (s.asm a) } ∧
      t.pocket c p = .reserved a ∧ OtherPocketsStay s t c p ∧ (∀ e, t.profile e = s.profile e) ∧
      t.picks = s.picks.map (fun k => if k.cell = c ∧ k.pocket = p then { k with state := .inIssue } else k) ∧
      t.op d = some ⟨.issue c p link picked, a, none⟩ ∧ OtherOpsStay s t d ∧ OtherDrawersStay s t d ∧
      (s.drc.driver.pulsing.isSome = true → JoinsQueue s t d 0 ∧ t.pins = s.pins) ∧
      (s.drc.driver.pulsing = none → s.pins.sense ≠ .asserted → BeginsPulse s t d 0 ∧ t.pins = s.pins) ∧
      (s.drc.driver.pulsing = none → s.pins.sense = .asserted → PulseFailsAtStart s t d 1) ∧
      t.hob = (s.disturb (.pocket c p)).hob ∧
      t = { s with
        atb := t.atb, ctb := t.ctb, drc := t.drc, coc := t.coc, hob := t.hob, pins := t.pins, ports := t.ports } ∧
      t.ports = ((s.placed [(.M, .pocketChanged c p (.reserved a))]).replied .C (okReply tag false
        (.operation (.issue c p link picked) a d
          (if s.drc.driver.pulsing.isSome then .queued else .pulsing)))).ports

/-- Limit and used units with which a record enters the sister rule: 1 and 0 in mode NONE (R129). -/
def lifeLeft (r : AsmRecord) : Int × Int := if r.mode = .none then (1, 0) else ((r.limit : Int), ((r.used / 8 : Nat) : Int))

/-- `a` has the greater remaining fraction, by cross-multiplication (R129). -/
def Outlasts (a b : AsmRecord) : Prop :=
  ((lifeLeft b).1 - (lifeLeft b).2) * (lifeLeft a).1 < ((lifeLeft a).1 - (lifeLeft a).2) * (lifeLeft b).1

/-- The sister rule (R129, R130, R131, R132): ISSUE_PICK chooses a candidate that no other candidate outlasts, the lower
assembly number on a tie, and none only when there is none; a handoff entry names the candidate pocket of the cell by the
same ranking, the lower pocket number on a tie. -/
def Obligations.SisterRuleChoosesTheLongestLasting : Prop :=
  ∀ (s : State) (f c : Nat),
    (∀ P : Nat → Prop, (∀ a, P a ↔ a < 512 ∧ (s.asm a).state = .ready ∧ (s.asm a).stock ≠ none ∧
        (s.asm a).markSet = true ∧ (s.asm a).holder = none ∧ (s.asm a).family = some f ∧
        (s.asm a).used < 8 * (s.asm a).limit) →
      (s.chooseSister f = none ↔ ∀ a, ¬ P a) ∧
      ∀ a, s.chooseSister f = some a → P a ∧ ∀ b, P b →
        ¬ Outlasts (s.asm b) (s.asm a) ∧ (b < a → Outlasts (s.asm a) (s.asm b))) ∧
    ((∀ a, 1 ≤ (s.asm a).limit) →
      ∀ P : Nat → Nat → Prop, (∀ p a, P p a ↔ p < 128 ∧ s.pocket c p = .bound a ∧ (s.asm a).state = .issued ∧
        (s.asm a).family = some f ∧ (s.asm a).markSet = true) →
      (s.chooseSisterPocket c (some f) = none ↔ ∀ p a, ¬ P p a) ∧
      ∀ p, s.chooseSisterPocket c (some f) = some p → ∃ a, P p a ∧ ∀ q b, P q b →
        ¬ Outlasts (s.asm b) (s.asm a) ∧ (q < p → Outlasts (s.asm a) (s.asm b)))

/-- A drawer after a close event (R72), with the stock and mismatch mark that the close leaves. -/
def closedWith (r : Drawer) (stock : Option Nat) (mismatch : Bool) : Drawer :=
  { r with
    state := .closed, attempts := 0, openReported := false, openTimer := 0, levelOpen := false, stock := stock,
    mismatch := mismatch }

/-- The close of a STOCK (R100) or a WITHDRAW (R102): completed, the assembly and the drawer name each other, or no longer
do, and both are dirtied; a STOCK of an assembly that is no longer READY-unstocked is abandoned with the mismatch mark set;
presence as before abandons it and leaves everything as it was. OP_DONE comes last (R94). -/
def Obligations.StockAndWithdrawEnd : Prop :=
  ∀ (d : Fin 64) (a : Nat) (rel : Option Bool) (o : Operation) (s : State), s.phase.active = true →
    (s.drawer d).levelOpen = true → s.op d = some o → a ≤ 511 → (s.drawer d).mismatch = false →
    (o = ⟨.stock, a, rel⟩ ∧ (s.drawer d).stock = none ∨
      o = ⟨.withdraw, a, rel⟩ ∧ (s.drawer d).stock = some a ∧ (s.asm a).stock = some d.val ∧
        ((s.asm a).state = .ready ∨ (s.asm a).state = .regrind)) →
    ∃ t, exec (.closeSeen d) s = .next t ∧ t.op d = none ∧ OtherOpsStay s t d ∧ OtherDrawersStay s t d ∧
      OthersStay s t a ∧ t.drc.queue = s.drc.queue ∧ t.drc.driver = s.drc.driver ∧
      t = { s with atb := t.atb, drc := t.drc, coc := t.coc, rst := t.rst, ports := t.ports } ∧
      (o.kind = .stock → (s.drawer d).present = true → (s.asm a).state = .ready → (s.asm a).stock = none →
        t.asm a = { s.asm a with stock := some d.val } ∧ t.drawer d = closedWith (s.drawer d) (some a) false ∧
        Dirties s t [a, 512 + d.val] ∧
        t.ports = (s.placed [(.C, .opDone ⟨d, o, .completed, some true, .ready, some true, some false⟩)]).ports) ∧
      (o.kind = .stock → (s.drawer d).present = true → ¬ ((s.asm a).state = .ready ∧ (s.asm a).stock = none) →
        t.asm a = s.asm a ∧ t.drawer d = closedWith (s.drawer d) none true ∧ Dirties s t [512 + d.val] ∧
        t.ports = (s.placed [(.C, .stockMismatch d none true), (.C, .opDone ⟨d, o, .abandoned, some true,
          (s.asm a).state, (s.asm a).stockedMark, some true⟩)]).ports) ∧
      (o.kind = .withdraw → (s.drawer d).present = false →
        t.asm a = { s.asm a with stock := none } ∧ t.drawer d = closedWith (s.drawer d) none false ∧
        Dirties s t [a, 512 + d.val] ∧
        t.ports = (s.placed [(.C, .opDone ⟨d, o, .completed, some false, (s.asm a).state, some false, none⟩)]).ports) ∧
      ((s.drawer d).present = decide (o.kind = .withdraw) →
        t.asm a = s.asm a ∧ t.drawer d = closedWith (s.drawer d) (s.drawer d).stock false ∧ t.rst = s.rst ∧
        t.ports = (s.placed [(.C, .opDone ⟨d, o, .abandoned, some (s.drawer d).present, (s.asm a).state,
          (s.asm a).stockedMark, if o.kind = .stock then some false else none⟩)]).ports)

/-- The close of an ISSUE: with presence absent it completes (R106), the assembly ISSUED and bound, the drawer empty, the
pocket BOUND, a linked entry removed with PICK_DONE, both records dirtied; with presence present it is undone (R107). The
pocket is signalled either way. -/
def Obligations.IssueEnds : Prop :=
  ∀ (d : Fin 64) (a c p : Nat) (link picked : Bool) (rel : Option Bool) (o : Operation) (s : State),
    s.phase.active = true → (s.drawer d).levelOpen = true → s.op d = some o → o = ⟨.issue c p link picked, a, rel⟩ →
    a ≤ 511 → c ≤ 15 → p ≤ 127 → (s.asm a).state = .issuing → (s.asm a).stock = some d.val →
    (s.drawer d).stock = some a →
    ∃ t, exec (.closeSeen d) s = .next t ∧ t.op d = none ∧ OtherOpsStay s t d ∧ OtherDrawersStay s t d ∧
      OthersStay s t a ∧ OtherPocketsStay s t c p ∧ (∀ e, t.profile e = s.profile e) ∧
      t.drc.queue = s.drc.queue ∧ t.drc.driver = s.drc.driver ∧ t.hob = (s.disturb (.pocket c p)).hob ∧
      t = { s with
        atb := t.atb, drc := t.drc, coc := t.coc, ctb := t.ctb, hob := t.hob, rst := t.rst, ports := t.ports } ∧
      ((s.drawer d).present = false →
        t.asm a = { s.asm a with
          state := .issued, prior := none, rejected := none, stock := none, binding := some (c, p) } ∧
        t.drawer d = closedWith (s.drawer d) none (s.drawer d).mismatch ∧ t.pocket c p = .bound a ∧
        t.picks = (if link then s.picks.filter fun k => ¬ (k.cell = c ∧ k.pocket = p) else s.picks) ∧
        Dirties s t [a, 512 + d.val] ∧
        ∀ n, n = Notice.opDone ⟨d, o, .completed, some false, .issued, none, none⟩ →
          (link = false → t.ports = (s.placed [(.M, .pocketChanged c p (.bound a)), (.C, n)]).ports) ∧
          ∀ k, link = true → findPick s.picks c p = some k → t.ports = (s.placed
            [(.M, .pickDone c p k.family k.origin a), (.M, .pocketChanged c p (.bound a)), (.C, n)]).ports) ∧
      ((s.drawer d).present = true →
        t.asm a = { s.asm a with state := .ready, prior := none, rejected := none, binding := none } ∧
        t.drawer d = closedWith (s.drawer d) (some a) (s.drawer d).mismatch ∧ t.pocket c p = .empty ∧
        t.picks = (if link then s.picks.map fun k => if k.cell = c ∧ k.pocket = p then { k with state := .waiting } else k
          else s.picks) ∧ t.rst = s.rst ∧
        t.ports = (s.placed [(.M, .pocketChanged c p .empty),
          (.C, .opDone ⟨d, o, .abandoned, some true, .ready, some true, none⟩)]).ports)

/-- The close of a RETURN: with presence present (R109) the binding goes and the pocket is EMPTY, a WAIT_EMPTY entry becomes
WAITING with PICK_READY, a staged limit is applied, the next state is REGRIND, UNMEASURED or READY by condition, wear and
mark, READY and REGRIND stocked in the drawer, UNMEASURED in none and the drawer's stock absent (R6, R8 and law L3; that they
bound R109 there is the model's choice, log 28), the pocket signalled, each record that changes dirtied (R68); with presence
absent (R110) the return is abandoned. -/
def Obligations.ReturnEnds : Prop :=
  ∀ (d : Fin 64) (a c p l w : Nat) (warned : Bool) (st : AsmState) (k : Condition) (rel : Option Bool) (o : Operation)
    (s : State), s.phase.active = true → (s.drawer d).levelOpen = true → s.op d = some o →
    o = ⟨.giveBack k, a, rel⟩ → a ≤ 511 → c ≤ 15 → p ≤ 127 →
    ((s.asm a).state = .issued ∨ (s.asm a).state = .exhausted) → (s.asm a).binding = some (c, p) →
    (s.drawer d).stock = none → (l, w) = (s.asm a).staged.getD ((s.asm a).limit, (s.asm a).warn) →
    warned = (if (s.asm a).staged.isSome then decide (l * 8 * w ≤ (s.asm a).used * 100) else (s.asm a).warned) →
    st = (if k = .damaged ∨ 8 * l ≤ (s.asm a).used then .regrind
      else if (s.asm a).markSet then .ready else .unmeasured) →
    ∃ t, exec (.closeSeen d) s = .next t ∧ t.op d = none ∧ OtherOpsStay s t d ∧ OtherDrawersStay s t d ∧
      OthersStay s t a ∧ OtherPocketsStay s t c p ∧ (∀ e, t.profile e = s.profile e) ∧
      t.drc.queue = s.drc.queue ∧ t.drc.driver = s.drc.driver ∧
      t = { s with
        atb := t.atb, drc := t.drc, coc := t.coc, ctb := t.ctb, hob := t.hob, rst := t.rst, ports := t.ports } ∧
      ((s.drawer d).present = true →
        t.asm a = { s.asm a with
          state := st, prior := none, geometry := (if st = .ready then (s.asm a).geometry else none),
          facts := (if st = .ready then (s.asm a).facts else none), rejected := none, limit := l, warn := w,
          staged := none, warned := warned,
          stock := (if st = .unmeasured then none else some d.val), binding := none } ∧
        t.drawer d = closedWith (s.drawer d) (if st = .unmeasured then none else some a) (s.drawer d).mismatch ∧
        t.pocket c p = .empty ∧ t.hob = (s.disturb (.pocket c p)).hob ∧
        Dirties s t (if st = .unmeasured then [a] else [a, 512 + d.val]) ∧
        ∀ n, n = Notice.opDone ⟨d, o, .completed, some true, st, (if st = .unmeasured then none else some true), none⟩ →
          (∀ e, findPick s.picks c p = some e → e.state = .waitEmpty →
            t.picks = s.picks.map (fun x => if x.cell = c ∧ x.pocket = p then { x with state := .waiting } else x) ∧
            t.ports = (s.placed [(.C, .pickReady c p e.family e.origin), (.M, .pocketChanged c p .empty),
              (.C, n)]).ports) ∧
          ((∀ e, findPick s.picks c p = some e → e.state ≠ .waitEmpty) →
            t.picks = s.picks ∧ t.ports = (s.placed [(.M, .pocketChanged c p .empty), (.C, n)]).ports)) ∧
      ((s.drawer d).present = false →
        t.atb = s.atb ∧ t.ctb = s.ctb ∧ t.hob = s.hob ∧ t.rst = s.rst ∧
        t.drawer d = closedWith (s.drawer d) none (s.drawer d).mismatch ∧
        t.ports = (s.placed [(.C, .opDone ⟨d, o, .abandoned, some false, (s.asm a).state, none, none⟩)]).ports)

/-! ### Tool life (Section 7) -/

/-- Life remaining of a record in a mode, with a limit and a used (R135). -/
def remainingOf (m : LifeMode) (limit used : Nat) : Option Nat :=
  if m = .none then none else some (if 8 * limit ≤ used then 0 else limit - used / 8)

/-- SET_LIFE (R144, R145, R146): on an unbound assembly mode, limit and percent act at once, the staged limit goes and the
warned mark is recomputed without a notice; on one that is ISSUING, ISSUED or EXHAUSTED, with its own mode, the values are
staged and nothing live changes. A change is dirtied; nothing is signalled. -/
def Obligations.SetLifeAppliesOrStages : Prop :=
  ∀ (a mode limit warn l w : Nat) (m : LifeMode) (warned : Bool) (tag : Byte) (r : AsmRecord) (s : State),
    s.taken .C (.setLife a mode limit warn) = some tag → a ≤ 511 → lifeModeOf mode = some m → r = s.asm a →
    r.state ≠ .vacant → l = min 4000000 (max 1 limit) → w = min 99 (max 50 warn) →
    warned = decide (l * 8 * w ≤ r.used * 100) →
    (r.state ≠ .issuing → r.state ≠ .issued → r.state ≠ .exhausted →
      ∃ t, exec (.setLife a mode limit warn) s = .next t ∧ OthersStay s t a ∧
        t.asm a = { r with
          mode := m, limit := l, warn := w, staged := none, warned := warned, idle := idleAfterC r } ∧
        ((m, l, w, none, warned) = (r.mode, r.limit, r.warn, r.staged, r.warned) → t.rst = s.rst) ∧
        ((m, l, w, none, warned) ≠ (r.mode, r.limit, r.warn, r.staged, r.warned) → Dirties s t [a]) ∧
        t = { s.replied .C (okReply tag (decide (l ≠ limit ∨ w ≠ warn)) (.lifeApplied
          ⟨m, l, w, none, r.used, r.committed, warned⟩ (remainingOf m l r.used))) with atb := t.atb, rst := t.rst }) ∧
    ((r.state = .issuing ∨ r.state = .issued ∨ r.state = .exhausted) →
      (m ≠ r.mode → exec (.setLife a mode limit warn) s =
        .next ((s.setAsm a { r with idle := idleAfterC r }).replied .C ⟨.wrongState, false, tag, .empty⟩)) ∧
      (m = r.mode → ∃ t, exec (.setLife a mode limit warn) s = .next t ∧ OthersStay s t a ∧
        t.asm a = { r with staged := some (l, w), idle := idleAfterC r } ∧
        (r.staged = some (l, w) → t.rst = s.rst) ∧ (r.staged ≠ some (l, w) → Dirties s t [a]) ∧
        t = { s.replied .C (okReply tag (decide (l ≠ limit ∨ w ≠ warn)) (.lifeStaged l w
          ⟨r.mode, r.limit, r.warn, some (l, w), r.used, r.committed, r.warned⟩)) with
          atb := t.atb, rst := t.rst }))

/-- USAGE on a BOUND pocket (R136 to R143, R126): in mode NONE it changes nothing; else used rises by the clamped,
weighted amount up to saturation (the reply carries the growth: log 29); the warned mark is set at the warning threshold and
an ISSUED assembly is EXHAUSTED at its limit, with their notices to ports C and M in order and the pocket signalled; the
record is dirtied for more than used, or when used has grown to the commit threshold.
Where the exhausted assembly has no sister pocket and no pick entry names its own, auto-request adds an AUTO entry, or port C
hears that the list is full. -/
def Obligations.UsageCountsWear : Prop :=
  ∀ (c p seconds count a u : Nat) (warn exh : Bool) (r q : AsmRecord) (tag : Byte) (s : State),
    s.taken .M (.usage c p seconds count) = some tag → c ≤ 15 → p ≤ 127 → p < (s.profile c).size →
    s.pocket c p = .bound a → a ≤ 511 → r = s.asm a → r.binding = some (c, p) →
    u = min 64000000 (r.used + (if r.mode = .count then min count 1000 else min seconds 3600) * (s.profile c).factor) →
    warn = (decide (r.limit * 8 * r.warn ≤ u * 100) && !r.warned) →
    exh = (decide (r.state = .issued) && decide (8 * r.limit ≤ u)) →
    q = { r with used := u, warned := r.warned || warn } →
    (r.mode = .none → exec (.usage c p seconds count) s = .next (s.replied .M (okReply tag
      (decide (3600 < seconds ∨ 1000 < count)) (.usage a r.state r.used (r.used / 8) none r.warned 0)))) ∧
    (r.mode ≠ .none → ∃ t, exec (.usage c p seconds count) s = .next t ∧ OthersStay s t a ∧
      t.asm a = (if exh then { q with state := .exhausted, prior := none, rejected := none, stock := none } else q) ∧
      (warn = true ∨ exh = true ∨ u ≠ r.used ∧ (r.limit + 7) / 8 ≤ u - r.committed → Dirties s t [a]) ∧
      (warn = false → exh = false → u = r.used ∨ u - r.committed < (r.limit + 7) / 8 → t.rst = s.rst) ∧
      t.hob = (if exh then (s.disturb (.pocket c p)).hob else s.hob) ∧ (exh = true → DisturbedBy s t (.pocket c p)) ∧
      t = { s with atb := t.atb, ctb := { s.ctb with picks := t.picks }, hob := t.hob, rst := t.rst, ports := t.ports } ∧
      ∀ (rep : Reply) (n : List (Port × Notice)), rep = okReply tag (decide (3600 < seconds ∨ 1000 < count))
          (.usage a (if exh then .exhausted else r.state) u (u / 8) (remainingOf r.mode r.limit u) (r.warned || warn)
            (u - r.used)) →
        n = (if warn then [(.C, .lifeWarning a c p (u / 8) r.limit r.warn (remainingOf r.mode r.limit u)),
            (.M, .lifeWarning a c p (u / 8) r.limit r.warn (remainingOf r.mode r.limit u))] else []) ++
          (if exh then [(.C, .lifeExhausted a c p r.family (u / 8) r.limit),
            (.M, .lifeExhausted a c p r.family (u / 8) r.limit)] else []) →
        ((exh = false ∨ r.family = none ∨ (s.profile c).autoRequest = false ∨
            (∃ k ∈ s.picks, k.cell = c ∧ k.pocket = p) ∨
            ∃ x b f, x < 128 ∧ s.pocket c x = .bound b ∧ b ≠ a ∧ r.family = some f ∧ (s.asm b).state = .issued ∧
              (s.asm b).family = some f ∧ (s.asm b).markSet = true) →
          t.picks = s.picks ∧ t.ports = ((s.placed n).replied .M rep).ports) ∧
        ∀ f, exh = true → r.family = some f → (s.profile c).autoRequest = true →
          (∀ k ∈ s.picks, ¬ (k.cell = c ∧ k.pocket = p)) →
          (∀ x b, x < 128 → s.pocket c x = .bound b → b ≠ a → (s.asm b).state = .issued → (s.asm b).family = some f →
            (s.asm b).markSet = false) →
          (s.picks.length < 32 → t.picks = s.picks ++ [⟨c, p, f, .auto, .waitEmpty⟩] ∧ t.ports =
            ((s.placed (n ++ [(.C, .pickAdded c p f .auto .waitEmpty (s.picks.length + 1))])).replied .M rep).ports) ∧
          (32 ≤ s.picks.length → t.picks = s.picks ∧
            t.ports = ((s.placed (n ++ [(.C, .pickRefused c p f a)])).replied .M rep).ports))

/-! ### Cells and the pick list (Section 6) -/

/-- WRITE_CELL (R116, R117): the profile takes the values, datum offset and life factor clamped; the map and the pick list
stay; the cell is dirtied, and its slots and buffer disturbed (R167). A signal of any of the three forms, a pocket, a cell or
all pockets, does at the Handoff Builder what `DisturbedBy` says, and nothing elsewhere: so wherever a statement names
`State.disturb`, it says this of its form. -/
def Obligations.ProfileIsWrittenWhole : Prop :=
  (∀ (c size unit form order factor auto : Nat) (datum : Int) (u : CellUnit) (f : RadiusForm) (o : ByteOrder) (q : Bool)
    (pr : Profile) (tag : Byte) (s : State), s.taken .C (.writeCell c size unit form order datum factor auto) = some tag →
    c ≤ 15 → size ≤ 128 → unitOf unit = some u → radiusFormOf form = some f → byteOrderOf order = some o →
    autoRequestOf auto = some q → (∀ p, size ≤ p → s.pocket c p = .empty) →
    (∀ k ∈ s.picks, k.cell = c → k.pocket < size) →
    pr = ⟨size, u, f, o, max (-1000000) (min 1000000 datum), max 4 (min 16 factor), q⟩ →
    ∃ t, exec (.writeCell c size unit form order datum factor auto) s = .next t ∧ t.profile c = pr ∧
      (∀ e, e ≠ c → t.profile e = s.profile e) ∧ (∀ e p, t.pocket e p = s.pocket e p) ∧ t.picks = s.picks ∧
      Dirties s t [576 + c] ∧ DisturbedBy s t (.cell c) ∧
      t = { s.replied .C (okReply tag (decide (pr.datum ≠ datum ∨ pr.factor ≠ factor)) (.profile pr)) with
        ctb := t.ctb, hob := t.hob, rst := t.rst }) ∧
  ∀ (g : Signal) (s : State), DisturbedBy s (s.disturb g) g ∧ s.disturb g = { s with hob := (s.disturb g).hob }

/-- REQUEST_TOOL (R123) appends a MACHINE entry, WAIT_EMPTY for a BOUND pocket and WAITING for an EMPTY one, with PICK_ADDED
to port C; WITHDRAW_REQUEST (R125) removes an entry that is not IN_ISSUE, with PICK_WITHDRAWN. Nothing else changes. -/
def Obligations.ToolRequestsJoinAndLeave : Prop :=
  ∀ (c p f : Nat) (st : PickState) (tag : Byte) (s : State), c ≤ 15 → p ≤ 127 →
    (s.taken .M (.requestTool c p f) = some tag → 1 ≤ f → f ≤ 255 → p < (s.profile c).size →
      (s.pocket c p = .empty ∧ st = .waiting ∨ (∃ a, s.pocket c p = .bound a) ∧ st = .waitEmpty) →
      (∀ k ∈ s.picks, ¬ (k.cell = c ∧ k.pocket = p)) → s.picks.length < 32 →
      exec (.requestTool c p f) s = .next (((s.setPicks (s.picks ++ [⟨c, p, f, .machine, st⟩])).placed
        [(.C, .pickAdded c p f .machine st (s.picks.length + 1))]).replied .M
          (okReply tag false (.pickEntry c p st (s.picks.length + 1))))) ∧
    (∀ k, s.taken .M (.withdrawRequest c p) = some tag → findPick s.picks c p = some k → k.state ≠ .inIssue →
      exec (.withdrawRequest c p) s = .next (((s.setPicks (s.picks.filter fun x => ¬ (x.cell = c ∧ x.pocket = p))).placed
        [(.C, .pickWithdrawn c p k.family k.origin k.state)]).replied .M (okReply tag false .empty)))

/-! ### Handoff blocks (Section 8) -/

/-- The identity `i` is what R150 decodes from a cell, a start and a size: the size the greatest power of two up to 32 that
the size reaches, the start the greatest multiple of it that the start reaches. -/
def Decodes (c start size : Nat) (i : Ident) : Prop :=
  i.cell = c ∧ (∃ e, e ≤ 5 ∧ i.size = 2 ^ e) ∧ i.size ≤ size ∧ (size < 2 * i.size ∨ i.size = 32) ∧ i.size ∣ i.start ∧
    i.start ≤ start ∧ start < i.start + i.size

/-- HANDOFF of an identity that is not yet built (R150, R151, R158, R161): RETRY from the slot that builds it; else, when the
cell's buffer is not VALID for it, the lowest FREE slot takes it, its build queued behind a busy builder or taken by an
idle one; else BUSY. A buffer that holds the identity the slot takes becomes EMPTY; its build is taken out of the queue, and
one being formed is abandoned, the builder taking its next build (R161, R162). -/
def Obligations.HandoffTakesASlot : Prop :=
  ∀ (c start size : Nat) (i : Ident) (tag : Byte) (s : State), s.taken .M (.handoff c start size) = some tag → c ≤ 15 →
    start ≤ 127 → 1 ≤ size → 1 ≤ (s.profile c).size → Decodes c start size i →
    (∀ m h, s.slot m = .building h → h.ident = i → (∀ n, (s.slot n).ident = some i → n = m) →
      exec (.handoff c start size) s =
        .next (s.replied .M ⟨.retry, false, tag, .retry i m h.rebuilds (s.formingSlot m)⟩)) ∧
    ((∀ n, (s.slot n).ident ≠ some i) → (∀ b, s.buffer c ≠ .valid i b) →
      ((∀ n, n < 4 → s.slot n ≠ .free) → exec (.handoff c start size) s =
        .next (s.replied .M ⟨.busy, false, tag, .identity i⟩)) ∧
      ∀ (m : Nat) (slots : Nat → Slot) (q r : List Nat), m < 4 → s.slot m = .free → (∀ n, n < m → s.slot n ≠ .free) →
        slots = (fun n => if n = m then .building ⟨i, 0, List.replicate i.size false⟩ else s.slot n) →
        q = s.hob.slotBuilds ++ [m] →
        r = (if (s.buffer c).ident = some i then s.hob.readAheads.filter fun e => e ≠ c else s.hob.readAheads) →
        ∃ t, exec (.handoff c start size) s = .next t ∧ t = { s with hob := t.hob, ports := t.ports } ∧
          t.ports = (s.replied .M ⟨.retry, false, tag, .retry i m 0 (t.formingSlot m)⟩).ports ∧
          (∀ e, t.buffer e = if e = c ∧ (s.buffer c).ident = some i then .empty else s.buffer e) ∧
          (s.hob.builder.isSome = true → ((s.buffer c).ident ≠ some i ∨ s.formingReadAhead c = false) →
            (∀ n, t.slot n = slots n) ∧ t.hob = { s.hob with
              slots := t.hob.slots, buffers := t.hob.buffers, slotBuilds := q, readAheads := r }) ∧
          (s.hob.builder = none ∨ (s.buffer c).ident = some i ∧ s.formingReadAhead c = true →
            TakesNext s t slots q r))

/-- What a delivery of `i` leaves for the next span of the cell (R171), the slots being `slots` and the cell's buffer `buf` by
then: nothing when a slot holds that span; else the buffer PENDING for it, whatever it held, a read-ahead build of the cell
that waits taken out and one being formed abandoned, and the new build last of the read-ahead builds, taken by an idle
builder. -/
def ReadsNextAhead (s t : State) (i : Ident) (buf : Buffer) (slots : Nat → Slot) : Prop :=
  ∀ (j : Ident) (r : List Nat), j = ⟨i.cell, (i.start + i.size) % 128, i.size⟩ →
    r = (s.hob.readAheads.filter fun e => e ≠ i.cell) ++ [i.cell] → (∀ e, e ≠ i.cell → t.buffer e = s.buffer e) ∧
    ((∃ n, (s.slot n).ident = some j) → t.buffer i.cell = buf ∧ (∀ n, t.slot n = slots n) ∧
      t.hob = { s.hob with slots := t.hob.slots, buffers := t.hob.buffers }) ∧
    ((∀ n, (s.slot n).ident ≠ some j) → t.buffer i.cell = .pending j ∧
      (s.hob.builder.isSome = true → s.formingReadAhead i.cell = false → (∀ n, t.slot n = slots n) ∧
        t.hob = { s.hob with slots := t.hob.slots, buffers := t.hob.buffers, readAheads := r }) ∧
      (s.hob.builder = none ∨ s.formingReadAhead i.cell = true → TakesNext s t slots s.hob.slotBuilds r))

/-- HANDOFF of an identity that is built (R158, R159, R160, R173): a COMPLETE slot with clear marks, or at rebuild count 3,
delivers its block, marked entries UNSETTLED with the assembly that the pocket map names and the byte order of the profile,
and is FREE; one with a mark below 3 is queued to be built again and answers RETRY; a VALID buffer delivers its block. Each
delivery reads the next span ahead, abandoning a read-ahead build of the cell that is being formed (R171). -/
def Obligations.HandoffDelivers : Prop :=
  ∀ (c start size m : Nat) (i : Ident) (b : Block) (tag : Byte) (s : State),
    s.taken .M (.handoff c start size) = some tag → c ≤ 15 → start ≤ 127 → 1 ≤ size → 1 ≤ (s.profile c).size →
    Decodes c start size i →
    (∀ h x, s.slot m = .complete h b x → h.ident = i → (∀ n, (s.slot n).ident = some i → n = m) →
      ∃ t, exec (.handoff c start size) s = .next t ∧ t = { s with hob := t.hob, ports := t.ports } ∧
        (∀ slots : Nat → Slot, slots = (fun n => if n = m then .free else s.slot n) →
          (true ∉ h.marks → ReadsNextAhead s t i (s.buffer c) slots ∧
            t.ports = (s.replied .M (okReply tag false (.block h.rebuilds b))).ports) ∧
          (true ∈ h.marks → 3 ≤ h.rebuilds → ReadsNextAhead s t i (s.buffer c) slots ∧
            ∃ l, t.ports = (s.replied .M (okReply tag false (.block h.rebuilds
                { b with order := (s.profile c).order, entries := l }))).ports ∧ l.length = b.entries.length ∧
              ∀ k, k < b.entries.length → k < h.marks.length → l[k]? = if h.marks[k]? = some true then
                some ⟨.unsettled, (match s.pocket c (i.start + k) with
                  | .empty => none
                  | .reserved a => some a
                  | .bound a => some a), none, none, none, none, false⟩ else b.entries[k]?)) ∧
        (true ∈ h.marks → h.rebuilds < 3 → (∀ e, t.buffer e = s.buffer e) ∧
          t.ports = (s.replied .M ⟨.retry, false, tag, .retry i m (h.rebuilds + 1) (t.formingSlot m)⟩).ports ∧
          ∀ slots : Nat → Slot,
            slots = (fun n => if n = m then .building { h with rebuilds := h.rebuilds + 1 } else s.slot n) →
            (s.hob.builder.isSome = true → (∀ n, t.slot n = slots n) ∧
              t.hob = { s.hob with slots := t.hob.slots, slotBuilds := s.hob.slotBuilds ++ [m] }) ∧
            (s.hob.builder = none → TakesNext s t slots (s.hob.slotBuilds ++ [m]) s.hob.readAheads))) ∧
    (s.buffer c = .valid i b → (∀ n, (s.slot n).ident ≠ some i) →
      ∃ t, exec (.handoff c start size) s = .next t ∧ ReadsNextAhead s t i .empty s.slot ∧
        t = { s with hob := t.hob, ports := t.ports } ∧
        t.ports = (s.replied .M (okReply tag false (.block 0 b))).ports)

/-- ENTRY_FORMATION (R163, R153, R154, R156): the entry of the next pocket joins the block, its status by the tests in order
on the pocket map and the bound assembly as they stand, with the fields that status has; nothing else changes. That the
builder goes on in a drain is the model's reading (log 26). -/
def Obligations.EntriesAreFormedInOrder : Prop :=
  ∀ (b : Build) (c p : Nat) (s : State), s.phase.active = true → s.hob.builder = some b → c = b.block.ident.cell →
    b.block.entries.length < b.block.ident.size → p = b.block.ident.start + b.block.entries.length →
    ∃ e : Entry, exec .entryFormation s = .next (s.setHob { s.hob with
        builder := some { b with block := { b.block with entries := b.block.entries ++ [e] } } }) ∧
      ((s.profile c).size ≤ p → e = ⟨.absentPocket, none, none, none, none, none, false⟩) ∧
      (p < (s.profile c).size →
        (s.pocket c p = .empty → e = ⟨.empty, none, none, none, none, none, false⟩) ∧
        (∀ a, s.pocket c p = .reserved a → e = ⟨.reserved, some a, none, none, none, none, false⟩) ∧
        ∀ a, s.pocket c p = .bound a →
          ((s.asm a).markSet = false → e = ⟨.suspect, some a, none, none, none, none, false⟩) ∧
          ∀ (g : Geometry) (x y : Int), (s.asm a).markSet = true → (s.asm a).geometry = some g →
            x = convertLength b.block.unit b.datum g → y = convertRadius b.block.unit b.block.form g →
            e = ⟨if (s.asm a).state = .exhausted then .exhausted else .ok, some a,
              some (max (-9999999) (min 9999999 x)), some (max (-9999999) (min 9999999 y)),
              remainingOf (s.asm a).mode (s.asm a).limit (s.asm a).used,
              if (s.asm a).state = .exhausted then s.chooseSisterPocket c (s.asm a).family else none,
              decide (9999999 < x ∨ x < -9999999 ∨ 9999999 < y ∨ y < -9999999)⟩)

/-- The completion of a build (R164, R165, R172) and DISCARD_EXPIRY (R169): a slot with clear marks, or at rebuild count 3, is
COMPLETE with the block; with a mark below 3 its rebuild count rises by 1 and its build joins the tail of the slot builds; a
PENDING buffer is VALID. Either way the idle builder takes its next build, of a slot before one read ahead (R162), and nothing
else changes. A COMPLETE slot whose discard timer is at the limit is FREE. That a build completes in its own event once every
entry is formed is log 16, that the builder goes on in a drain log 26, and that DISCARD_EXPIRY changes nothing while the timer
is below the limit or the slot is not COMPLETE logs 4 and 16. -/
def Obligations.BuildsComplete : Prop :=
  ∀ (b : Build) (s : State), s.phase.active = true →
    (s.hob.builder = some b → b.block.ident.size ≤ b.block.entries.length →
      (∀ (n : Nat) (h : Held), n < 4 → b.target = .slot n → s.slot n = .building h →
        ∃ t, exec .slotBuildCompletion s = .next t ∧ t = { s with hob := t.hob } ∧ (∀ e, t.buffer e = s.buffer e) ∧
          (true ∉ h.marks ∨ 3 ≤ h.rebuilds → ∀ slots : Nat → Slot,
            slots = (fun m => if m = n then .complete h b.block 0 else s.slot m) →
            TakesNext s t slots s.hob.slotBuilds s.hob.readAheads) ∧
          (true ∈ h.marks → h.rebuilds < 3 → ∀ slots : Nat → Slot,
            slots = (fun m => if m = n then .building { h with rebuilds := h.rebuilds + 1 } else s.slot m) →
            TakesNext s t slots (s.hob.slotBuilds ++ [n]) s.hob.readAheads)) ∧
      (∀ (c : Nat) (i : Ident), b.target = .readAhead c → s.buffer c = .pending i →
        ∃ t, exec .readAheadBuildCompletion s = .next t ∧ t = { s with hob := t.hob } ∧
          (∀ e, t.buffer e = if e = c then .valid i b.block else s.buffer e) ∧
          TakesNext s t s.slot s.hob.slotBuilds s.hob.readAheads)) ∧
    ∀ n : Fin 4, ((∃ h k x, s.slot n = .complete h k x ∧ s.params.discardLimit ≤ x) →
        exec (.discardExpiry n) s = .next (s.setSlot n .free)) ∧
      ((∀ h k x, s.slot n = .complete h k x → x < s.params.discardLimit) → exec (.discardExpiry n) s = .next s)

/-! ### The Record Store and the load (Section 9) -/

/-- COMMIT_COMPLETION in normal operation, and in a drain with keys still to commit (R180, R179, R188): the page holds the
snapshot, committed used of an assembly is the used that was written, a redirtied key joins the tail, and the engine takes the
next head with its record's view. (The completion that ends a drain: `RestartDrainsAndLoads`.) -/
def Obligations.CommitCompletionWritesThePage : Prop :=
  ∀ (c : Commit) (q : List Nat) (s : State), (s.phase = .running ∨ s.phase = .drain ∧ q ≠ []) → s.rst.flight = some c →
    c.key ≤ 597 → q = s.rst.queue ++ (if c.redirty = true ∧ c.key ∉ s.rst.queue then [c.key] else []) →
    ∃ t, exec .commitCompletion s = .next t ∧ t.page c.key = .whole c.key c.snapshot ∧
      (∀ k, k ≠ c.key → t.page k = s.page k) ∧ OthersStay s t c.key ∧
      (∀ r, c.snapshot = .asm r → c.key ≤ 511 → t.asm c.key = { s.asm c.key with committed := r.used }) ∧
      ((∀ r, c.snapshot ≠ .asm r) ∨ 512 ≤ c.key → t.atb = s.atb) ∧
      (q = [] → t.rst.queue = [] ∧ t.rst.flight = none) ∧
      (∀ k l, q = k :: l → t.rst.queue = l ∧ t.rst.flight = some ⟨k, s.viewOf k, false⟩) ∧
      t = { s with atb := t.atb, rst := t.rst }

/-- What stands at the beginning of a load (R182, R183, R23, R65, R66, R89, R90, R91, R121, R122, R175): every volatile thing
empty or at rest, every record as its page gives it, the pages as they were, the switch levels as they are. That the records
stand so from the beginning of the load, which reads the pages one by one, is the model's choice (log 21). A page is blank,
passes its check with its view, or fails (R176, R177). -/
def LoadBegun (s t : State) (cause : Cause) : Prop :=
  t.phase = .load cause ∧ t.rst = ⟨s.rst.pages, [], none⟩ ∧ t.ocu = none ∧ t.picks = [] ∧ (∀ d, t.op d = none) ∧
    t.drc.queue = [] ∧ t.drc.driver = ⟨none, false, 0, 0, 0, 0⟩ ∧ (∀ c p, t.pocket c p = .empty) ∧
    (∀ n, t.slot n = .free) ∧ (∀ c, t.buffer c = .empty) ∧
    t.hob = { t.hob with slotBuilds := [], readAheads := [], builder := none } ∧ t.rfs.staged = none ∧
    (∀ a, a < 512 → (s.page a = .blank → t.asm a = blankRecord .vacant) ∧
      (s.readPage a = .failed → t.asm a = blankRecord .lost) ∧
      ∀ r, s.page a = .whole a (.asm r) → t.asm a = r.view) ∧
    (∀ d, d < 64 → ∀ st m, (s.page (512 + d) = .blank ∧ st = none ∧ m = false ∨
        s.readPage (512 + d) = .failed ∧ st = none ∧ m = true ∨ s.page (512 + d) = .whole (512 + d) (.drawer st m)) →
      t.drawer d = { restDrawer (s.drawer d).levelOpen (s.drawer d).present with stock := st, mismatch := m }) ∧
    (∀ c, c < 16 → ∀ pr, ((s.page (576 + c) = .blank ∨ s.readPage (576 + c) = .failed) ∧ pr = defaultProfile ∨
        s.page (576 + c) = .whole (576 + c) (.cell pr)) → t.profile c = pr) ∧
    (∀ k, k < 4 → ∀ r, (s.page (592 + k) = .blank ∧ r = .blank ∨ s.readPage (592 + k) = .failed ∧ r = .invalid ∨
        s.page (592 + k) = .whole (592 + k) (.ref r)) → t.refSet k = r) ∧
    (∀ c n, ((s.page 596 = .blank ∨ s.readPage 596 = .failed) ∧ c = tgen 9 (fun _ => 0) ∧ n = none ∨
        s.page 596 = .whole 596 (.curve c n)) → t.rfs.curve = c ∧ t.rfs.active = n) ∧
    (∀ pr, ((s.page 597 = .blank ∨ s.readPage 597 = .failed) ∧ pr = defaultParams ∨
        s.page 597 = .whole 597 (.params pr)) → t.params = pr) ∧
    (∀ p, (t.port p).notices = [] ∧ (t.port p).overflow = false) ∧ t.pending = s.pending

/-- RESTART (R187, R188, R193, R194): accepted with no session open and no drawer PULSING, OPEN or in an operation, its reply
is kept and requests that wait at ports P and M are answered LOADING; the drain begins, and ends in the load at once when
nothing is to be committed, or in the completion of the last commit (log 18); that the load has read every page at its
beginning is the model's choice (log 21). Otherwise it is refused with BUSY and its reason. -/
def Obligations.RestartDrainsAndLoads : Prop :=
  ∀ (tag : Byte) (s : State),
    (s.taken .C .restart = some tag →
      (s.ocu ≠ none → exec .restart s = .next (s.replied .C ⟨.busy, false, tag, .restartRefused none⟩)) ∧
      (∀ d, s.ocu = none → d < 64 → s.busyDrawer d = true → (∀ e, e < d → s.busyDrawer e = false) →
        exec .restart s = .next (s.replied .C ⟨.busy, false, tag, .restartRefused (some d)⟩)) ∧
      (s.ocu = none → (∀ d, d < 64 → (s.drawer d).state ≠ .pulsing ∧ (s.drawer d).state ≠ .opened ∧ s.op d = none) →
        ∃ t, exec .restart s = .next t ∧ (t.port .C).keep = true ∧
          (t.port .C).buf =
            .held (okReply tag false (.restartAccepted s.rst.queue.length s.rst.flight.isSome)) ∧
          (∀ p, p ≠ .C → (s.port p).keep = false → ∀ g j, (s.port p).buf = .pending g j →
            (t.port p).buf = .held ⟨.loading, false, g, .phase true⟩) ∧
          (∀ p, p ≠ .C → (∀ g j, (s.port p).buf ≠ .pending g j) → (t.port p).buf = (s.port p).buf) ∧
          (s.rst.queue ≠ [] ∨ s.rst.flight ≠ none → t = { s with phase := .drain, ports := t.ports } ∧
            ∀ p, (t.port p).notices = (s.port p).notices ∧ (t.port p).overflow = (s.port p).overflow) ∧
          (s.rst.queue = [] → s.rst.flight = none → LoadBegun s t .restart ∧ t.pins = s.pins))) ∧
    (∀ c, s.phase = .drain → s.rst.flight = some c → s.rst.queue = [] → c.redirty = false → c.key ≤ 597 →
      ∃ t, exec .commitCompletion s = .next t ∧
        LoadBegun (s.setPage c.key (.whole c.key c.snapshot)) t .restart ∧ t.pins = s.pins ∧
        ∀ p, (t.port p).buf = (s.port p).buf ∧ (t.port p).keep = (s.port p).keep)

/-- Power and the reset input (R181, R182, R189, R194): POWER_ON of a part without power and RESET_INPUT_RELEASED of a held
one begin a load, every buffer of every port empty; POWER_LOSS and RESET_INPUT_ASSERTED end a commit in flight, whose page is
then the former content, the snapshot or mixed content, and lose the queue; every other page stays. Power can go while the
reset input is low, and the reset input move without power. With the reset input low data out of every port is held high
(FFh, log 7), and POWER_ON leaves the part held (log 25). That the load has read every page at its beginning is log 21, and
that the records stand without power and in a reset, where no request can read them, log 22. -/
def Obligations.PowerAndResetMoveThePhase : Prop :=
  ∀ (i : Instr) (o : PageOutcome) (s : State),
    (s.phase = .off → s.pins.resetAsserted = false → ∃ t, exec .powerOn s = .next t ∧ LoadBegun s t .powerOn ∧
      t.pins = s.pins ∧ ∀ p, (t.port p).buf = .empty ∧ (t.port p).keep = false) ∧
    (s.phase = .off → s.pins.resetAsserted = true → ∃ t, exec .powerOn s = .next t ∧
      t = { s with phase := .held, ports := t.ports } ∧
      ∀ p, t.port p = { s.port p with dataOut := [0xFF] }) ∧
    (s.phase = .held → ∃ t, exec .resetInputReleased s = .next t ∧ LoadBegun s t .resetInput ∧
      t.pins = { s.pins with resetAsserted := false } ∧ ∀ p, (t.port p).buf = .empty ∧ (t.port p).keep = false) ∧
    (s.phase = .off → exec (.resetInputAsserted o) s = .next { s with pins := { s.pins with resetAsserted := true } } ∧
      exec .resetInputReleased s = .next { s with pins := { s.pins with resetAsserted := false } }) ∧
    ((i = .powerLoss o ∨ i = .resetInputAsserted o ∧ s.phase ≠ .held) → s.phase ≠ .off → ∃ t, exec i s = .next t ∧
      t.phase = (if i = .powerLoss o then .off else .held) ∧
      t.pins = (if i = .powerLoss o then s.pins else { s.pins with resetAsserted := true }) ∧
      (∀ p, t.port p = if i = .powerLoss o then s.port p else { s.port p with dataOut := [0xFF] }) ∧
      t.rst.queue = [] ∧ t.rst.flight = none ∧
      t = { s with rst := t.rst, phase := t.phase, pins := t.pins, ports := t.ports } ∧
      (s.rst.flight = none → t.rst.pages = s.rst.pages) ∧
      ∀ c, s.rst.flight = some c → c.key ≤ 597 → (∀ k, k ≠ c.key → t.page k = s.page k) ∧
        t.page c.key = match o with
          | .former => s.page c.key
          | .snapshot => .whole c.key c.snapshot
          | .mixed => .mixed)

/-- LOAD_END (R184, R186, R89, R66, R194): normal operation begins with STARTED in each notice queue; each drawer is OPEN or
CLOSED as its open level says, the open timer from 0; an uncertified active set becomes none. STARTED counts the failed pages
by kind of key (Table 9.5): the pages that are neither blank nor pass their check (R176, R177). That a page passes when it
holds its own key, a view of that key's kind, and the value `checkValue` forms over both, is the model's layout (log 11). The key of every failed page is among the keys
to write, and so is the curve record when the active set is lost; no key is whose page passed and whose record no
cross-check changed. They stand in ascending order behind the one taken, as many as STARTED counts. -/
def Obligations.LoadEndStartsThePart : Prop :=
  ∀ (cause : Cause) (s : State), s.phase = .load cause → s.rst.queue = [] → s.rst.flight = none →
    (∀ p, (s.port p).notices = []) →
    (∀ k, s.readPage k = .failed ↔ s.page k = .mixed ∨
      ∃ j v c, s.page k = .written j v c ∧ (j ≠ k ∨ v.fits k = false ∨ c ≠ checkValue j v)) ∧
    ∃ (t : State) (n : Started), exec .loadEnd s = .next t ∧ t.phase = .running ∧ n.cause = cause ∧
      (∀ failed : Nat → Nat → Nat, (∀ lo m, failed lo m =
          ((List.range m).filter fun k => s.readPage (lo + k) = .failed).length) →
        n.asm = failed 0 512 ∧ n.drawer = failed 512 64 ∧ n.cell = failed 576 16 ∧ n.ref = failed 592 4 ∧
          n.curve = failed 596 1 ∧ n.params = failed 597 1) ∧
      (∀ p, (t.port p).notices = [.started n] ∧ (t.port p).buf = (s.port p).buf ∧
        (t.port p).overflow = (s.port p).overflow) ∧ (t.port .C).keep = false ∧
      (∀ d, d < 64 → (t.drawer d).state = (if (s.drawer d).levelOpen then .opened else .closed) ∧
        ((s.drawer d).levelOpen = true → (t.drawer d).openTimer = 0)) ∧
      (∀ k, s.rfs.active = some k → t.rfs.active = if (s.refSet k).certified then some k else none) ∧
      (s.rfs.active = none → t.rfs.active = none) ∧ t.rfs = { s.rfs with active := t.rfs.active } ∧
      t.rst.pages = s.rst.pages ∧ (∀ k, k < 598 → s.readPage k = .failed → t.willWrite k) ∧
      (t.rfs.active ≠ s.rfs.active → t.willWrite curveKey) ∧
      (∀ k, t.queued k → s.readPage k = .failed ∨ k < 512 ∧ (t.asm k).view ≠ (s.asm k).view ∨
        (∃ d, d < 64 ∧ k = 512 + d ∧ ((t.drawer d).stock ≠ (s.drawer d).stock ∨
          (t.drawer d).mismatch ≠ (s.drawer d).mismatch ∨ (s.drawer d).levelOpen = false ∧
            (s.drawer d).mismatch ≠ decide ((s.drawer d).present ≠ (s.drawer d).stock.isSome))) ∨
        k = curveKey ∧ t.rfs.active ≠ s.rfs.active) ∧
      (n.keys = 0 → t.rst.flight = none ∧ t.rst.queue = []) ∧
      (∀ c, t.rst.flight = some c → c.snapshot = t.viewOf c.key ∧ c.redirty = false ∧
        n.keys = t.rst.queue.length + 1 ∧ (c.key :: t.rst.queue).Pairwise (· < ·)) ∧
      (t.rst.flight = none → n.keys = 0) ∧
      t = { s with
        atb := t.atb, drc := t.drc, ctb := t.ctb, rfs := t.rfs, rst := t.rst, ports := t.ports, phase := .running }

/-- The record is bound in a pocket. -/
def BoundAt (r : AsmRecord) (c p : Nat) : Prop :=
  (r.state = .issued ∨ r.state = .exhausted) ∧ r.binding = some (c, p)

/-- The load keeps the binding of record `a` (R24): its pocket is in service, and no record with a lower number is bound in
it. -/
def KeepsBinding (s : State) (a c p : Nat) : Prop :=
  BoundAt (s.asm a) c p ∧ p < (s.profile c).size ∧ ∀ b, b < a → ¬ BoundAt (s.asm b) c p

/-- The load keeps assembly `a` as the stock of drawer `d` (R185): each names the other, and the assembly is READY or
REGRIND. -/
def KeepsStock (s : State) (d a : Nat) : Prop :=
  (s.drawer d).stock = some a ∧ (s.asm a).stock = some d ∧ ((s.asm a).state = .ready ∨ (s.asm a).state = .regrind)

/-- LOAD_END settles the records (R184, R185, R24, R89, laws L1 and L3). Of the records bound in one pocket in service the
lowest-numbered keeps its binding, and the pocket is BOUND with it; every other ISSUED or EXHAUSTED record is LOST, keeping
its family, nominals and life fields; every other pocket is EMPTY. A stock that drawer and assembly agree on, the assembly
READY or REGRIND, is kept on both sides, every other is cleared. The mismatch mark of a CLOSED drawer is set by its
presence against the stock of its page, that of an OPEN one is its page's, and it is set where a stock was cleared on either
side. A record measured with an INVALID set loses its mark. Nothing else in a record changes, and every record changed is
dirtied (R186). -/
def Obligations.LoadEndSettlesTheRecords : Prop :=
  ∀ (cause : Cause) (s : State), s.phase = .load cause → (∀ c p, s.pocket c p = .empty) →
    (∀ c, (s.profile c).size ≤ 128) →
    (∀ a, (s.asm a).stock ≠ none → (s.asm a).state ≠ .issued ∧ (s.asm a).state ≠ .exhausted) →
    ∃ t, exec .loadEnd s = .next t ∧ (∀ c, t.profile c = s.profile c) ∧
      (∀ a c p, KeepsBinding s a c p → BoundAt (t.asm a) c p ∧ (t.asm a).state = (s.asm a).state ∧
        t.pocket c p = .bound a) ∧
      (∀ c p, (∀ a, ¬ KeepsBinding s a c p) → t.pocket c p = .empty) ∧
      (∀ a, a < 512 → ((s.asm a).state = .issued ∨ (s.asm a).state = .exhausted) → (∀ c p, ¬ KeepsBinding s a c p) →
        t.asm a = { s.asm a with
          state := .lost, prior := none, geometry := none, facts := none, rejected := none, stock := none,
          binding := none }) ∧
      (∀ a, a < 512 → ((s.asm a).state ≠ .issued ∧ (s.asm a).state ≠ .exhausted ∨ ∃ c p, KeepsBinding s a c p) →
        t.asm a = { s.asm a with facts := (t.asm a).facts, stock := (t.asm a).stock } ∧
        (t.asm a).facts = (s.asm a).facts.map fun f =>
          if s.refSet f.refSet = .invalid then { f with current := false } else f) ∧
      (∀ d a, (t.drawer d).stock = some a ↔ KeepsStock s d a) ∧
      (∀ a d, (t.asm a).stock = some d ↔ KeepsStock s d a) ∧
      (∀ d, d < 64 → ((t.drawer d).mismatch = true ↔
        (s.drawer d).levelOpen = true ∧ (s.drawer d).mismatch = true ∨
        (s.drawer d).levelOpen = false ∧ (s.drawer d).present ≠ (s.drawer d).stock.isSome ∨
        (∃ a, (s.drawer d).stock = some a ∧ ¬ KeepsStock s d a) ∨
        ∃ a, (s.asm a).stock = some d ∧ ¬ KeepsStock s d a)) ∧
      (∀ a, a < 512 → (t.asm a).view ≠ (s.asm a).view → t.willWrite a) ∧
      ∀ d, d < 64 → ((t.drawer d).stock ≠ (s.drawer d).stock ∨ (t.drawer d).mismatch ≠ (s.drawer d).mismatch) →
        t.willWrite (512 + d)

/-! ### What every step keeps -/

/-- Every step keeps the bounds of the lists of the part: 16 notices a port (R197), the keep of a RESTART reply at port C
alone (R194), 8 readings in range (R25, R31), 32 pick entries, one a pocket (R122). -/
def Obligations.EveryStepKeepsTheListLaws : Prop :=
  ∀ s t : State, step s = .next t → (NoticeLaw s → NoticeLaw t) ∧ (KeepLaw s → KeepLaw t) ∧
    (ReadingLaw s → ReadingLaw t) ∧ (PickLaw s → PickLaw t)

/-- Every step keeps the laws of the stores and the slots: law L12 (R178 to R180), the bound of used of law L9 (R138), one
holder for an identity of law L10 (R157), a certified active set (R60, R61). -/
def Obligations.EveryStepKeepsTheStoreLaws : Prop :=
  ∀ s t : State, step s = .next t → (CommitLaw s → CommitLaw t) ∧ (UsedLaw s → UsedLaw t) ∧
    (SlotLaw s → SlotLaw t) ∧ (ActiveLaw s → ActiveLaw t)

/-- Every step keeps law L4: one drawer PULSING with the driver, the queue of the QUEUED drawers, at most 8 drawers in the
release set, none in FAULT (R74, R81). -/
def Obligations.EveryStepKeepsTheReleaseLaw : Prop := ∀ s t : State, step s = .next t → ReleaseLaw s → ReleaseLaw t

/-- Every step keeps law L5 together with the operations: one MEASURING record, the session's, locked by port P (R17, R25);
each assembly in one operation, an issue's ISSUING, a return's bound (R92, R104, R108). -/
def Obligations.EveryStepKeepsTheSessionAndOperationLaws : Prop :=
  ∀ s t : State, step s = .next t → SessionLaw s → OperationLaw s → SessionLaw t ∧ OperationLaw t

/-- Every step answers a next state, so every run of every length from every state is safe: no rule stops the part. The state
after reset meets the laws that every step keeps (the base case of the four statements above). -/
def Obligations.EveryStepAnswersAndResetMeetsTheLaws : Prop :=
  (∀ s, ∃ t, step s = .next t) ∧ (∀ k s, Safe k s) ∧
    NoticeLaw State.reset ∧ KeepLaw State.reset ∧ ReadingLaw State.reset ∧ PickLaw State.reset ∧ CommitLaw State.reset ∧
    UsedLaw State.reset ∧ SlotLaw State.reset ∧ ActiveLaw State.reset ∧ ReleaseLaw State.reset ∧
    SessionLaw State.reset ∧ OperationLaw State.reset
end

