-- ==== Sys2Proof/Laws/State.lean ====
section
/-! SUPPORT. For each update of Machine/Ops.lean, what each field of the state is after it. -/

namespace Sys2Proof.Machine

open Sys2Proof

variable (s : State)

@[simp] theorem State.setAsm_atb (a : Nat) (r : AsmRecord) : (s.setAsm a r).atb = tset s.atb a r := rfl
@[simp] theorem State.setAsm_ocu (a : Nat) (r : AsmRecord) : (s.setAsm a r).ocu = s.ocu := rfl
@[simp] theorem State.setAsm_rfs (a : Nat) (r : AsmRecord) : (s.setAsm a r).rfs = s.rfs := rfl
@[simp] theorem State.setAsm_drc (a : Nat) (r : AsmRecord) : (s.setAsm a r).drc = s.drc := rfl
@[simp] theorem State.setAsm_coc (a : Nat) (r : AsmRecord) : (s.setAsm a r).coc = s.coc := rfl
@[simp] theorem State.setAsm_ctb (a : Nat) (r : AsmRecord) : (s.setAsm a r).ctb = s.ctb := rfl
@[simp] theorem State.setAsm_hob (a : Nat) (r : AsmRecord) : (s.setAsm a r).hob = s.hob := rfl
@[simp] theorem State.setAsm_rst (a : Nat) (r : AsmRecord) : (s.setAsm a r).rst = s.rst := rfl
@[simp] theorem State.setAsm_params (a : Nat) (r : AsmRecord) : (s.setAsm a r).params = s.params := rfl
@[simp] theorem State.setAsm_ports (a : Nat) (r : AsmRecord) : (s.setAsm a r).ports = s.ports := rfl
@[simp] theorem State.setAsm_phase (a : Nat) (r : AsmRecord) : (s.setAsm a r).phase = s.phase := rfl
@[simp] theorem State.setAsm_pins (a : Nat) (r : AsmRecord) : (s.setAsm a r).pins = s.pins := rfl
@[simp] theorem State.setAsm_pending (a : Nat) (r : AsmRecord) : (s.setAsm a r).pending = s.pending := rfl

@[simp] theorem State.setDrawer_atb (d : Nat) (r : Drawer) : (s.setDrawer d r).atb = s.atb := rfl
@[simp] theorem State.setDrawer_ocu (d : Nat) (r : Drawer) : (s.setDrawer d r).ocu = s.ocu := rfl
@[simp] theorem State.setDrawer_rfs (d : Nat) (r : Drawer) : (s.setDrawer d r).rfs = s.rfs := rfl
@[simp] theorem State.setDrawer_drc (d : Nat) (r : Drawer) : (s.setDrawer d r).drc = { s.drc with drawers := tset s.drc.drawers d r } := rfl
@[simp] theorem State.setDrawer_coc (d : Nat) (r : Drawer) : (s.setDrawer d r).coc = s.coc := rfl
@[simp] theorem State.setDrawer_ctb (d : Nat) (r : Drawer) : (s.setDrawer d r).ctb = s.ctb := rfl
@[simp] theorem State.setDrawer_hob (d : Nat) (r : Drawer) : (s.setDrawer d r).hob = s.hob := rfl
@[simp] theorem State.setDrawer_rst (d : Nat) (r : Drawer) : (s.setDrawer d r).rst = s.rst := rfl
@[simp] theorem State.setDrawer_params (d : Nat) (r : Drawer) : (s.setDrawer d r).params = s.params := rfl
@[simp] theorem State.setDrawer_ports (d : Nat) (r : Drawer) : (s.setDrawer d r).ports = s.ports := rfl
@[simp] theorem State.setDrawer_phase (d : Nat) (r : Drawer) : (s.setDrawer d r).phase = s.phase := rfl
@[simp] theorem State.setDrawer_pins (d : Nat) (r : Drawer) : (s.setDrawer d r).pins = s.pins := rfl
@[simp] theorem State.setDrawer_pending (d : Nat) (r : Drawer) : (s.setDrawer d r).pending = s.pending := rfl

@[simp] theorem State.setReleaseQueue_atb (q : List Nat) : (s.setReleaseQueue q).atb = s.atb := rfl
@[simp] theorem State.setReleaseQueue_ocu (q : List Nat) : (s.setReleaseQueue q).ocu = s.ocu := rfl
@[simp] theorem State.setReleaseQueue_rfs (q : List Nat) : (s.setReleaseQueue q).rfs = s.rfs := rfl
@[simp] theorem State.setReleaseQueue_drc (q : List Nat) : (s.setReleaseQueue q).drc = { s.drc with queue := q } := rfl
@[simp] theorem State.setReleaseQueue_coc (q : List Nat) : (s.setReleaseQueue q).coc = s.coc := rfl
@[simp] theorem State.setReleaseQueue_ctb (q : List Nat) : (s.setReleaseQueue q).ctb = s.ctb := rfl
@[simp] theorem State.setReleaseQueue_hob (q : List Nat) : (s.setReleaseQueue q).hob = s.hob := rfl
@[simp] theorem State.setReleaseQueue_rst (q : List Nat) : (s.setReleaseQueue q).rst = s.rst := rfl
@[simp] theorem State.setReleaseQueue_params (q : List Nat) : (s.setReleaseQueue q).params = s.params := rfl
@[simp] theorem State.setReleaseQueue_ports (q : List Nat) : (s.setReleaseQueue q).ports = s.ports := rfl
@[simp] theorem State.setReleaseQueue_phase (q : List Nat) : (s.setReleaseQueue q).phase = s.phase := rfl
@[simp] theorem State.setReleaseQueue_pins (q : List Nat) : (s.setReleaseQueue q).pins = s.pins := rfl
@[simp] theorem State.setReleaseQueue_pending (q : List Nat) : (s.setReleaseQueue q).pending = s.pending := rfl

@[simp] theorem State.setDriver_atb (r : Driver) : (s.setDriver r).atb = s.atb := rfl
@[simp] theorem State.setDriver_ocu (r : Driver) : (s.setDriver r).ocu = s.ocu := rfl
@[simp] theorem State.setDriver_rfs (r : Driver) : (s.setDriver r).rfs = s.rfs := rfl
@[simp] theorem State.setDriver_drc (r : Driver) : (s.setDriver r).drc = { s.drc with driver := r } := rfl
@[simp] theorem State.setDriver_coc (r : Driver) : (s.setDriver r).coc = s.coc := rfl
@[simp] theorem State.setDriver_ctb (r : Driver) : (s.setDriver r).ctb = s.ctb := rfl
@[simp] theorem State.setDriver_hob (r : Driver) : (s.setDriver r).hob = s.hob := rfl
@[simp] theorem State.setDriver_rst (r : Driver) : (s.setDriver r).rst = s.rst := rfl
@[simp] theorem State.setDriver_params (r : Driver) : (s.setDriver r).params = s.params := rfl
@[simp] theorem State.setDriver_ports (r : Driver) : (s.setDriver r).ports = s.ports := rfl
@[simp] theorem State.setDriver_phase (r : Driver) : (s.setDriver r).phase = s.phase := rfl
@[simp] theorem State.setDriver_pins (r : Driver) : (s.setDriver r).pins = s.pins := rfl
@[simp] theorem State.setDriver_pending (r : Driver) : (s.setDriver r).pending = s.pending := rfl

@[simp] theorem State.setOp_atb (d : Nat) (o : Option Operation) : (s.setOp d o).atb = s.atb := rfl
@[simp] theorem State.setOp_ocu (d : Nat) (o : Option Operation) : (s.setOp d o).ocu = s.ocu := rfl
@[simp] theorem State.setOp_rfs (d : Nat) (o : Option Operation) : (s.setOp d o).rfs = s.rfs := rfl
@[simp] theorem State.setOp_drc (d : Nat) (o : Option Operation) : (s.setOp d o).drc = s.drc := rfl
@[simp] theorem State.setOp_coc (d : Nat) (o : Option Operation) : (s.setOp d o).coc = tset s.coc d o := rfl
@[simp] theorem State.setOp_ctb (d : Nat) (o : Option Operation) : (s.setOp d o).ctb = s.ctb := rfl
@[simp] theorem State.setOp_hob (d : Nat) (o : Option Operation) : (s.setOp d o).hob = s.hob := rfl
@[simp] theorem State.setOp_rst (d : Nat) (o : Option Operation) : (s.setOp d o).rst = s.rst := rfl
@[simp] theorem State.setOp_params (d : Nat) (o : Option Operation) : (s.setOp d o).params = s.params := rfl
@[simp] theorem State.setOp_ports (d : Nat) (o : Option Operation) : (s.setOp d o).ports = s.ports := rfl
@[simp] theorem State.setOp_phase (d : Nat) (o : Option Operation) : (s.setOp d o).phase = s.phase := rfl
@[simp] theorem State.setOp_pins (d : Nat) (o : Option Operation) : (s.setOp d o).pins = s.pins := rfl
@[simp] theorem State.setOp_pending (d : Nat) (o : Option Operation) : (s.setOp d o).pending = s.pending := rfl

@[simp] theorem State.setProfile_atb (c : Nat) (p : Profile) : (s.setProfile c p).atb = s.atb := rfl
@[simp] theorem State.setProfile_ocu (c : Nat) (p : Profile) : (s.setProfile c p).ocu = s.ocu := rfl
@[simp] theorem State.setProfile_rfs (c : Nat) (p : Profile) : (s.setProfile c p).rfs = s.rfs := rfl
@[simp] theorem State.setProfile_drc (c : Nat) (p : Profile) : (s.setProfile c p).drc = s.drc := rfl
@[simp] theorem State.setProfile_coc (c : Nat) (p : Profile) : (s.setProfile c p).coc = s.coc := rfl
@[simp] theorem State.setProfile_ctb (c : Nat) (p : Profile) : (s.setProfile c p).ctb = { s.ctb with cells := tset s.ctb.cells c { s.cell c with profile := p } } := rfl
@[simp] theorem State.setProfile_hob (c : Nat) (p : Profile) : (s.setProfile c p).hob = s.hob := rfl
@[simp] theorem State.setProfile_rst (c : Nat) (p : Profile) : (s.setProfile c p).rst = s.rst := rfl
@[simp] theorem State.setProfile_params (c : Nat) (p : Profile) : (s.setProfile c p).params = s.params := rfl
@[simp] theorem State.setProfile_ports (c : Nat) (p : Profile) : (s.setProfile c p).ports = s.ports := rfl
@[simp] theorem State.setProfile_phase (c : Nat) (p : Profile) : (s.setProfile c p).phase = s.phase := rfl
@[simp] theorem State.setProfile_pins (c : Nat) (p : Profile) : (s.setProfile c p).pins = s.pins := rfl
@[simp] theorem State.setProfile_pending (c : Nat) (p : Profile) : (s.setProfile c p).pending = s.pending := rfl

@[simp] theorem State.setPocket_atb (c p : Nat) (e : Pocket) : (s.setPocket c p e).atb = s.atb := rfl
@[simp] theorem State.setPocket_ocu (c p : Nat) (e : Pocket) : (s.setPocket c p e).ocu = s.ocu := rfl
@[simp] theorem State.setPocket_rfs (c p : Nat) (e : Pocket) : (s.setPocket c p e).rfs = s.rfs := rfl
@[simp] theorem State.setPocket_drc (c p : Nat) (e : Pocket) : (s.setPocket c p e).drc = s.drc := rfl
@[simp] theorem State.setPocket_coc (c p : Nat) (e : Pocket) : (s.setPocket c p e).coc = s.coc := rfl
@[simp] theorem State.setPocket_ctb (c p : Nat) (e : Pocket) : (s.setPocket c p e).ctb = { s.ctb with cells := tset s.ctb.cells c { s.cell c with pockets := tset (s.cell c).pockets p e } } := rfl
@[simp] theorem State.setPocket_hob (c p : Nat) (e : Pocket) : (s.setPocket c p e).hob = s.hob := rfl
@[simp] theorem State.setPocket_rst (c p : Nat) (e : Pocket) : (s.setPocket c p e).rst = s.rst := rfl
@[simp] theorem State.setPocket_params (c p : Nat) (e : Pocket) : (s.setPocket c p e).params = s.params := rfl
@[simp] theorem State.setPocket_ports (c p : Nat) (e : Pocket) : (s.setPocket c p e).ports = s.ports := rfl
@[simp] theorem State.setPocket_phase (c p : Nat) (e : Pocket) : (s.setPocket c p e).phase = s.phase := rfl
@[simp] theorem State.setPocket_pins (c p : Nat) (e : Pocket) : (s.setPocket c p e).pins = s.pins := rfl
@[simp] theorem State.setPocket_pending (c p : Nat) (e : Pocket) : (s.setPocket c p e).pending = s.pending := rfl

@[simp] theorem State.setPicks_atb (l : List Pick) : (s.setPicks l).atb = s.atb := rfl
@[simp] theorem State.setPicks_ocu (l : List Pick) : (s.setPicks l).ocu = s.ocu := rfl
@[simp] theorem State.setPicks_rfs (l : List Pick) : (s.setPicks l).rfs = s.rfs := rfl
@[simp] theorem State.setPicks_drc (l : List Pick) : (s.setPicks l).drc = s.drc := rfl
@[simp] theorem State.setPicks_coc (l : List Pick) : (s.setPicks l).coc = s.coc := rfl
@[simp] theorem State.setPicks_ctb (l : List Pick) : (s.setPicks l).ctb = { s.ctb with picks := l } := rfl
@[simp] theorem State.setPicks_hob (l : List Pick) : (s.setPicks l).hob = s.hob := rfl
@[simp] theorem State.setPicks_rst (l : List Pick) : (s.setPicks l).rst = s.rst := rfl
@[simp] theorem State.setPicks_params (l : List Pick) : (s.setPicks l).params = s.params := rfl
@[simp] theorem State.setPicks_ports (l : List Pick) : (s.setPicks l).ports = s.ports := rfl
@[simp] theorem State.setPicks_phase (l : List Pick) : (s.setPicks l).phase = s.phase := rfl
@[simp] theorem State.setPicks_pins (l : List Pick) : (s.setPicks l).pins = s.pins := rfl
@[simp] theorem State.setPicks_pending (l : List Pick) : (s.setPicks l).pending = s.pending := rfl

@[simp] theorem State.setSession_atb (x : Option Session) : (s.setSession x).atb = s.atb := rfl
@[simp] theorem State.setSession_ocu (x : Option Session) : (s.setSession x).ocu = x := rfl
@[simp] theorem State.setSession_rfs (x : Option Session) : (s.setSession x).rfs = s.rfs := rfl
@[simp] theorem State.setSession_drc (x : Option Session) : (s.setSession x).drc = s.drc := rfl
@[simp] theorem State.setSession_coc (x : Option Session) : (s.setSession x).coc = s.coc := rfl
@[simp] theorem State.setSession_ctb (x : Option Session) : (s.setSession x).ctb = s.ctb := rfl
@[simp] theorem State.setSession_hob (x : Option Session) : (s.setSession x).hob = s.hob := rfl
@[simp] theorem State.setSession_rst (x : Option Session) : (s.setSession x).rst = s.rst := rfl
@[simp] theorem State.setSession_params (x : Option Session) : (s.setSession x).params = s.params := rfl
@[simp] theorem State.setSession_ports (x : Option Session) : (s.setSession x).ports = s.ports := rfl
@[simp] theorem State.setSession_phase (x : Option Session) : (s.setSession x).phase = s.phase := rfl
@[simp] theorem State.setSession_pins (x : Option Session) : (s.setSession x).pins = s.pins := rfl
@[simp] theorem State.setSession_pending (x : Option Session) : (s.setSession x).pending = s.pending := rfl

@[simp] theorem State.setRefSet_atb (k : Nat) (r : RefSet) : (s.setRefSet k r).atb = s.atb := rfl
@[simp] theorem State.setRefSet_ocu (k : Nat) (r : RefSet) : (s.setRefSet k r).ocu = s.ocu := rfl
@[simp] theorem State.setRefSet_rfs (k : Nat) (r : RefSet) : (s.setRefSet k r).rfs = { s.rfs with sets := tset s.rfs.sets k r } := rfl
@[simp] theorem State.setRefSet_drc (k : Nat) (r : RefSet) : (s.setRefSet k r).drc = s.drc := rfl
@[simp] theorem State.setRefSet_coc (k : Nat) (r : RefSet) : (s.setRefSet k r).coc = s.coc := rfl
@[simp] theorem State.setRefSet_ctb (k : Nat) (r : RefSet) : (s.setRefSet k r).ctb = s.ctb := rfl
@[simp] theorem State.setRefSet_hob (k : Nat) (r : RefSet) : (s.setRefSet k r).hob = s.hob := rfl
@[simp] theorem State.setRefSet_rst (k : Nat) (r : RefSet) : (s.setRefSet k r).rst = s.rst := rfl
@[simp] theorem State.setRefSet_params (k : Nat) (r : RefSet) : (s.setRefSet k r).params = s.params := rfl
@[simp] theorem State.setRefSet_ports (k : Nat) (r : RefSet) : (s.setRefSet k r).ports = s.ports := rfl
@[simp] theorem State.setRefSet_phase (k : Nat) (r : RefSet) : (s.setRefSet k r).phase = s.phase := rfl
@[simp] theorem State.setRefSet_pins (k : Nat) (r : RefSet) : (s.setRefSet k r).pins = s.pins := rfl
@[simp] theorem State.setRefSet_pending (k : Nat) (r : RefSet) : (s.setRefSet k r).pending = s.pending := rfl

@[simp] theorem State.setCurve_atb (c : Curve) : (s.setCurve c).atb = s.atb := rfl
@[simp] theorem State.setCurve_ocu (c : Curve) : (s.setCurve c).ocu = s.ocu := rfl
@[simp] theorem State.setCurve_rfs (c : Curve) : (s.setCurve c).rfs = { s.rfs with curve := c } := rfl
@[simp] theorem State.setCurve_drc (c : Curve) : (s.setCurve c).drc = s.drc := rfl
@[simp] theorem State.setCurve_coc (c : Curve) : (s.setCurve c).coc = s.coc := rfl
@[simp] theorem State.setCurve_ctb (c : Curve) : (s.setCurve c).ctb = s.ctb := rfl
@[simp] theorem State.setCurve_hob (c : Curve) : (s.setCurve c).hob = s.hob := rfl
@[simp] theorem State.setCurve_rst (c : Curve) : (s.setCurve c).rst = s.rst := rfl
@[simp] theorem State.setCurve_params (c : Curve) : (s.setCurve c).params = s.params := rfl
@[simp] theorem State.setCurve_ports (c : Curve) : (s.setCurve c).ports = s.ports := rfl
@[simp] theorem State.setCurve_phase (c : Curve) : (s.setCurve c).phase = s.phase := rfl
@[simp] theorem State.setCurve_pins (c : Curve) : (s.setCurve c).pins = s.pins := rfl
@[simp] theorem State.setCurve_pending (c : Curve) : (s.setCurve c).pending = s.pending := rfl

@[simp] theorem State.setStagedCurve_atb (c : Option Curve) : (s.setStagedCurve c).atb = s.atb := rfl
@[simp] theorem State.setStagedCurve_ocu (c : Option Curve) : (s.setStagedCurve c).ocu = s.ocu := rfl
@[simp] theorem State.setStagedCurve_rfs (c : Option Curve) : (s.setStagedCurve c).rfs = { s.rfs with staged := c } := rfl
@[simp] theorem State.setStagedCurve_drc (c : Option Curve) : (s.setStagedCurve c).drc = s.drc := rfl
@[simp] theorem State.setStagedCurve_coc (c : Option Curve) : (s.setStagedCurve c).coc = s.coc := rfl
@[simp] theorem State.setStagedCurve_ctb (c : Option Curve) : (s.setStagedCurve c).ctb = s.ctb := rfl
@[simp] theorem State.setStagedCurve_hob (c : Option Curve) : (s.setStagedCurve c).hob = s.hob := rfl
@[simp] theorem State.setStagedCurve_rst (c : Option Curve) : (s.setStagedCurve c).rst = s.rst := rfl
@[simp] theorem State.setStagedCurve_params (c : Option Curve) : (s.setStagedCurve c).params = s.params := rfl
@[simp] theorem State.setStagedCurve_ports (c : Option Curve) : (s.setStagedCurve c).ports = s.ports := rfl
@[simp] theorem State.setStagedCurve_phase (c : Option Curve) : (s.setStagedCurve c).phase = s.phase := rfl
@[simp] theorem State.setStagedCurve_pins (c : Option Curve) : (s.setStagedCurve c).pins = s.pins := rfl
@[simp] theorem State.setStagedCurve_pending (c : Option Curve) : (s.setStagedCurve c).pending = s.pending := rfl

@[simp] theorem State.setActive_atb (k : Option Nat) : (s.setActive k).atb = s.atb := rfl
@[simp] theorem State.setActive_ocu (k : Option Nat) : (s.setActive k).ocu = s.ocu := rfl
@[simp] theorem State.setActive_rfs (k : Option Nat) : (s.setActive k).rfs = { s.rfs with active := k } := rfl
@[simp] theorem State.setActive_drc (k : Option Nat) : (s.setActive k).drc = s.drc := rfl
@[simp] theorem State.setActive_coc (k : Option Nat) : (s.setActive k).coc = s.coc := rfl
@[simp] theorem State.setActive_ctb (k : Option Nat) : (s.setActive k).ctb = s.ctb := rfl
@[simp] theorem State.setActive_hob (k : Option Nat) : (s.setActive k).hob = s.hob := rfl
@[simp] theorem State.setActive_rst (k : Option Nat) : (s.setActive k).rst = s.rst := rfl
@[simp] theorem State.setActive_params (k : Option Nat) : (s.setActive k).params = s.params := rfl
@[simp] theorem State.setActive_ports (k : Option Nat) : (s.setActive k).ports = s.ports := rfl
@[simp] theorem State.setActive_phase (k : Option Nat) : (s.setActive k).phase = s.phase := rfl
@[simp] theorem State.setActive_pins (k : Option Nat) : (s.setActive k).pins = s.pins := rfl
@[simp] theorem State.setActive_pending (k : Option Nat) : (s.setActive k).pending = s.pending := rfl

@[simp] theorem State.setSlot_atb (i : Nat) (x : Slot) : (s.setSlot i x).atb = s.atb := rfl
@[simp] theorem State.setSlot_ocu (i : Nat) (x : Slot) : (s.setSlot i x).ocu = s.ocu := rfl
@[simp] theorem State.setSlot_rfs (i : Nat) (x : Slot) : (s.setSlot i x).rfs = s.rfs := rfl
@[simp] theorem State.setSlot_drc (i : Nat) (x : Slot) : (s.setSlot i x).drc = s.drc := rfl
@[simp] theorem State.setSlot_coc (i : Nat) (x : Slot) : (s.setSlot i x).coc = s.coc := rfl
@[simp] theorem State.setSlot_ctb (i : Nat) (x : Slot) : (s.setSlot i x).ctb = s.ctb := rfl
@[simp] theorem State.setSlot_hob (i : Nat) (x : Slot) : (s.setSlot i x).hob = { s.hob with slots := tset s.hob.slots i x } := rfl
@[simp] theorem State.setSlot_rst (i : Nat) (x : Slot) : (s.setSlot i x).rst = s.rst := rfl
@[simp] theorem State.setSlot_params (i : Nat) (x : Slot) : (s.setSlot i x).params = s.params := rfl
@[simp] theorem State.setSlot_ports (i : Nat) (x : Slot) : (s.setSlot i x).ports = s.ports := rfl
@[simp] theorem State.setSlot_phase (i : Nat) (x : Slot) : (s.setSlot i x).phase = s.phase := rfl
@[simp] theorem State.setSlot_pins (i : Nat) (x : Slot) : (s.setSlot i x).pins = s.pins := rfl
@[simp] theorem State.setSlot_pending (i : Nat) (x : Slot) : (s.setSlot i x).pending = s.pending := rfl

@[simp] theorem State.setBuffer_atb (c : Nat) (b : Buffer) : (s.setBuffer c b).atb = s.atb := rfl
@[simp] theorem State.setBuffer_ocu (c : Nat) (b : Buffer) : (s.setBuffer c b).ocu = s.ocu := rfl
@[simp] theorem State.setBuffer_rfs (c : Nat) (b : Buffer) : (s.setBuffer c b).rfs = s.rfs := rfl
@[simp] theorem State.setBuffer_drc (c : Nat) (b : Buffer) : (s.setBuffer c b).drc = s.drc := rfl
@[simp] theorem State.setBuffer_coc (c : Nat) (b : Buffer) : (s.setBuffer c b).coc = s.coc := rfl
@[simp] theorem State.setBuffer_ctb (c : Nat) (b : Buffer) : (s.setBuffer c b).ctb = s.ctb := rfl
@[simp] theorem State.setBuffer_hob (c : Nat) (b : Buffer) : (s.setBuffer c b).hob = { s.hob with buffers := tset s.hob.buffers c b } := rfl
@[simp] theorem State.setBuffer_rst (c : Nat) (b : Buffer) : (s.setBuffer c b).rst = s.rst := rfl
@[simp] theorem State.setBuffer_params (c : Nat) (b : Buffer) : (s.setBuffer c b).params = s.params := rfl
@[simp] theorem State.setBuffer_ports (c : Nat) (b : Buffer) : (s.setBuffer c b).ports = s.ports := rfl
@[simp] theorem State.setBuffer_phase (c : Nat) (b : Buffer) : (s.setBuffer c b).phase = s.phase := rfl
@[simp] theorem State.setBuffer_pins (c : Nat) (b : Buffer) : (s.setBuffer c b).pins = s.pins := rfl
@[simp] theorem State.setBuffer_pending (c : Nat) (b : Buffer) : (s.setBuffer c b).pending = s.pending := rfl

@[simp] theorem State.setHob_atb (h : Handoff) : (s.setHob h).atb = s.atb := rfl
@[simp] theorem State.setHob_ocu (h : Handoff) : (s.setHob h).ocu = s.ocu := rfl
@[simp] theorem State.setHob_rfs (h : Handoff) : (s.setHob h).rfs = s.rfs := rfl
@[simp] theorem State.setHob_drc (h : Handoff) : (s.setHob h).drc = s.drc := rfl
@[simp] theorem State.setHob_coc (h : Handoff) : (s.setHob h).coc = s.coc := rfl
@[simp] theorem State.setHob_ctb (h : Handoff) : (s.setHob h).ctb = s.ctb := rfl
@[simp] theorem State.setHob_hob (h : Handoff) : (s.setHob h).hob = h := rfl
@[simp] theorem State.setHob_rst (h : Handoff) : (s.setHob h).rst = s.rst := rfl
@[simp] theorem State.setHob_params (h : Handoff) : (s.setHob h).params = s.params := rfl
@[simp] theorem State.setHob_ports (h : Handoff) : (s.setHob h).ports = s.ports := rfl
@[simp] theorem State.setHob_phase (h : Handoff) : (s.setHob h).phase = s.phase := rfl
@[simp] theorem State.setHob_pins (h : Handoff) : (s.setHob h).pins = s.pins := rfl
@[simp] theorem State.setHob_pending (h : Handoff) : (s.setHob h).pending = s.pending := rfl

@[simp] theorem State.setPage_atb (k : Nat) (p : Page) : (s.setPage k p).atb = s.atb := rfl
@[simp] theorem State.setPage_ocu (k : Nat) (p : Page) : (s.setPage k p).ocu = s.ocu := rfl
@[simp] theorem State.setPage_rfs (k : Nat) (p : Page) : (s.setPage k p).rfs = s.rfs := rfl
@[simp] theorem State.setPage_drc (k : Nat) (p : Page) : (s.setPage k p).drc = s.drc := rfl
@[simp] theorem State.setPage_coc (k : Nat) (p : Page) : (s.setPage k p).coc = s.coc := rfl
@[simp] theorem State.setPage_ctb (k : Nat) (p : Page) : (s.setPage k p).ctb = s.ctb := rfl
@[simp] theorem State.setPage_hob (k : Nat) (p : Page) : (s.setPage k p).hob = s.hob := rfl
@[simp] theorem State.setPage_rst (k : Nat) (p : Page) : (s.setPage k p).rst = { s.rst with pages := tset s.rst.pages k p } := rfl
@[simp] theorem State.setPage_params (k : Nat) (p : Page) : (s.setPage k p).params = s.params := rfl
@[simp] theorem State.setPage_ports (k : Nat) (p : Page) : (s.setPage k p).ports = s.ports := rfl
@[simp] theorem State.setPage_phase (k : Nat) (p : Page) : (s.setPage k p).phase = s.phase := rfl
@[simp] theorem State.setPage_pins (k : Nat) (p : Page) : (s.setPage k p).pins = s.pins := rfl
@[simp] theorem State.setPage_pending (k : Nat) (p : Page) : (s.setPage k p).pending = s.pending := rfl

@[simp] theorem State.setCommitQueue_atb (q : List Nat) : (s.setCommitQueue q).atb = s.atb := rfl
@[simp] theorem State.setCommitQueue_ocu (q : List Nat) : (s.setCommitQueue q).ocu = s.ocu := rfl
@[simp] theorem State.setCommitQueue_rfs (q : List Nat) : (s.setCommitQueue q).rfs = s.rfs := rfl
@[simp] theorem State.setCommitQueue_drc (q : List Nat) : (s.setCommitQueue q).drc = s.drc := rfl
@[simp] theorem State.setCommitQueue_coc (q : List Nat) : (s.setCommitQueue q).coc = s.coc := rfl
@[simp] theorem State.setCommitQueue_ctb (q : List Nat) : (s.setCommitQueue q).ctb = s.ctb := rfl
@[simp] theorem State.setCommitQueue_hob (q : List Nat) : (s.setCommitQueue q).hob = s.hob := rfl
@[simp] theorem State.setCommitQueue_rst (q : List Nat) : (s.setCommitQueue q).rst = { s.rst with queue := q } := rfl
@[simp] theorem State.setCommitQueue_params (q : List Nat) : (s.setCommitQueue q).params = s.params := rfl
@[simp] theorem State.setCommitQueue_ports (q : List Nat) : (s.setCommitQueue q).ports = s.ports := rfl
@[simp] theorem State.setCommitQueue_phase (q : List Nat) : (s.setCommitQueue q).phase = s.phase := rfl
@[simp] theorem State.setCommitQueue_pins (q : List Nat) : (s.setCommitQueue q).pins = s.pins := rfl
@[simp] theorem State.setCommitQueue_pending (q : List Nat) : (s.setCommitQueue q).pending = s.pending := rfl

@[simp] theorem State.setFlight_atb (f : Option Commit) : (s.setFlight f).atb = s.atb := rfl
@[simp] theorem State.setFlight_ocu (f : Option Commit) : (s.setFlight f).ocu = s.ocu := rfl
@[simp] theorem State.setFlight_rfs (f : Option Commit) : (s.setFlight f).rfs = s.rfs := rfl
@[simp] theorem State.setFlight_drc (f : Option Commit) : (s.setFlight f).drc = s.drc := rfl
@[simp] theorem State.setFlight_coc (f : Option Commit) : (s.setFlight f).coc = s.coc := rfl
@[simp] theorem State.setFlight_ctb (f : Option Commit) : (s.setFlight f).ctb = s.ctb := rfl
@[simp] theorem State.setFlight_hob (f : Option Commit) : (s.setFlight f).hob = s.hob := rfl
@[simp] theorem State.setFlight_rst (f : Option Commit) : (s.setFlight f).rst = { s.rst with flight := f } := rfl
@[simp] theorem State.setFlight_params (f : Option Commit) : (s.setFlight f).params = s.params := rfl
@[simp] theorem State.setFlight_ports (f : Option Commit) : (s.setFlight f).ports = s.ports := rfl
@[simp] theorem State.setFlight_phase (f : Option Commit) : (s.setFlight f).phase = s.phase := rfl
@[simp] theorem State.setFlight_pins (f : Option Commit) : (s.setFlight f).pins = s.pins := rfl
@[simp] theorem State.setFlight_pending (f : Option Commit) : (s.setFlight f).pending = s.pending := rfl

@[simp] theorem State.setParams_atb (p : Params) : (s.setParams p).atb = s.atb := rfl
@[simp] theorem State.setParams_ocu (p : Params) : (s.setParams p).ocu = s.ocu := rfl
@[simp] theorem State.setParams_rfs (p : Params) : (s.setParams p).rfs = s.rfs := rfl
@[simp] theorem State.setParams_drc (p : Params) : (s.setParams p).drc = s.drc := rfl
@[simp] theorem State.setParams_coc (p : Params) : (s.setParams p).coc = s.coc := rfl
@[simp] theorem State.setParams_ctb (p : Params) : (s.setParams p).ctb = s.ctb := rfl
@[simp] theorem State.setParams_hob (p : Params) : (s.setParams p).hob = s.hob := rfl
@[simp] theorem State.setParams_rst (p : Params) : (s.setParams p).rst = s.rst := rfl
@[simp] theorem State.setParams_params (p : Params) : (s.setParams p).params = p := rfl
@[simp] theorem State.setParams_ports (p : Params) : (s.setParams p).ports = s.ports := rfl
@[simp] theorem State.setParams_phase (p : Params) : (s.setParams p).phase = s.phase := rfl
@[simp] theorem State.setParams_pins (p : Params) : (s.setParams p).pins = s.pins := rfl
@[simp] theorem State.setParams_pending (p : Params) : (s.setParams p).pending = s.pending := rfl

@[simp] theorem State.setPhase_atb (p : Phase) : (s.setPhase p).atb = s.atb := rfl
@[simp] theorem State.setPhase_ocu (p : Phase) : (s.setPhase p).ocu = s.ocu := rfl
@[simp] theorem State.setPhase_rfs (p : Phase) : (s.setPhase p).rfs = s.rfs := rfl
@[simp] theorem State.setPhase_drc (p : Phase) : (s.setPhase p).drc = s.drc := rfl
@[simp] theorem State.setPhase_coc (p : Phase) : (s.setPhase p).coc = s.coc := rfl
@[simp] theorem State.setPhase_ctb (p : Phase) : (s.setPhase p).ctb = s.ctb := rfl
@[simp] theorem State.setPhase_hob (p : Phase) : (s.setPhase p).hob = s.hob := rfl
@[simp] theorem State.setPhase_rst (p : Phase) : (s.setPhase p).rst = s.rst := rfl
@[simp] theorem State.setPhase_params (p : Phase) : (s.setPhase p).params = s.params := rfl
@[simp] theorem State.setPhase_ports (p : Phase) : (s.setPhase p).ports = s.ports := rfl
@[simp] theorem State.setPhase_phase (p : Phase) : (s.setPhase p).phase = p := rfl
@[simp] theorem State.setPhase_pins (p : Phase) : (s.setPhase p).pins = s.pins := rfl
@[simp] theorem State.setPhase_pending (p : Phase) : (s.setPhase p).pending = s.pending := rfl

@[simp] theorem State.setPins_atb (p : Pins) : (s.setPins p).atb = s.atb := rfl
@[simp] theorem State.setPins_ocu (p : Pins) : (s.setPins p).ocu = s.ocu := rfl
@[simp] theorem State.setPins_rfs (p : Pins) : (s.setPins p).rfs = s.rfs := rfl
@[simp] theorem State.setPins_drc (p : Pins) : (s.setPins p).drc = s.drc := rfl
@[simp] theorem State.setPins_coc (p : Pins) : (s.setPins p).coc = s.coc := rfl
@[simp] theorem State.setPins_ctb (p : Pins) : (s.setPins p).ctb = s.ctb := rfl
@[simp] theorem State.setPins_hob (p : Pins) : (s.setPins p).hob = s.hob := rfl
@[simp] theorem State.setPins_rst (p : Pins) : (s.setPins p).rst = s.rst := rfl
@[simp] theorem State.setPins_params (p : Pins) : (s.setPins p).params = s.params := rfl
@[simp] theorem State.setPins_ports (p : Pins) : (s.setPins p).ports = s.ports := rfl
@[simp] theorem State.setPins_phase (p : Pins) : (s.setPins p).phase = s.phase := rfl
@[simp] theorem State.setPins_pins (p : Pins) : (s.setPins p).pins = p := rfl
@[simp] theorem State.setPins_pending (p : Pins) : (s.setPins p).pending = s.pending := rfl

@[simp] theorem State.setPort_atb (p : Port) (x : PortState) : (s.setPort p x).atb = s.atb := rfl
@[simp] theorem State.setPort_ocu (p : Port) (x : PortState) : (s.setPort p x).ocu = s.ocu := rfl
@[simp] theorem State.setPort_rfs (p : Port) (x : PortState) : (s.setPort p x).rfs = s.rfs := rfl
@[simp] theorem State.setPort_drc (p : Port) (x : PortState) : (s.setPort p x).drc = s.drc := rfl
@[simp] theorem State.setPort_coc (p : Port) (x : PortState) : (s.setPort p x).coc = s.coc := rfl
@[simp] theorem State.setPort_ctb (p : Port) (x : PortState) : (s.setPort p x).ctb = s.ctb := rfl
@[simp] theorem State.setPort_hob (p : Port) (x : PortState) : (s.setPort p x).hob = s.hob := rfl
@[simp] theorem State.setPort_rst (p : Port) (x : PortState) : (s.setPort p x).rst = s.rst := rfl
@[simp] theorem State.setPort_params (p : Port) (x : PortState) : (s.setPort p x).params = s.params := rfl
@[simp] theorem State.setPort_phase (p : Port) (x : PortState) : (s.setPort p x).phase = s.phase := rfl
@[simp] theorem State.setPort_pins (p : Port) (x : PortState) : (s.setPort p x).pins = s.pins := rfl
@[simp] theorem State.setPort_pending (p : Port) (x : PortState) : (s.setPort p x).pending = s.pending := rfl

/-- A port's interface after one is written. -/
@[simp] theorem State.setPort_port (p q : Port) (x : PortState) :
    (s.setPort p x).port q = if q = p then x else s.port q := by
  cases p <;> cases q <;> rfl

@[simp] theorem State.setAsm_drawer (a : Nat) (r : AsmRecord) (n : Nat) : (s.setAsm a r).drawer n = s.drawer n := rfl
@[simp] theorem State.setAsm_op (a : Nat) (r : AsmRecord) (n : Nat) : (s.setAsm a r).op n = s.op n := rfl
@[simp] theorem State.setAsm_cell (a : Nat) (r : AsmRecord) (n : Nat) : (s.setAsm a r).cell n = s.cell n := rfl
@[simp] theorem State.setAsm_profile (a : Nat) (r : AsmRecord) (n : Nat) : (s.setAsm a r).profile n = s.profile n := rfl
@[simp] theorem State.setAsm_pocket (a : Nat) (r : AsmRecord) (n m : Nat) : (s.setAsm a r).pocket n m = s.pocket n m := rfl
@[simp] theorem State.setAsm_picks (a : Nat) (r : AsmRecord) : (s.setAsm a r).picks = s.picks := rfl
@[simp] theorem State.setAsm_refSet (a : Nat) (r : AsmRecord) (n : Nat) : (s.setAsm a r).refSet n = s.refSet n := rfl
@[simp] theorem State.setAsm_slot (a : Nat) (r : AsmRecord) (n : Nat) : (s.setAsm a r).slot n = s.slot n := rfl
@[simp] theorem State.setAsm_buffer (a : Nat) (r : AsmRecord) (n : Nat) : (s.setAsm a r).buffer n = s.buffer n := rfl
@[simp] theorem State.setAsm_page (a : Nat) (r : AsmRecord) (n : Nat) : (s.setAsm a r).page n = s.page n := rfl
@[simp] theorem State.setAsm_port (a : Nat) (r : AsmRecord) (n : Port) : (s.setAsm a r).port n = s.port n := rfl
@[simp] theorem State.setDrawer_asm (d : Nat) (r : Drawer) (n : Nat) : (s.setDrawer d r).asm n = s.asm n := rfl
@[simp] theorem State.setDrawer_op (d : Nat) (r : Drawer) (n : Nat) : (s.setDrawer d r).op n = s.op n := rfl
@[simp] theorem State.setDrawer_cell (d : Nat) (r : Drawer) (n : Nat) : (s.setDrawer d r).cell n = s.cell n := rfl
@[simp] theorem State.setDrawer_profile (d : Nat) (r : Drawer) (n : Nat) : (s.setDrawer d r).profile n = s.profile n := rfl
@[simp] theorem State.setDrawer_pocket (d : Nat) (r : Drawer) (n m : Nat) : (s.setDrawer d r).pocket n m = s.pocket n m := rfl
@[simp] theorem State.setDrawer_picks (d : Nat) (r : Drawer) : (s.setDrawer d r).picks = s.picks := rfl
@[simp] theorem State.setDrawer_refSet (d : Nat) (r : Drawer) (n : Nat) : (s.setDrawer d r).refSet n = s.refSet n := rfl
@[simp] theorem State.setDrawer_slot (d : Nat) (r : Drawer) (n : Nat) : (s.setDrawer d r).slot n = s.slot n := rfl
@[simp] theorem State.setDrawer_buffer (d : Nat) (r : Drawer) (n : Nat) : (s.setDrawer d r).buffer n = s.buffer n := rfl
@[simp] theorem State.setDrawer_page (d : Nat) (r : Drawer) (n : Nat) : (s.setDrawer d r).page n = s.page n := rfl
@[simp] theorem State.setDrawer_port (d : Nat) (r : Drawer) (n : Port) : (s.setDrawer d r).port n = s.port n := rfl
@[simp] theorem State.setReleaseQueue_asm (q : List Nat) (n : Nat) : (s.setReleaseQueue q).asm n = s.asm n := rfl
@[simp] theorem State.setReleaseQueue_op (q : List Nat) (n : Nat) : (s.setReleaseQueue q).op n = s.op n := rfl
@[simp] theorem State.setReleaseQueue_cell (q : List Nat) (n : Nat) : (s.setReleaseQueue q).cell n = s.cell n := rfl
@[simp] theorem State.setReleaseQueue_profile (q : List Nat) (n : Nat) : (s.setReleaseQueue q).profile n = s.profile n := rfl
@[simp] theorem State.setReleaseQueue_pocket (q : List Nat) (n m : Nat) : (s.setReleaseQueue q).pocket n m = s.pocket n m := rfl
@[simp] theorem State.setReleaseQueue_picks (q : List Nat) : (s.setReleaseQueue q).picks = s.picks := rfl
@[simp] theorem State.setReleaseQueue_refSet (q : List Nat) (n : Nat) : (s.setReleaseQueue q).refSet n = s.refSet n := rfl
@[simp] theorem State.setReleaseQueue_slot (q : List Nat) (n : Nat) : (s.setReleaseQueue q).slot n = s.slot n := rfl
@[simp] theorem State.setReleaseQueue_buffer (q : List Nat) (n : Nat) : (s.setReleaseQueue q).buffer n = s.buffer n := rfl
@[simp] theorem State.setReleaseQueue_page (q : List Nat) (n : Nat) : (s.setReleaseQueue q).page n = s.page n := rfl
@[simp] theorem State.setReleaseQueue_port (q : List Nat) (n : Port) : (s.setReleaseQueue q).port n = s.port n := rfl
@[simp] theorem State.setDriver_asm (r : Driver) (n : Nat) : (s.setDriver r).asm n = s.asm n := rfl
@[simp] theorem State.setDriver_op (r : Driver) (n : Nat) : (s.setDriver r).op n = s.op n := rfl
@[simp] theorem State.setDriver_cell (r : Driver) (n : Nat) : (s.setDriver r).cell n = s.cell n := rfl
@[simp] theorem State.setDriver_profile (r : Driver) (n : Nat) : (s.setDriver r).profile n = s.profile n := rfl
@[simp] theorem State.setDriver_pocket (r : Driver) (n m : Nat) : (s.setDriver r).pocket n m = s.pocket n m := rfl
@[simp] theorem State.setDriver_picks (r : Driver) : (s.setDriver r).picks = s.picks := rfl
@[simp] theorem State.setDriver_refSet (r : Driver) (n : Nat) : (s.setDriver r).refSet n = s.refSet n := rfl
@[simp] theorem State.setDriver_slot (r : Driver) (n : Nat) : (s.setDriver r).slot n = s.slot n := rfl
@[simp] theorem State.setDriver_buffer (r : Driver) (n : Nat) : (s.setDriver r).buffer n = s.buffer n := rfl
@[simp] theorem State.setDriver_page (r : Driver) (n : Nat) : (s.setDriver r).page n = s.page n := rfl
@[simp] theorem State.setDriver_port (r : Driver) (n : Port) : (s.setDriver r).port n = s.port n := rfl
@[simp] theorem State.setOp_asm (d : Nat) (o : Option Operation) (n : Nat) : (s.setOp d o).asm n = s.asm n := rfl
@[simp] theorem State.setOp_drawer (d : Nat) (o : Option Operation) (n : Nat) : (s.setOp d o).drawer n = s.drawer n := rfl
@[simp] theorem State.setOp_cell (d : Nat) (o : Option Operation) (n : Nat) : (s.setOp d o).cell n = s.cell n := rfl
@[simp] theorem State.setOp_profile (d : Nat) (o : Option Operation) (n : Nat) : (s.setOp d o).profile n = s.profile n := rfl
@[simp] theorem State.setOp_pocket (d : Nat) (o : Option Operation) (n m : Nat) : (s.setOp d o).pocket n m = s.pocket n m := rfl
@[simp] theorem State.setOp_picks (d : Nat) (o : Option Operation) : (s.setOp d o).picks = s.picks := rfl
@[simp] theorem State.setOp_refSet (d : Nat) (o : Option Operation) (n : Nat) : (s.setOp d o).refSet n = s.refSet n := rfl
@[simp] theorem State.setOp_slot (d : Nat) (o : Option Operation) (n : Nat) : (s.setOp d o).slot n = s.slot n := rfl
@[simp] theorem State.setOp_buffer (d : Nat) (o : Option Operation) (n : Nat) : (s.setOp d o).buffer n = s.buffer n := rfl
@[simp] theorem State.setOp_page (d : Nat) (o : Option Operation) (n : Nat) : (s.setOp d o).page n = s.page n := rfl
@[simp] theorem State.setOp_port (d : Nat) (o : Option Operation) (n : Port) : (s.setOp d o).port n = s.port n := rfl
@[simp] theorem State.setProfile_asm (c : Nat) (p : Profile) (n : Nat) : (s.setProfile c p).asm n = s.asm n := rfl
@[simp] theorem State.setProfile_drawer (c : Nat) (p : Profile) (n : Nat) : (s.setProfile c p).drawer n = s.drawer n := rfl
@[simp] theorem State.setProfile_op (c : Nat) (p : Profile) (n : Nat) : (s.setProfile c p).op n = s.op n := rfl
@[simp] theorem State.setProfile_refSet (c : Nat) (p : Profile) (n : Nat) : (s.setProfile c p).refSet n = s.refSet n := rfl
@[simp] theorem State.setProfile_slot (c : Nat) (p : Profile) (n : Nat) : (s.setProfile c p).slot n = s.slot n := rfl
@[simp] theorem State.setProfile_buffer (c : Nat) (p : Profile) (n : Nat) : (s.setProfile c p).buffer n = s.buffer n := rfl
@[simp] theorem State.setProfile_page (c : Nat) (p : Profile) (n : Nat) : (s.setProfile c p).page n = s.page n := rfl
@[simp] theorem State.setProfile_port (c : Nat) (p : Profile) (n : Port) : (s.setProfile c p).port n = s.port n := rfl
@[simp] theorem State.setPocket_asm (c p : Nat) (e : Pocket) (n : Nat) : (s.setPocket c p e).asm n = s.asm n := rfl
@[simp] theorem State.setPocket_drawer (c p : Nat) (e : Pocket) (n : Nat) : (s.setPocket c p e).drawer n = s.drawer n := rfl
@[simp] theorem State.setPocket_op (c p : Nat) (e : Pocket) (n : Nat) : (s.setPocket c p e).op n = s.op n := rfl
@[simp] theorem State.setPocket_refSet (c p : Nat) (e : Pocket) (n : Nat) : (s.setPocket c p e).refSet n = s.refSet n := rfl
@[simp] theorem State.setPocket_slot (c p : Nat) (e : Pocket) (n : Nat) : (s.setPocket c p e).slot n = s.slot n := rfl
@[simp] theorem State.setPocket_buffer (c p : Nat) (e : Pocket) (n : Nat) : (s.setPocket c p e).buffer n = s.buffer n := rfl
@[simp] theorem State.setPocket_page (c p : Nat) (e : Pocket) (n : Nat) : (s.setPocket c p e).page n = s.page n := rfl
@[simp] theorem State.setPocket_port (c p : Nat) (e : Pocket) (n : Port) : (s.setPocket c p e).port n = s.port n := rfl
@[simp] theorem State.setPicks_asm (l : List Pick) (n : Nat) : (s.setPicks l).asm n = s.asm n := rfl
@[simp] theorem State.setPicks_drawer (l : List Pick) (n : Nat) : (s.setPicks l).drawer n = s.drawer n := rfl
@[simp] theorem State.setPicks_op (l : List Pick) (n : Nat) : (s.setPicks l).op n = s.op n := rfl
@[simp] theorem State.setPicks_refSet (l : List Pick) (n : Nat) : (s.setPicks l).refSet n = s.refSet n := rfl
@[simp] theorem State.setPicks_slot (l : List Pick) (n : Nat) : (s.setPicks l).slot n = s.slot n := rfl
@[simp] theorem State.setPicks_buffer (l : List Pick) (n : Nat) : (s.setPicks l).buffer n = s.buffer n := rfl
@[simp] theorem State.setPicks_page (l : List Pick) (n : Nat) : (s.setPicks l).page n = s.page n := rfl
@[simp] theorem State.setPicks_port (l : List Pick) (n : Port) : (s.setPicks l).port n = s.port n := rfl
@[simp] theorem State.setSession_asm (x : Option Session) (n : Nat) : (s.setSession x).asm n = s.asm n := rfl
@[simp] theorem State.setSession_drawer (x : Option Session) (n : Nat) : (s.setSession x).drawer n = s.drawer n := rfl
@[simp] theorem State.setSession_op (x : Option Session) (n : Nat) : (s.setSession x).op n = s.op n := rfl
@[simp] theorem State.setSession_cell (x : Option Session) (n : Nat) : (s.setSession x).cell n = s.cell n := rfl
@[simp] theorem State.setSession_profile (x : Option Session) (n : Nat) : (s.setSession x).profile n = s.profile n := rfl
@[simp] theorem State.setSession_pocket (x : Option Session) (n m : Nat) : (s.setSession x).pocket n m = s.pocket n m := rfl
@[simp] theorem State.setSession_picks (x : Option Session) : (s.setSession x).picks = s.picks := rfl
@[simp] theorem State.setSession_refSet (x : Option Session) (n : Nat) : (s.setSession x).refSet n = s.refSet n := rfl
@[simp] theorem State.setSession_slot (x : Option Session) (n : Nat) : (s.setSession x).slot n = s.slot n := rfl
@[simp] theorem State.setSession_buffer (x : Option Session) (n : Nat) : (s.setSession x).buffer n = s.buffer n := rfl
@[simp] theorem State.setSession_page (x : Option Session) (n : Nat) : (s.setSession x).page n = s.page n := rfl
@[simp] theorem State.setSession_port (x : Option Session) (n : Port) : (s.setSession x).port n = s.port n := rfl
@[simp] theorem State.setRefSet_asm (k : Nat) (r : RefSet) (n : Nat) : (s.setRefSet k r).asm n = s.asm n := rfl
@[simp] theorem State.setRefSet_drawer (k : Nat) (r : RefSet) (n : Nat) : (s.setRefSet k r).drawer n = s.drawer n := rfl
@[simp] theorem State.setRefSet_op (k : Nat) (r : RefSet) (n : Nat) : (s.setRefSet k r).op n = s.op n := rfl
@[simp] theorem State.setRefSet_cell (k : Nat) (r : RefSet) (n : Nat) : (s.setRefSet k r).cell n = s.cell n := rfl
@[simp] theorem State.setRefSet_profile (k : Nat) (r : RefSet) (n : Nat) : (s.setRefSet k r).profile n = s.profile n := rfl
@[simp] theorem State.setRefSet_pocket (k : Nat) (r : RefSet) (n m : Nat) : (s.setRefSet k r).pocket n m = s.pocket n m := rfl
@[simp] theorem State.setRefSet_picks (k : Nat) (r : RefSet) : (s.setRefSet k r).picks = s.picks := rfl
@[simp] theorem State.setRefSet_slot (k : Nat) (r : RefSet) (n : Nat) : (s.setRefSet k r).slot n = s.slot n := rfl
@[simp] theorem State.setRefSet_buffer (k : Nat) (r : RefSet) (n : Nat) : (s.setRefSet k r).buffer n = s.buffer n := rfl
@[simp] theorem State.setRefSet_page (k : Nat) (r : RefSet) (n : Nat) : (s.setRefSet k r).page n = s.page n := rfl
@[simp] theorem State.setRefSet_port (k : Nat) (r : RefSet) (n : Port) : (s.setRefSet k r).port n = s.port n := rfl
@[simp] theorem State.setCurve_asm (c : Curve) (n : Nat) : (s.setCurve c).asm n = s.asm n := rfl
@[simp] theorem State.setCurve_drawer (c : Curve) (n : Nat) : (s.setCurve c).drawer n = s.drawer n := rfl
@[simp] theorem State.setCurve_op (c : Curve) (n : Nat) : (s.setCurve c).op n = s.op n := rfl
@[simp] theorem State.setCurve_cell (c : Curve) (n : Nat) : (s.setCurve c).cell n = s.cell n := rfl
@[simp] theorem State.setCurve_profile (c : Curve) (n : Nat) : (s.setCurve c).profile n = s.profile n := rfl
@[simp] theorem State.setCurve_pocket (c : Curve) (n m : Nat) : (s.setCurve c).pocket n m = s.pocket n m := rfl
@[simp] theorem State.setCurve_picks (c : Curve) : (s.setCurve c).picks = s.picks := rfl
@[simp] theorem State.setCurve_slot (c : Curve) (n : Nat) : (s.setCurve c).slot n = s.slot n := rfl
@[simp] theorem State.setCurve_buffer (c : Curve) (n : Nat) : (s.setCurve c).buffer n = s.buffer n := rfl
@[simp] theorem State.setCurve_page (c : Curve) (n : Nat) : (s.setCurve c).page n = s.page n := rfl
@[simp] theorem State.setCurve_port (c : Curve) (n : Port) : (s.setCurve c).port n = s.port n := rfl
@[simp] theorem State.setStagedCurve_asm (c : Option Curve) (n : Nat) : (s.setStagedCurve c).asm n = s.asm n := rfl
@[simp] theorem State.setStagedCurve_drawer (c : Option Curve) (n : Nat) : (s.setStagedCurve c).drawer n = s.drawer n := rfl
@[simp] theorem State.setStagedCurve_op (c : Option Curve) (n : Nat) : (s.setStagedCurve c).op n = s.op n := rfl
@[simp] theorem State.setStagedCurve_cell (c : Option Curve) (n : Nat) : (s.setStagedCurve c).cell n = s.cell n := rfl
@[simp] theorem State.setStagedCurve_profile (c : Option Curve) (n : Nat) : (s.setStagedCurve c).profile n = s.profile n := rfl
@[simp] theorem State.setStagedCurve_pocket (c : Option Curve) (n m : Nat) : (s.setStagedCurve c).pocket n m = s.pocket n m := rfl
@[simp] theorem State.setStagedCurve_picks (c : Option Curve) : (s.setStagedCurve c).picks = s.picks := rfl
@[simp] theorem State.setStagedCurve_slot (c : Option Curve) (n : Nat) : (s.setStagedCurve c).slot n = s.slot n := rfl
@[simp] theorem State.setStagedCurve_buffer (c : Option Curve) (n : Nat) : (s.setStagedCurve c).buffer n = s.buffer n := rfl
@[simp] theorem State.setStagedCurve_page (c : Option Curve) (n : Nat) : (s.setStagedCurve c).page n = s.page n := rfl
@[simp] theorem State.setStagedCurve_port (c : Option Curve) (n : Port) : (s.setStagedCurve c).port n = s.port n := rfl
@[simp] theorem State.setActive_asm (k : Option Nat) (n : Nat) : (s.setActive k).asm n = s.asm n := rfl
@[simp] theorem State.setActive_drawer (k : Option Nat) (n : Nat) : (s.setActive k).drawer n = s.drawer n := rfl
@[simp] theorem State.setActive_op (k : Option Nat) (n : Nat) : (s.setActive k).op n = s.op n := rfl
@[simp] theorem State.setActive_cell (k : Option Nat) (n : Nat) : (s.setActive k).cell n = s.cell n := rfl
@[simp] theorem State.setActive_profile (k : Option Nat) (n : Nat) : (s.setActive k).profile n = s.profile n := rfl
@[simp] theorem State.setActive_pocket (k : Option Nat) (n m : Nat) : (s.setActive k).pocket n m = s.pocket n m := rfl
@[simp] theorem State.setActive_picks (k : Option Nat) : (s.setActive k).picks = s.picks := rfl
@[simp] theorem State.setActive_slot (k : Option Nat) (n : Nat) : (s.setActive k).slot n = s.slot n := rfl
@[simp] theorem State.setActive_buffer (k : Option Nat) (n : Nat) : (s.setActive k).buffer n = s.buffer n := rfl
@[simp] theorem State.setActive_page (k : Option Nat) (n : Nat) : (s.setActive k).page n = s.page n := rfl
@[simp] theorem State.setActive_port (k : Option Nat) (n : Port) : (s.setActive k).port n = s.port n := rfl
@[simp] theorem State.setSlot_asm (i : Nat) (x : Slot) (n : Nat) : (s.setSlot i x).asm n = s.asm n := rfl
@[simp] theorem State.setSlot_drawer (i : Nat) (x : Slot) (n : Nat) : (s.setSlot i x).drawer n = s.drawer n := rfl
@[simp] theorem State.setSlot_op (i : Nat) (x : Slot) (n : Nat) : (s.setSlot i x).op n = s.op n := rfl
@[simp] theorem State.setSlot_cell (i : Nat) (x : Slot) (n : Nat) : (s.setSlot i x).cell n = s.cell n := rfl
@[simp] theorem State.setSlot_profile (i : Nat) (x : Slot) (n : Nat) : (s.setSlot i x).profile n = s.profile n := rfl
@[simp] theorem State.setSlot_pocket (i : Nat) (x : Slot) (n m : Nat) : (s.setSlot i x).pocket n m = s.pocket n m := rfl
@[simp] theorem State.setSlot_picks (i : Nat) (x : Slot) : (s.setSlot i x).picks = s.picks := rfl
@[simp] theorem State.setSlot_refSet (i : Nat) (x : Slot) (n : Nat) : (s.setSlot i x).refSet n = s.refSet n := rfl
@[simp] theorem State.setSlot_page (i : Nat) (x : Slot) (n : Nat) : (s.setSlot i x).page n = s.page n := rfl
@[simp] theorem State.setSlot_port (i : Nat) (x : Slot) (n : Port) : (s.setSlot i x).port n = s.port n := rfl
@[simp] theorem State.setBuffer_asm (c : Nat) (b : Buffer) (n : Nat) : (s.setBuffer c b).asm n = s.asm n := rfl
@[simp] theorem State.setBuffer_drawer (c : Nat) (b : Buffer) (n : Nat) : (s.setBuffer c b).drawer n = s.drawer n := rfl
@[simp] theorem State.setBuffer_op (c : Nat) (b : Buffer) (n : Nat) : (s.setBuffer c b).op n = s.op n := rfl
@[simp] theorem State.setBuffer_cell (c : Nat) (b : Buffer) (n : Nat) : (s.setBuffer c b).cell n = s.cell n := rfl
@[simp] theorem State.setBuffer_profile (c : Nat) (b : Buffer) (n : Nat) : (s.setBuffer c b).profile n = s.profile n := rfl
@[simp] theorem State.setBuffer_pocket (c : Nat) (b : Buffer) (n m : Nat) : (s.setBuffer c b).pocket n m = s.pocket n m := rfl
@[simp] theorem State.setBuffer_picks (c : Nat) (b : Buffer) : (s.setBuffer c b).picks = s.picks := rfl
@[simp] theorem State.setBuffer_refSet (c : Nat) (b : Buffer) (n : Nat) : (s.setBuffer c b).refSet n = s.refSet n := rfl
@[simp] theorem State.setBuffer_page (c : Nat) (b : Buffer) (n : Nat) : (s.setBuffer c b).page n = s.page n := rfl
@[simp] theorem State.setBuffer_port (c : Nat) (b : Buffer) (n : Port) : (s.setBuffer c b).port n = s.port n := rfl
@[simp] theorem State.setHob_asm (h : Handoff) (n : Nat) : (s.setHob h).asm n = s.asm n := rfl
@[simp] theorem State.setHob_drawer (h : Handoff) (n : Nat) : (s.setHob h).drawer n = s.drawer n := rfl
@[simp] theorem State.setHob_op (h : Handoff) (n : Nat) : (s.setHob h).op n = s.op n := rfl
@[simp] theorem State.setHob_cell (h : Handoff) (n : Nat) : (s.setHob h).cell n = s.cell n := rfl
@[simp] theorem State.setHob_profile (h : Handoff) (n : Nat) : (s.setHob h).profile n = s.profile n := rfl
@[simp] theorem State.setHob_pocket (h : Handoff) (n m : Nat) : (s.setHob h).pocket n m = s.pocket n m := rfl
@[simp] theorem State.setHob_picks (h : Handoff) : (s.setHob h).picks = s.picks := rfl
@[simp] theorem State.setHob_refSet (h : Handoff) (n : Nat) : (s.setHob h).refSet n = s.refSet n := rfl
@[simp] theorem State.setHob_page (h : Handoff) (n : Nat) : (s.setHob h).page n = s.page n := rfl
@[simp] theorem State.setHob_port (h : Handoff) (n : Port) : (s.setHob h).port n = s.port n := rfl
@[simp] theorem State.setPage_asm (k : Nat) (p : Page) (n : Nat) : (s.setPage k p).asm n = s.asm n := rfl
@[simp] theorem State.setPage_drawer (k : Nat) (p : Page) (n : Nat) : (s.setPage k p).drawer n = s.drawer n := rfl
@[simp] theorem State.setPage_op (k : Nat) (p : Page) (n : Nat) : (s.setPage k p).op n = s.op n := rfl
@[simp] theorem State.setPage_cell (k : Nat) (p : Page) (n : Nat) : (s.setPage k p).cell n = s.cell n := rfl
@[simp] theorem State.setPage_profile (k : Nat) (p : Page) (n : Nat) : (s.setPage k p).profile n = s.profile n := rfl
@[simp] theorem State.setPage_pocket (k : Nat) (p : Page) (n m : Nat) : (s.setPage k p).pocket n m = s.pocket n m := rfl
@[simp] theorem State.setPage_picks (k : Nat) (p : Page) : (s.setPage k p).picks = s.picks := rfl
@[simp] theorem State.setPage_refSet (k : Nat) (p : Page) (n : Nat) : (s.setPage k p).refSet n = s.refSet n := rfl
@[simp] theorem State.setPage_slot (k : Nat) (p : Page) (n : Nat) : (s.setPage k p).slot n = s.slot n := rfl
@[simp] theorem State.setPage_buffer (k : Nat) (p : Page) (n : Nat) : (s.setPage k p).buffer n = s.buffer n := rfl
@[simp] theorem State.setPage_port (k : Nat) (p : Page) (n : Port) : (s.setPage k p).port n = s.port n := rfl
@[simp] theorem State.setCommitQueue_asm (q : List Nat) (n : Nat) : (s.setCommitQueue q).asm n = s.asm n := rfl
@[simp] theorem State.setCommitQueue_drawer (q : List Nat) (n : Nat) : (s.setCommitQueue q).drawer n = s.drawer n := rfl
@[simp] theorem State.setCommitQueue_op (q : List Nat) (n : Nat) : (s.setCommitQueue q).op n = s.op n := rfl
@[simp] theorem State.setCommitQueue_cell (q : List Nat) (n : Nat) : (s.setCommitQueue q).cell n = s.cell n := rfl
@[simp] theorem State.setCommitQueue_profile (q : List Nat) (n : Nat) : (s.setCommitQueue q).profile n = s.profile n := rfl
@[simp] theorem State.setCommitQueue_pocket (q : List Nat) (n m : Nat) : (s.setCommitQueue q).pocket n m = s.pocket n m := rfl
@[simp] theorem State.setCommitQueue_picks (q : List Nat) : (s.setCommitQueue q).picks = s.picks := rfl
@[simp] theorem State.setCommitQueue_refSet (q : List Nat) (n : Nat) : (s.setCommitQueue q).refSet n = s.refSet n := rfl
@[simp] theorem State.setCommitQueue_slot (q : List Nat) (n : Nat) : (s.setCommitQueue q).slot n = s.slot n := rfl
@[simp] theorem State.setCommitQueue_buffer (q : List Nat) (n : Nat) : (s.setCommitQueue q).buffer n = s.buffer n := rfl
@[simp] theorem State.setCommitQueue_port (q : List Nat) (n : Port) : (s.setCommitQueue q).port n = s.port n := rfl
@[simp] theorem State.setFlight_asm (f : Option Commit) (n : Nat) : (s.setFlight f).asm n = s.asm n := rfl
@[simp] theorem State.setFlight_drawer (f : Option Commit) (n : Nat) : (s.setFlight f).drawer n = s.drawer n := rfl
@[simp] theorem State.setFlight_op (f : Option Commit) (n : Nat) : (s.setFlight f).op n = s.op n := rfl
@[simp] theorem State.setFlight_cell (f : Option Commit) (n : Nat) : (s.setFlight f).cell n = s.cell n := rfl
@[simp] theorem State.setFlight_profile (f : Option Commit) (n : Nat) : (s.setFlight f).profile n = s.profile n := rfl
@[simp] theorem State.setFlight_pocket (f : Option Commit) (n m : Nat) : (s.setFlight f).pocket n m = s.pocket n m := rfl
@[simp] theorem State.setFlight_picks (f : Option Commit) : (s.setFlight f).picks = s.picks := rfl
@[simp] theorem State.setFlight_refSet (f : Option Commit) (n : Nat) : (s.setFlight f).refSet n = s.refSet n := rfl
@[simp] theorem State.setFlight_slot (f : Option Commit) (n : Nat) : (s.setFlight f).slot n = s.slot n := rfl
@[simp] theorem State.setFlight_buffer (f : Option Commit) (n : Nat) : (s.setFlight f).buffer n = s.buffer n := rfl
@[simp] theorem State.setFlight_port (f : Option Commit) (n : Port) : (s.setFlight f).port n = s.port n := rfl
@[simp] theorem State.setParams_asm (p : Params) (n : Nat) : (s.setParams p).asm n = s.asm n := rfl
@[simp] theorem State.setParams_drawer (p : Params) (n : Nat) : (s.setParams p).drawer n = s.drawer n := rfl
@[simp] theorem State.setParams_op (p : Params) (n : Nat) : (s.setParams p).op n = s.op n := rfl
@[simp] theorem State.setParams_cell (p : Params) (n : Nat) : (s.setParams p).cell n = s.cell n := rfl
@[simp] theorem State.setParams_profile (p : Params) (n : Nat) : (s.setParams p).profile n = s.profile n := rfl
@[simp] theorem State.setParams_pocket (p : Params) (n m : Nat) : (s.setParams p).pocket n m = s.pocket n m := rfl
@[simp] theorem State.setParams_picks (p : Params) : (s.setParams p).picks = s.picks := rfl
@[simp] theorem State.setParams_refSet (p : Params) (n : Nat) : (s.setParams p).refSet n = s.refSet n := rfl
@[simp] theorem State.setParams_slot (p : Params) (n : Nat) : (s.setParams p).slot n = s.slot n := rfl
@[simp] theorem State.setParams_buffer (p : Params) (n : Nat) : (s.setParams p).buffer n = s.buffer n := rfl
@[simp] theorem State.setParams_page (p : Params) (n : Nat) : (s.setParams p).page n = s.page n := rfl
@[simp] theorem State.setParams_port (p : Params) (n : Port) : (s.setParams p).port n = s.port n := rfl
@[simp] theorem State.setPhase_asm (p : Phase) (n : Nat) : (s.setPhase p).asm n = s.asm n := rfl
@[simp] theorem State.setPhase_drawer (p : Phase) (n : Nat) : (s.setPhase p).drawer n = s.drawer n := rfl
@[simp] theorem State.setPhase_op (p : Phase) (n : Nat) : (s.setPhase p).op n = s.op n := rfl
@[simp] theorem State.setPhase_cell (p : Phase) (n : Nat) : (s.setPhase p).cell n = s.cell n := rfl
@[simp] theorem State.setPhase_profile (p : Phase) (n : Nat) : (s.setPhase p).profile n = s.profile n := rfl
@[simp] theorem State.setPhase_pocket (p : Phase) (n m : Nat) : (s.setPhase p).pocket n m = s.pocket n m := rfl
@[simp] theorem State.setPhase_picks (p : Phase) : (s.setPhase p).picks = s.picks := rfl
@[simp] theorem State.setPhase_refSet (p : Phase) (n : Nat) : (s.setPhase p).refSet n = s.refSet n := rfl
@[simp] theorem State.setPhase_slot (p : Phase) (n : Nat) : (s.setPhase p).slot n = s.slot n := rfl
@[simp] theorem State.setPhase_buffer (p : Phase) (n : Nat) : (s.setPhase p).buffer n = s.buffer n := rfl
@[simp] theorem State.setPhase_page (p : Phase) (n : Nat) : (s.setPhase p).page n = s.page n := rfl
@[simp] theorem State.setPhase_port (p : Phase) (n : Port) : (s.setPhase p).port n = s.port n := rfl
@[simp] theorem State.setPins_asm (p : Pins) (n : Nat) : (s.setPins p).asm n = s.asm n := rfl
@[simp] theorem State.setPins_drawer (p : Pins) (n : Nat) : (s.setPins p).drawer n = s.drawer n := rfl
@[simp] theorem State.setPins_op (p : Pins) (n : Nat) : (s.setPins p).op n = s.op n := rfl
@[simp] theorem State.setPins_cell (p : Pins) (n : Nat) : (s.setPins p).cell n = s.cell n := rfl
@[simp] theorem State.setPins_profile (p : Pins) (n : Nat) : (s.setPins p).profile n = s.profile n := rfl
@[simp] theorem State.setPins_pocket (p : Pins) (n m : Nat) : (s.setPins p).pocket n m = s.pocket n m := rfl
@[simp] theorem State.setPins_picks (p : Pins) : (s.setPins p).picks = s.picks := rfl
@[simp] theorem State.setPins_refSet (p : Pins) (n : Nat) : (s.setPins p).refSet n = s.refSet n := rfl
@[simp] theorem State.setPins_slot (p : Pins) (n : Nat) : (s.setPins p).slot n = s.slot n := rfl
@[simp] theorem State.setPins_buffer (p : Pins) (n : Nat) : (s.setPins p).buffer n = s.buffer n := rfl
@[simp] theorem State.setPins_page (p : Pins) (n : Nat) : (s.setPins p).page n = s.page n := rfl
@[simp] theorem State.setPins_port (p : Pins) (n : Port) : (s.setPins p).port n = s.port n := rfl
@[simp] theorem State.setPort_asm (p : Port) (x : PortState) (n : Nat) : (s.setPort p x).asm n = s.asm n := rfl
@[simp] theorem State.setPort_drawer (p : Port) (x : PortState) (n : Nat) : (s.setPort p x).drawer n = s.drawer n := rfl
@[simp] theorem State.setPort_op (p : Port) (x : PortState) (n : Nat) : (s.setPort p x).op n = s.op n := rfl
@[simp] theorem State.setPort_cell (p : Port) (x : PortState) (n : Nat) : (s.setPort p x).cell n = s.cell n := rfl
@[simp] theorem State.setPort_profile (p : Port) (x : PortState) (n : Nat) : (s.setPort p x).profile n = s.profile n := rfl
@[simp] theorem State.setPort_pocket (p : Port) (x : PortState) (n m : Nat) : (s.setPort p x).pocket n m = s.pocket n m := rfl
@[simp] theorem State.setPort_picks (p : Port) (x : PortState) : (s.setPort p x).picks = s.picks := rfl
@[simp] theorem State.setPort_refSet (p : Port) (x : PortState) (n : Nat) : (s.setPort p x).refSet n = s.refSet n := rfl
@[simp] theorem State.setPort_slot (p : Port) (x : PortState) (n : Nat) : (s.setPort p x).slot n = s.slot n := rfl
@[simp] theorem State.setPort_buffer (p : Port) (x : PortState) (n : Nat) : (s.setPort p x).buffer n = s.buffer n := rfl
@[simp] theorem State.setPort_page (p : Port) (x : PortState) (n : Nat) : (s.setPort p x).page n = s.page n := rfl

end Sys2Proof.Machine
end

