-- ==== Sys2Proof/Laws/Tables.lean ====
section
/-! SUPPORT. Reading a table after an entry is written, and reading each record of the state after its own update. -/

namespace Sys2Proof

variable {α β : Type} {n : Nat}

/-- An entry of a table after one is written. -/
theorem tget_tset (d : α) (v : Vector α n) (i j : Nat) (x : α) :
    tget d (tset v i x) j = if i = j ∧ i < n then x else tget d v j := by
  simp only [tget, tset, List.getD_eq_getElem?_getD, Vector.toList_mk, List.getElem?_set]
  by_cases h : i = j
  · subst h
    by_cases h' : i < n <;> simp [h']
  · simp [h]

/-- An entry of a table every entry of which is mapped. -/
theorem tget_tmap (f : α → β) (d : α) (v : Vector α n) (j : Nat) :
    tget (f d) (tmap f v) j = f (tget d v j) := by
  simp [tget, tmap, List.getD_eq_getElem?_getD]

/-- An entry of a table filled by a function. -/
theorem tget_tgen (d : α) (f : Nat → α) (j : Nat) : tget d (tgen n f) j = if j < n then f j else d := by
  by_cases h : j < n <;> simp [tget, tgen, List.getD_eq_getElem?_getD, h]

/-- Beyond its end a table reads as the default. -/
theorem tget_beyond (d : α) (v : Vector α n) (j : Nat) (h : n ≤ j) : tget d v j = d := by
  simp [tget, List.getD_eq_getElem?_getD, h]

/-- Writing an entry twice keeps the second value. -/
theorem tset_tset (v : Vector α n) (i : Nat) (x y : α) : tset (tset v i x) i y = tset v i y := by
  simp [tset]

/-- Writing the value an entry holds changes nothing. -/
theorem tset_tget (d : α) (v : Vector α n) (i : Nat) : tset v i (tget d v i) = v := by
  apply Vector.toList_inj.mp
  simp only [tset, tget, Vector.toList_mk, List.getD_eq_getElem?_getD]
  apply List.ext_getElem?
  intro j
  rw [List.getElem?_set]
  by_cases h : i = j
  · subst h
    by_cases h' : i < n <;> simp [h']
  · simp [h]

namespace Machine

variable (s : State)

/-- An assembly record after one is written. -/
theorem State.setAsm_asm (a b : Nat) (r : AsmRecord) :
    (s.setAsm a r).asm b = if a = b ∧ a < 512 then r else s.asm b := tget_tset _ _ _ _ _

/-- A drawer record after one is written. -/
theorem State.setDrawer_drawer (d e : Nat) (r : Drawer) :
    (s.setDrawer d r).drawer e = if d = e ∧ d < 64 then r else s.drawer e := tget_tset _ _ _ _ _

/-- The release queue, the driver and the operations leave the drawer records. -/
@[simp] theorem State.setReleaseQueue_drawer (q : List Nat) (d : Nat) : (s.setReleaseQueue q).drawer d = s.drawer d := rfl

@[simp] theorem State.setDriver_drawer (r : Driver) (d : Nat) : (s.setDriver r).drawer d = s.drawer d := rfl

/-- An operation record after one is written. -/
theorem State.setOp_op (d e : Nat) (o : Option Operation) :
    (s.setOp d o).op e = if d = e ∧ d < 64 then o else s.op e := tget_tset _ _ _ _ _

/-- A cell's profile after one is written. -/
theorem State.setProfile_profile (c e : Nat) (p : Profile) :
    (s.setProfile c p).profile e = if c = e ∧ c < 16 then p else s.profile e := by
  simp only [State.profile, State.cell, State.setProfile_ctb, tget_tset]
  split <;> rfl

/-- A pocket map entry after one is written. -/
theorem State.setPocket_pocket (c p e q : Nat) (x : Pocket) :
    (s.setPocket c p x).pocket e q = if (c = e ∧ c < 16) ∧ p = q ∧ p < 128 then x else s.pocket e q := by
  simp only [State.pocket, State.cell, State.setPocket_ctb, tget_tset]
  by_cases h : c = e ∧ c < 16
  · obtain ⟨rfl, h⟩ := h
    simp [h, tget_tset]
  · simp [h]

/-- A pocket written leaves the profiles. -/
theorem State.setPocket_profile (c p e : Nat) (x : Pocket) : (s.setPocket c p x).profile e = s.profile e := by
  simp only [State.profile, State.cell, State.setPocket_ctb, tget_tset]
  by_cases h : c = e ∧ c < 16
  · obtain ⟨rfl, h⟩ := h
    simp [h]
  · simp [h]

/-- A profile written leaves the pockets. -/
theorem State.setProfile_pocket (c e q : Nat) (p : Profile) : (s.setProfile c p).pocket e q = s.pocket e q := by
  simp only [State.pocket, State.cell, State.setProfile_ctb, tget_tset]
  by_cases h : c = e ∧ c < 16
  · obtain ⟨rfl, h⟩ := h
    simp [h]
  · simp [h]

/-- The pick list after each update of the Cell Table. -/
@[simp] theorem State.setPicks_picks (l : List Pick) : (s.setPicks l).picks = l := rfl

@[simp] theorem State.setPocket_picks (c p : Nat) (x : Pocket) : (s.setPocket c p x).picks = s.picks := rfl

@[simp] theorem State.setProfile_picks (c : Nat) (p : Profile) : (s.setProfile c p).picks = s.picks := rfl

@[simp] theorem State.setPicks_pocket (l : List Pick) (c p : Nat) : (s.setPicks l).pocket c p = s.pocket c p := rfl

@[simp] theorem State.setPicks_profile (l : List Pick) (c : Nat) : (s.setPicks l).profile c = s.profile c := rfl

/-- A reference set after one is written. -/
theorem State.setRefSet_refSet (k j : Nat) (r : RefSet) :
    (s.setRefSet k r).refSet j = if k = j ∧ k < 4 then r else s.refSet j := tget_tset _ _ _ _ _

/-- A deferral slot after one is written. -/
theorem State.setSlot_slot (i j : Nat) (x : Slot) :
    (s.setSlot i x).slot j = if i = j ∧ i < 4 then x else s.slot j := tget_tset _ _ _ _ _

/-- A read-ahead buffer after one is written. -/
theorem State.setBuffer_buffer (c e : Nat) (b : Buffer) :
    (s.setBuffer c b).buffer e = if c = e ∧ c < 16 then b else s.buffer e := tget_tset _ _ _ _ _

@[simp] theorem State.setSlot_buffer (i c : Nat) (x : Slot) : (s.setSlot i x).buffer c = s.buffer c := rfl

@[simp] theorem State.setBuffer_slot (c i : Nat) (b : Buffer) : (s.setBuffer c b).slot i = s.slot i := rfl

/-- A page after one is written. -/
theorem State.setPage_page (k j : Nat) (p : Page) :
    (s.setPage k p).page j = if k = j ∧ k < 598 then p else s.page j := tget_tset _ _ _ _ _

@[simp] theorem State.setCommitQueue_page (q : List Nat) (k : Nat) : (s.setCommitQueue q).page k = s.page k := rfl

@[simp] theorem State.setFlight_page (f : Option Commit) (k : Nat) : (s.setFlight f).page k = s.page k := rfl

end Machine

end Sys2Proof
end

