-- ==== Sys2Proof/Laws/Ops.lean ====
section
/-! SUPPORT. For each shared operation, what it can do, said once: requests at their blocks, replies, notices, dirtying,
signals, changes of an assembly record, and the driver. -/

namespace Sys2Proof.Machine

open Sys2Proof

variable {s : State}

/-! ### Outcomes -/

/-- Every command answers a next state: no rule stops the part. -/
theorem exec_next (i : Instr) (s : State) : ∃ t, exec i s = .next t := by
  cases i <;> exact ⟨_, rfl⟩

/-- Every step answers a next state. -/
theorem step_next (s : State) : ∃ t, step s = .next t := by
  unfold step
  split
  · exact ⟨_, rfl⟩
  · exact exec_next _ _

/-! ### Requests -/

/-- A request that its block takes finds normal operation. -/
theorem taken_phase {p : Port} {i : Instr} {tag : Byte} (h : s.taken p i = some tag) : s.phase = .running := by
  unfold State.taken at h
  split at h
  · assumption
  · cases h

/-- A request that its block takes finds no kept reply. -/
theorem taken_keep {p : Port} {i : Instr} {tag : Byte} (h : s.taken p i = some tag) : (s.port p).keep = false := by
  unfold State.taken at h
  split at h
  · assumption
  · cases h

/-- What a taken request command does: the idle timer of the record it names restarts, the block carries it out, and its
answer is held. -/
theorem serve_taken {p : Port} {i : Instr} {tag : Byte} (f : State → State × Answer) (h : s.taken p i = some tag) :
    s.serve p i f = (f (s.touchNamed p i)).1.answer p tag (f (s.touchNamed p i)).2 := by
  have hp := taken_phase h
  have hk := taken_keep h
  unfold State.taken at h
  simp only [hp, hk] at h
  unfold State.serve State.take
  simp only [hp]
  cases hb : (s.port p).buf with
  | pending g j =>
    simp only [hb] at h ⊢
    by_cases e : j = i
    · simp only [e, if_true] at h ⊢
      cases h
      rfl
    · simp [e] at h
  | empty =>
    simp only [hb] at h ⊢
    by_cases e : requestPermitted i = true
    · simp only [e, if_true] at h ⊢
      cases h
      rfl
    · simp [e] at h
  | held r =>
    simp only [hb] at h ⊢
    by_cases e : requestPermitted i = true
    · simp only [e, if_true] at h ⊢
      cases h
      rfl
    · simp [e] at h

/-- An answer that is not the kept one, at a port with none kept. -/
theorem answer_replied {p : Port} (tag : Byte) (a : Answer) (h : (s.port p).keep = false) (k : a.keep = false) :
    s.answer p tag a = s.replied p ⟨a.status, a.clamped, tag, a.body⟩ := by
  simp only [State.answer, State.hold, State.replied, h, k]
  rfl

/-- A request that names no record, or one whose lock the port does not hold, restarts no idle timer. -/
theorem touchNamed_none {p : Port} {i : Instr} (h : ∀ a, namedAsm s.ocu i = some a → (s.asm a).holder ≠ some p) :
    s.touchNamed p i = s := by
  unfold State.touchNamed
  split
  · next a e => simp [State.touch, h a e]
  · rfl

/-- What the restart of an idle timer leaves in the record. -/
theorem touch_asm (p : Port) (a : Nat) (ha : a < 512) :
    (s.touch p a).asm a = { s.asm a with idle := if (s.asm a).holder = some p then 0 else (s.asm a).idle } := by
  unfold State.touch
  split <;> simp [State.setAsm_asm, ha]

/-- The restart of an idle timer is the record written. -/
theorem touch_eq (p : Port) (a : Nat) :
    s.touch p a = s.setAsm a { s.asm a with idle := if (s.asm a).holder = some p then 0 else (s.asm a).idle } := by
  unfold State.touch
  split
  · simp
  · show s = { s with atb := tset s.atb a (s.asm a) }
    rw [State.asm, tset_tget]

/-! ### Replies and notices -/

section frames

variable (s : State) (p : Port) (n : Notice) (r : Reply)

/-- A notice changes its port's queue and overflow mark alone. -/
theorem notify_eq : s.notify p n = s.setPort p { s.port p with
    notices := if (s.port p).notices.length < 16 then (s.port p).notices ++ [n] else (s.port p).notices
    overflow := (s.port p).overflow || decide (16 ≤ (s.port p).notices.length) } := by
  unfold State.notify
  split
  · next h => simp [Nat.not_le.mpr h]
  · next h => simp [Nat.not_lt.mp h]

@[simp] theorem notify_atb : (s.notify p n).atb = s.atb := by rw [notify_eq]; rfl
@[simp] theorem notify_ocu : (s.notify p n).ocu = s.ocu := by rw [notify_eq]; rfl
@[simp] theorem notify_rfs : (s.notify p n).rfs = s.rfs := by rw [notify_eq]; rfl
@[simp] theorem notify_drc : (s.notify p n).drc = s.drc := by rw [notify_eq]; rfl
@[simp] theorem notify_coc : (s.notify p n).coc = s.coc := by rw [notify_eq]; rfl
@[simp] theorem notify_ctb : (s.notify p n).ctb = s.ctb := by rw [notify_eq]; rfl
@[simp] theorem notify_hob : (s.notify p n).hob = s.hob := by rw [notify_eq]; rfl
@[simp] theorem notify_rst : (s.notify p n).rst = s.rst := by rw [notify_eq]; rfl
@[simp] theorem notify_params : (s.notify p n).params = s.params := by rw [notify_eq]; rfl
@[simp] theorem notify_phase : (s.notify p n).phase = s.phase := by rw [notify_eq]; rfl
@[simp] theorem notify_pins : (s.notify p n).pins = s.pins := by rw [notify_eq]; rfl
@[simp] theorem notify_pending : (s.notify p n).pending = s.pending := by rw [notify_eq]; rfl
@[simp] theorem notify_asm (a : Nat) : (s.notify p n).asm a = s.asm a := by rw [notify_eq]; rfl
@[simp] theorem notify_drawer (d : Nat) : (s.notify p n).drawer d = s.drawer d := by rw [notify_eq]; rfl
@[simp] theorem notify_op (d : Nat) : (s.notify p n).op d = s.op d := by rw [notify_eq]; rfl
@[simp] theorem notify_pocket (c q : Nat) : (s.notify p n).pocket c q = s.pocket c q := by rw [notify_eq]; rfl
@[simp] theorem notify_profile (c : Nat) : (s.notify p n).profile c = s.profile c := by rw [notify_eq]; rfl
@[simp] theorem notify_picks : (s.notify p n).picks = s.picks := by rw [notify_eq]; rfl

/-- A notice leaves every request and reply buffer and every keep. -/
@[simp] theorem notify_buf (q : Port) : ((s.notify p n).port q).buf = (s.port q).buf := by
  rw [notify_eq, State.setPort_port]
  split <;> simp_all

@[simp] theorem notify_keep (q : Port) : ((s.notify p n).port q).keep = (s.port q).keep := by
  rw [notify_eq, State.setPort_port]
  split <;> simp_all

@[simp] theorem notify_dataOut (q : Port) : ((s.notify p n).port q).dataOut = (s.port q).dataOut := by
  rw [notify_eq, State.setPort_port]
  split <;> simp_all

/-- No notice makes a queue of at most 16 longer than 16 (R197). -/
theorem notify_bound (q : Port) (h : (s.port q).notices.length ≤ 16) : ((s.notify p n).port q).notices.length ≤ 16 := by
  rw [notify_eq, State.setPort_port]
  split
  · next e =>
    subst e
    dsimp only
    split
    · simp; omega
    · exact h
  · exact h

/-- The notices of an event depend on the queues alone. -/
theorem notify_ports {t : State} (h : s.ports = t.ports) : (s.notify p n).ports = (t.notify p n).ports := by
  have hp : ∀ q, s.port q = t.port q := by intro q; cases q <;> simp [State.port, h]
  rw [notify_eq, notify_eq, hp]
  cases p <;> simp [State.setPort, h]

/-- An answer changes its port's buffer and keep alone. -/
theorem hold_eq (k : Bool) : s.hold p r k = s.setPort p ((s.hold p r k).port p) := by
  unfold State.hold
  split
  · cases p <;> rfl
  · simp

end frames

/-! ### Dirtying -/

/-- Dirtying touches the commit queue and the commit in flight alone. -/
theorem kickEngine_eq (s : State) : s.kickEngine = { s with rst := s.kickEngine.rst } := by
  unfold State.kickEngine
  split <;> rfl

theorem enqueueKey_eq (s : State) (k : Nat) : s.enqueueKey k = { s with rst := (s.enqueueKey k).rst } := by
  unfold State.enqueueKey
  repeat' split
  all_goals rfl

theorem dirty_eq (s : State) (k : Nat) : s.dirty k = { s with rst := (s.dirty k).rst } := by
  unfold State.dirty
  rw [kickEngine_eq, enqueueKey_eq]

/-- The view of a record depends on the records alone. -/
theorem viewOf_congr {t : State} (h : t = { s with rst := t.rst, ports := t.ports, coc := t.coc, hob := t.hob }) (k : Nat) :
    t.viewOf k = s.viewOf k := by
  rw [h]; rfl

/-- A dirtied key will be written with what its record holds; the pages stay, and every other key waits or not as it did. The
key enters at the tail, or keeps its place, or sets the redirty mark of its commit, or is taken by the idle engine (R178,
R179). -/
theorem dirty_dirties (s : State) (k : Nat) : Dirties s (s.dirty k) [k] := by
  unfold State.dirty State.kickEngine State.enqueueKey
  refine ⟨?_, ?_, ?_, by simp, fun c hc => ?_, fun j q hj hf hq => ?_⟩
  · repeat' split
    all_goals rfl
  · intro j hj
    obtain rfl : j = k := by simpa using hj
    unfold State.willWrite
    by_cases hk : j ∈ s.rst.queue
    · simp only [hk, if_true]
      split
      · next q hf hq =>
        rw [hq] at hk
        rcases List.mem_cons.mp hk with h | h
        · exact .inr ⟨_, rfl, h.symm, .inr (by subst h; rfl)⟩
        · exact .inl h
      · exact .inl hk
    · simp only [hk, if_false]
      cases hf : s.rst.flight with
      | none =>
        simp only [State.setCommitQueue_rst, hf]
        cases hq : s.rst.queue with
        | nil => exact .inr ⟨_, rfl, rfl, .inr rfl⟩
        | cons x l => exact .inl (by simp)
      | some f =>
        by_cases h : f.key = j
        · simp only [h, if_true, State.setFlight_rst]
          exact .inr ⟨_, rfl, rfl, .inl rfl⟩
        · simp only [h, if_false, State.setCommitQueue_rst, hf]
          exact .inl (by simp)
  · intro j hj
    have hj : j ≠ k := by simpa using hj
    unfold State.queued
    by_cases hk : k ∈ s.rst.queue
    · simp only [hk, if_true]
      split
      · next x q hf hq =>
        simp [hf, hq, eq_comm, or_comm]
      · rfl
    · simp only [hk, if_false]
      cases hf : s.rst.flight with
      | none =>
        simp only [State.setCommitQueue_rst, hf]
        cases hq : s.rst.queue with
        | nil => simp [hf, hj, eq_comm]
        | cons x l => simp [hf, hj, eq_comm, or_comm]
      | some f =>
        by_cases h : f.key = k
        · simp [h]
        · simp [h, hf, hj]
  · by_cases hk : k ∈ s.rst.queue
    · simp only [hk, if_true, hc]
      by_cases h : c.key = k
      · subst h
        simp [hk]
      · simp [hk, h]
    · by_cases h : c.key = k
      · simp [hk, hc, h]
      · simp [hk, hc, h, Ne.symm h]
  · obtain ⟨rfl, rfl⟩ : k = j ∧ [] = q := by simpa using hj
    simp [hf, hq]
    rfl

/-- Two dirtyings one after the other, of keys not listed twice, the second leaving the views of the first's keys. -/
theorem Dirties.append {s t u : State} {l m : List Nat} (h : Dirties s t l) (h' : Dirties t u m) (hd : l.Disjoint m)
    (hv : ∀ k ∈ l, u.viewOf k = t.viewOf k) (hw : ∀ k ∈ l, t.willWrite k → u.willWrite k) : Dirties s u (l ++ m) := by
  obtain ⟨hp, hl, hn, h0, hc, hi⟩ := h
  obtain ⟨hp', hl', hn', h0', hc', hi'⟩ := h'
  refine ⟨hp'.trans hp, ?_, ?_, ?_, fun c hs => ?_, fun k q hk hf hq => ?_⟩
  · intro k hk
    rcases List.mem_append.mp hk with hk | hk
    · exact hw k hk (hl k hk)
    · exact hl' k hk
  · intro k hk
    simp only [List.mem_append, not_or] at hk
    exact (hn' k hk.2).trans (hn k hk.1)
  · intro hlm
    obtain ⟨rfl, rfl⟩ := List.append_eq_nil_iff.mp hlm
    exact (h0' rfl).trans (h0 rfl)
  · obtain ⟨hq, hf⟩ := hc c hs
    obtain ⟨hq', hf'⟩ := hc' _ hf
    refine ⟨?_, ?_⟩
    · rw [hq', hq, List.filter_append, List.append_assoc]
      congr 2
      refine List.filter_congr fun k hk => ?_
      have : k ∉ l := fun h => hd h hk
      simp [this]
    · rw [hf', hq]
      simp only [List.mem_append, List.mem_filter]
      by_cases hx : c.key ∈ l <;> by_cases hy : c.key ∈ m <;> by_cases hz : c.key ∈ s.rst.queue <;> simp [hx, hy, hz]
  · cases l with
    | nil =>
      have h := h0 rfl
      exact hi' k q hk (h ▸ hf) (h ▸ hq)
    | cons x l =>
      obtain ⟨rfl, rfl⟩ : x = k ∧ l ++ m = q := by simpa using hk
      obtain ⟨hq1, hf1⟩ := hi x l rfl hf hq
      obtain ⟨hq2, hf2⟩ := hc' _ hf1
      have hx : x ∉ m := fun h => hd (List.mem_cons_self) h
      refine ⟨?_, ?_⟩
      · rw [hq2, hq1]
        congr 1
        refine List.filter_eq_self.mpr fun y hy => ?_
        have h1 : y ∉ l := fun h => hd (List.mem_cons_of_mem _ h) hy
        have h2 : y ≠ x := fun h => hx (h ▸ hy)
        simp [h1, h2]
      · rw [hf2, hv x List.mem_cons_self]
        simp [hx]

/-! ### Signals -/

theorem kickBuilder_eq (s : State) : s.kickBuilder = { s with hob := s.kickBuilder.hob } := by
  unfold State.kickBuilder
  split
  · rfl
  · split
    · dsimp only
      split <;> rfl
    · dsimp only
      split <;> rfl
    · rfl

/-- A signal acts on the Handoff Builder alone (R166). -/
theorem disturb_eq (s : State) (g : Signal) : s.disturb g = { s with hob := (s.disturb g).hob } := by
  unfold State.disturb
  rcases hb : s.hob.builder with _ | ⟨_ | c, dt, b⟩ <;> dsimp only
  · rfl
  · rfl
  · split
    · rw [kickBuilder_eq]; rfl
    · rfl

theorem signalPocket_eq (s : State) (x : Option (Nat × Nat)) :
    s.signalPocket x = { s with hob := (s.signalPocket x).hob } := by
  unfold State.signalPocket
  split
  · rw [disturb_eq]
  · rfl

/-! ### Assembly records -/

/-- A changed record is written, and beyond it only the Handoff Builder can change (R20). -/
theorem changeAsm_eq (s : State) (a : Nat) (r : AsmRecord) :
    s.changeAsm a r = { s.setAsm a r with hob := (s.changeAsm a r).hob } := by
  unfold State.changeAsm
  dsimp only
  split
  · split
    · rw [signalPocket_eq]
    · rw [signalPocket_eq, signalPocket_eq (s := s.setAsm a r)]
  · rfl

/-- A change that leaves the assembly without a pocket before and after signals nothing (R20). -/
theorem changeAsm_quiet (a : Nat) (r : AsmRecord) (h : s.pocketOf a = none) (h' : (s.setAsm a r).pocketOf a = none) :
    s.changeAsm a r = s.setAsm a r := by
  unfold State.changeAsm
  simp [h, h', State.signalPocket]

/-- A change that is not handoff-relevant signals nothing (R19). -/
theorem changeAsm_same (a : Nat) (r : AsmRecord) (h : (s.asm a).handoffChanged r = false) :
    s.changeAsm a r = s.setAsm a r := by
  unfold State.changeAsm
  simp [h]

/-- An assembly has a pocket only in ISSUING, ISSUED and EXHAUSTED (R20). -/
theorem pocketOf_none {a : Nat} (h : (s.asm a).state ≠ .issuing) (h' : (s.asm a).state ≠ .issued)
    (h'' : (s.asm a).state ≠ .exhausted) : s.pocketOf a = none := by
  unfold State.pocketOf
  split
  · simp_all
  · simp_all
  · simp_all
  · rfl

/-! ### The driver -/

/-- A driver that is BUSY or in FAULT takes nothing from the queue (R74). -/
theorem runDriver_stays (n : Nat) (h : s.drc.driver.pulsing.isSome = true ∨ s.drc.driver.fault = true) :
    State.runDriver n s = s := by
  cases n with
  | zero => rfl
  | succ n =>
    unfold State.runDriver
    rcases h with h | h <;> cases hp : s.drc.driver.pulsing <;> simp_all

/-- A driver with an empty queue takes nothing. -/
theorem kickDriver_empty (h : s.drc.queue = []) : s.kickDriver = s := by
  unfold State.kickDriver
  simp [h, State.runDriver]

/-- A BUSY driver or one in FAULT stays as it is. -/
theorem kickDriver_stays (h : s.drc.driver.pulsing.isSome = true ∨ s.drc.driver.fault = true) : s.kickDriver = s :=
  runDriver_stays _ h

/-- An IDLE and OK driver begins the pulse of the head, the sense input not asserted (R74, R76). -/
theorem kickDriver_takes {d : Nat} {q : List Nat} (h : s.drc.driver.pulsing = none) (h' : s.drc.driver.fault = false)
    (hq : s.drc.queue = d :: q) (hs : s.pins.sense ≠ .asserted) : s.kickDriver = (s.setReleaseQueue q).beginPulse d := by
  unfold State.kickDriver
  rw [hq]
  simp only [List.length_cons, State.runDriver, h, h', hq]
  simp [State.beginPulse, hs]

end Sys2Proof.Machine
end

