-- ==== Sys2Proof/Laws/PerInstr.lean ====
section
/-! SUPPORT. The family `Coverage` of per-command lemmas: every command either is carried by no frame and has no port, or has
a row of Table 10.3 that lists its port and gives the length of its body. -/

namespace Sys2Proof.Laws

open Sys2Proof Sys2Proof.Machine

/-- A number written in `w` bytes has `w` bytes. -/
theorem leBytes_length (w v : Nat) : (leBytes w v).length = w := by
  induction w generalizing v with
  | zero => rfl
  | succ w ih => simp [leBytes, ih]

/-- An optional argument takes the room of its presence byte and its value. -/
theorem optBytes_length (w : Nat) (x : Option (List Byte)) (h : ∀ l, x = some l → l.length = w) :
    (optBytes w x).length = w + 1 := by
  cases x with
  | none => simp [optBytes]
  | some l => simp [optBytes, h l rfl]

/-- The values of a curve take two bytes each. -/
theorem curveBytes_length (vs : List Int) : ((vs.map (signedBytes 2)).flatten).length = 2 * vs.length := by
  induction vs with
  | nil => rfl
  | cons v vs ih =>
    simp only [List.map_cons, List.flatten_cons, List.length_append, List.length_cons, ih, signedBytes, leBytes_length]
    omega

/-- The frame coverage of a command (Table 10.3): with no port it has no frame; with one, the kind's row lists the port
exactly when the request is permitted there, and a well-formed request's body has the row's length. -/
def Coverage.Statement (i : Instr) : Prop :=
  match requestPort i, requestBytes i with
  | none, none => True
  | some p, some (code, body) => ∃ r, kindRow code = some r ∧ (p ∈ r.ports ↔ requestPermitted i = true) ∧
      (i.wellFormed = true → body.length = r.length)
  | _, _ => False

theorem Coverage.requestFrameEnd (p : Port) (bytes : List Byte) (midByte : Bool) : Coverage.Statement (.requestFrameEnd p bytes midByte) := trivial

theorem Coverage.replyRead (p : Port) (clocked : Nat) : Coverage.Statement (.replyRead p clocked) := trivial

theorem Coverage.measureOpen (asm : Nat) :
    Coverage.Statement (.measureOpen asm) :=
  ⟨_, rfl, by simp [requestPermitted], fun _ => by simp [leBytes_length]⟩

theorem Coverage.reading (z x : Nat) :
    Coverage.Statement (.reading z x) :=
  ⟨_, rfl, by simp [requestPermitted], fun _ => by simp [leBytes_length]⟩

theorem Coverage.sessionClose (temp : Int) :
    Coverage.Statement (.sessionClose temp) :=
  ⟨_, rfl, by simp [requestPermitted], fun _ => by simp [leBytes_length, signedBytes]⟩

theorem Coverage.sessionAbandon :
    Coverage.Statement .sessionAbandon :=
  ⟨_, rfl, by simp [requestPermitted], fun _ => rfl⟩

theorem Coverage.zeroOpen (set : Nat) :
    Coverage.Statement (.zeroOpen set) :=
  ⟨_, rfl, by simp [requestPermitted], fun _ => by simp [leBytes_length]⟩

theorem Coverage.spanOpen (set lm dm : Nat) :
    Coverage.Statement (.spanOpen set lm dm) :=
  ⟨_, rfl, by simp [requestPermitted], fun _ => by simp [leBytes_length]⟩

theorem Coverage.selectReference (set : Nat) :
    Coverage.Statement (.selectReference set) :=
  ⟨_, rfl, by simp [requestPermitted], fun _ => by simp [leBytes_length]⟩

theorem Coverage.certifyReference (set : Nat) :
    Coverage.Statement (.certifyReference set) :=
  ⟨_, rfl, by simp [requestPermitted], fun _ => by simp [leBytes_length]⟩

theorem Coverage.unlockReference (set : Nat) :
    Coverage.Statement (.unlockReference set) :=
  ⟨_, rfl, by simp [requestPermitted], fun _ => by simp [leBytes_length]⟩

theorem Coverage.writeCurve (values : List Int) :
    Coverage.Statement (.writeCurve values) :=
  ⟨_, rfl, by simp [requestPermitted], fun h => by
    have h : values.length = 9 := by simp [Instr.wellFormed] at h; exact h.1
    rw [curveBytes_length, h]⟩

theorem Coverage.readReference (set : Nat) :
    Coverage.Statement (.readReference set) :=
  ⟨_, rfl, by simp [requestPermitted], fun _ => by simp [leBytes_length]⟩

theorem Coverage.readCurve :
    Coverage.Statement .readCurve :=
  ⟨_, rfl, by simp [requestPermitted], fun _ => rfl⟩

theorem Coverage.register (asm : Nat) (family : Option Nat) (nomLength nomRadius : Option (Nat × Nat)) (mode limit warn : Nat) :
    Coverage.Statement (.register asm family nomLength nomRadius mode limit warn) := by
  refine ⟨_, rfl, by simp [requestPermitted], fun _ => ?_⟩
  have hf : (optBytes 1 (family.map (leBytes 1))).length = 2 := optBytes_length 1 _ (by
    cases family <;> simp [leBytes_length])
  have hp : ∀ x : Option (Nat × Nat), (optBytes 8 (x.map pairBytes)).length = 9 := fun x => optBytes_length 8 _ (by
    cases x <;> simp [pairBytes, leBytes_length])
  simp only [List.length_append, leBytes_length, hf, hp]

theorem Coverage.retire (asm : Nat) :
    Coverage.Statement (.retire asm) :=
  ⟨_, rfl, by simp [requestPermitted], fun _ => by simp [leBytes_length]⟩

theorem Coverage.returnFromRegrind (asm : Nat) :
    Coverage.Statement (.returnFromRegrind asm) :=
  ⟨_, rfl, by simp [requestPermitted], fun _ => by simp [leBytes_length]⟩

theorem Coverage.stock (asm drawer : Nat) :
    Coverage.Statement (.stock asm drawer) :=
  ⟨_, rfl, by simp [requestPermitted], fun _ => by simp [leBytes_length]⟩

theorem Coverage.withdraw (asm : Nat) :
    Coverage.Statement (.withdraw asm) :=
  ⟨_, rfl, by simp [requestPermitted], fun _ => by simp [leBytes_length]⟩

theorem Coverage.issue (asm cell pocket : Nat) :
    Coverage.Statement (.issue asm cell pocket) :=
  ⟨_, rfl, by simp [requestPermitted], fun _ => by simp [leBytes_length]⟩

theorem Coverage.issuePick (cell pocket : Nat) :
    Coverage.Statement (.issuePick cell pocket) :=
  ⟨_, rfl, by simp [requestPermitted], fun _ => by simp [leBytes_length]⟩

theorem Coverage.returnTool (asm drawer condition : Nat) :
    Coverage.Statement (.returnTool asm drawer condition) :=
  ⟨_, rfl, by simp [requestPermitted], fun _ => by simp [leBytes_length]⟩

theorem Coverage.cancelDrawer (drawer : Nat) :
    Coverage.Statement (.cancelDrawer drawer) :=
  ⟨_, rfl, by simp [requestPermitted], fun _ => by simp [leBytes_length]⟩

theorem Coverage.clearJam (drawer : Nat) :
    Coverage.Statement (.clearJam drawer) :=
  ⟨_, rfl, by simp [requestPermitted], fun _ => by simp [leBytes_length]⟩

theorem Coverage.clearDriver :
    Coverage.Statement .clearDriver :=
  ⟨_, rfl, by simp [requestPermitted], fun _ => rfl⟩

theorem Coverage.setLife (asm mode limit warn : Nat) :
    Coverage.Statement (.setLife asm mode limit warn) :=
  ⟨_, rfl, by simp [requestPermitted], fun _ => by simp [leBytes_length]⟩

theorem Coverage.writeCell (cell size unit form order : Nat) (datum : Int) (factor auto : Nat) :
    Coverage.Statement (.writeCell cell size unit form order datum factor auto) :=
  ⟨_, rfl, by simp [requestPermitted], fun _ => by simp [leBytes_length, signedBytes]⟩

theorem Coverage.readDrawer (drawer : Nat) :
    Coverage.Statement (.readDrawer drawer) :=
  ⟨_, rfl, by simp [requestPermitted], fun _ => by simp [leBytes_length]⟩

theorem Coverage.readPicks :
    Coverage.Statement .readPicks :=
  ⟨_, rfl, by simp [requestPermitted], fun _ => rfl⟩

theorem Coverage.restart :
    Coverage.Statement .restart :=
  ⟨_, rfl, by simp [requestPermitted], fun _ => rfl⟩

theorem Coverage.lock (p : Port) (asm : Nat) :
    Coverage.Statement (.lock p asm) :=
  ⟨_, rfl, by cases p <;> simp [requestPermitted], fun _ => by simp [leBytes_length]⟩

theorem Coverage.unlock (p : Port) (asm : Nat) :
    Coverage.Statement (.unlock p asm) :=
  ⟨_, rfl, by cases p <;> simp [requestPermitted], fun _ => by simp [leBytes_length]⟩

theorem Coverage.readRecord (p : Port) (asm : Nat) :
    Coverage.Statement (.readRecord p asm) :=
  ⟨_, rfl, by cases p <;> simp [requestPermitted], fun _ => by simp [leBytes_length]⟩

theorem Coverage.handoff (cell start size : Nat) :
    Coverage.Statement (.handoff cell start size) :=
  ⟨_, rfl, by simp [requestPermitted], fun _ => by simp [leBytes_length]⟩

theorem Coverage.usage (cell pocket seconds count : Nat) :
    Coverage.Statement (.usage cell pocket seconds count) :=
  ⟨_, rfl, by simp [requestPermitted], fun _ => by simp [leBytes_length]⟩

theorem Coverage.requestTool (cell pocket family : Nat) :
    Coverage.Statement (.requestTool cell pocket family) :=
  ⟨_, rfl, by simp [requestPermitted], fun _ => by simp [leBytes_length]⟩

theorem Coverage.withdrawRequest (cell pocket : Nat) :
    Coverage.Statement (.withdrawRequest cell pocket) :=
  ⟨_, rfl, by simp [requestPermitted], fun _ => by simp [leBytes_length]⟩

theorem Coverage.readCell (cell : Nat) :
    Coverage.Statement (.readCell cell) :=
  ⟨_, rfl, by simp [requestPermitted], fun _ => by simp [leBytes_length]⟩

theorem Coverage.readNotice (p : Port) :
    Coverage.Statement (.readNotice p) :=
  ⟨_, rfl, by cases p <;> simp [requestPermitted], fun _ => rfl⟩

theorem Coverage.status (p : Port) :
    Coverage.Statement (.status p) :=
  ⟨_, rfl, by cases p <;> simp [requestPermitted], fun _ => rfl⟩

theorem Coverage.setParameter (p : Port) (number value : Nat) :
    Coverage.Statement (.setParameter p number value) :=
  ⟨_, rfl, by cases p <;> simp [requestPermitted], fun _ => by simp [leBytes_length]⟩

theorem Coverage.openSeen (d : Fin 64) : Coverage.Statement (.openSeen d) := trivial

theorem Coverage.closeSeen (d : Fin 64) : Coverage.Statement (.closeSeen d) := trivial

theorem Coverage.presenceLevelChange (d : Fin 64) (present : Bool) : Coverage.Statement (.presenceLevelChange d present) := trivial

theorem Coverage.pulseWidthElapsed : Coverage.Statement (.pulseWidthElapsed) := trivial

theorem Coverage.overcurrent : Coverage.Statement (.overcurrent) := trivial

theorem Coverage.waitExpiry (d : Fin 64) : Coverage.Statement (.waitExpiry d) := trivial

theorem Coverage.openTimeExpiry (d : Fin 64) : Coverage.Statement (.openTimeExpiry d) := trivial

theorem Coverage.lockExpiry (a : Fin 512) : Coverage.Statement (.lockExpiry a) := trivial

theorem Coverage.discardExpiry (i : Fin 4) : Coverage.Statement (.discardExpiry i) := trivial

theorem Coverage.entryFormation : Coverage.Statement (.entryFormation) := trivial

theorem Coverage.slotBuildCompletion : Coverage.Statement (.slotBuildCompletion) := trivial

theorem Coverage.readAheadBuildCompletion : Coverage.Statement (.readAheadBuildCompletion) := trivial

theorem Coverage.commitCompletion : Coverage.Statement (.commitCompletion) := trivial

theorem Coverage.powerOn : Coverage.Statement (.powerOn) := trivial

theorem Coverage.powerLoss (page : PageOutcome) : Coverage.Statement (.powerLoss page) := trivial

theorem Coverage.resetInputAsserted (page : PageOutcome) : Coverage.Statement (.resetInputAsserted page) := trivial

theorem Coverage.resetInputReleased : Coverage.Statement (.resetInputReleased) := trivial

theorem Coverage.loadEnd : Coverage.Statement (.loadEnd) := trivial

theorem Coverage.mntInputChange (high : Bool) : Coverage.Statement (.mntInputChange high) := trivial

theorem Coverage.overcurrentSenseReleased : Coverage.Statement (.overcurrentSenseReleased) := trivial

end Sys2Proof.Laws
end

