-- ==== Sys2Proof/Tests/Slice0.lean ====
section
/-! SUPPORT. The package's own tests: ill-formed commands refused, frames and blocks written out byte by byte from the spec,
its worked tables, and for each statement with hypotheses a state and operands that meet them all, clause by clause. -/

namespace Sys2Proof.Tests

set_option Elab.async false

open Sys2Proof Sys2Proof.Machine

/-! ### Ill-formed commands -/

theorem test_wf_frame_of_kind_zero : (Instr.requestFrameEnd .P [0x00] false).wellFormed = false := by decide

theorem test_wf_measureOpen : (Instr.measureOpen 65536).wellFormed = false := by decide

theorem test_wf_reading : (Instr.reading 4294967296 0).wellFormed = false ∧
    (Instr.reading 0 4294967296).wellFormed = false := by decide

theorem test_wf_sessionClose : (Instr.sessionClose 32768).wellFormed = false ∧
    (Instr.sessionClose (-32769)).wellFormed = false ∧ (Instr.sessionClose (-32768)).wellFormed = true := by decide

theorem test_wf_set_number : (Instr.zeroOpen 256).wellFormed = false ∧ (Instr.selectReference 256).wellFormed = false ∧
    (Instr.certifyReference 256).wellFormed = false ∧ (Instr.unlockReference 256).wellFormed = false ∧
    (Instr.readReference 256).wellFormed = false := by decide

theorem test_wf_spanOpen : (Instr.spanOpen 256 0 0).wellFormed = false ∧
    (Instr.spanOpen 0 4294967296 0).wellFormed = false ∧ (Instr.spanOpen 0 0 4294967296).wellFormed = false := by decide

theorem test_wf_writeCurve : (Instr.writeCurve [0, 0, 0, 0, 0, 0, 0, 0]).wellFormed = false ∧
    (Instr.writeCurve [0, 0, 0, 0, 40000, 0, 0, 0, 0]).wellFormed = false := by decide

theorem test_wf_register : (Instr.register 65536 none none none 0 0 0).wellFormed = false ∧
    (Instr.register 0 (some 256) none none 0 0 0).wellFormed = false ∧
    (Instr.register 0 none (some (4294967296, 0)) none 0 0 0).wellFormed = false ∧
    (Instr.register 0 none none (some (0, 4294967296)) 0 0 0).wellFormed = false ∧
    (Instr.register 0 none none none 256 0 0).wellFormed = false ∧
    (Instr.register 0 none none none 0 4294967296 0).wellFormed = false ∧
    (Instr.register 0 none none none 0 0 256).wellFormed = false := by decide

theorem test_wf_assembly_number : (Instr.retire 65536).wellFormed = false ∧
    (Instr.returnFromRegrind 65536).wellFormed = false ∧ (Instr.withdraw 65536).wellFormed = false ∧
    (Instr.lock .P 65536).wellFormed = false ∧ (Instr.unlock .P 65536).wellFormed = false ∧
    (Instr.readRecord .P 65536).wellFormed = false := by decide

theorem test_wf_stock : (Instr.stock 65536 0).wellFormed = false ∧ (Instr.stock 0 256).wellFormed = false := by decide

theorem test_wf_issue : (Instr.issue 65536 0 0).wellFormed = false ∧ (Instr.issue 0 256 0).wellFormed = false ∧
    (Instr.issue 0 0 256).wellFormed = false := by decide

theorem test_wf_issuePick : (Instr.issuePick 256 0).wellFormed = false ∧ (Instr.issuePick 0 256).wellFormed = false := by
  decide

theorem test_wf_returnTool : (Instr.returnTool 65536 0 0).wellFormed = false ∧
    (Instr.returnTool 0 256 0).wellFormed = false ∧ (Instr.returnTool 0 0 256).wellFormed = false := by decide

theorem test_wf_drawer_number : (Instr.cancelDrawer 256).wellFormed = false ∧ (Instr.clearJam 256).wellFormed = false ∧
    (Instr.readDrawer 256).wellFormed = false := by decide

theorem test_wf_setLife : (Instr.setLife 65536 0 0 0).wellFormed = false ∧
    (Instr.setLife 0 256 0 0).wellFormed = false ∧ (Instr.setLife 0 0 4294967296 0).wellFormed = false ∧
    (Instr.setLife 0 0 0 256).wellFormed = false := by decide

theorem test_wf_writeCell : (Instr.writeCell 256 0 0 0 0 0 0 0).wellFormed = false ∧
    (Instr.writeCell 0 256 0 0 0 0 0 0).wellFormed = false ∧ (Instr.writeCell 0 0 256 0 0 0 0 0).wellFormed = false ∧
    (Instr.writeCell 0 0 0 256 0 0 0 0).wellFormed = false ∧ (Instr.writeCell 0 0 0 0 256 0 0 0).wellFormed = false ∧
    (Instr.writeCell 0 0 0 0 0 2147483648 0 0).wellFormed = false ∧
    (Instr.writeCell 0 0 0 0 0 0 256 0).wellFormed = false ∧
    (Instr.writeCell 0 0 0 0 0 0 0 256).wellFormed = false := by decide

theorem test_wf_handoff : (Instr.handoff 256 0 0).wellFormed = false ∧ (Instr.handoff 0 256 0).wellFormed = false ∧
    (Instr.handoff 0 0 256).wellFormed = false := by decide

theorem test_wf_usage : (Instr.usage 256 0 0 0).wellFormed = false ∧ (Instr.usage 0 256 0 0).wellFormed = false ∧
    (Instr.usage 0 0 4294967296 0).wellFormed = false ∧ (Instr.usage 0 0 0 4294967296).wellFormed = false := by decide

theorem test_wf_requestTool : (Instr.requestTool 256 0 0).wellFormed = false ∧
    (Instr.requestTool 0 256 0).wellFormed = false ∧ (Instr.requestTool 0 0 256).wellFormed = false := by decide

theorem test_wf_cell_requests : (Instr.withdrawRequest 256 0).wellFormed = false ∧
    (Instr.withdrawRequest 0 256).wellFormed = false ∧ (Instr.readCell 256).wellFormed = false := by decide

theorem test_wf_setParameter : (Instr.setParameter .P 256 0).wellFormed = false ∧
    (Instr.setParameter .P 0 4294967296).wellFormed = false := by decide

/-! ### Bytes -/

/-- R191's example: STATUS with tag 5Ah and an empty body. -/
theorem test_frame_status : frameOf 0x5A (.status .P) = [0x31, 0x5A, 0x00, 0x00, 0xCD] ∧
    parseFrame .P [0x31, 0x5A, 0x00, 0x00, 0xCD] false = .request 0x5A (.status .P) := by decide +kernel

/-- R191's example with one bit of the CRC byte, of the tag, or of the length changed. -/
theorem test_frame_damaged : parseFrame .P [0x31, 0x5A, 0x00, 0x00, 0xCC] false = .faulty 0x5A ∧
    parseFrame .P [0x31, 0x5B, 0x00, 0x00, 0xCD] false = .faulty 0x5B ∧
    parseFrame .P [0x31, 0x5A, 0x01, 0x00, 0xCD] false = .faulty 0x5A ∧
    parseFrame .P [0x31, 0x5A, 0x00, 0x00, 0xCD] true = .faulty 0x5A ∧
    parseFrame .P [0x31] false = .faulty 0x00 := by decide +kernel

/-- The bodies of one request of each family, written from Table 10.3 and R190: low byte first, two's complement, a presence
byte before each optional argument. -/
theorem test_bodies : requestOf .sessionClose .P [0xFF, 0xFF] = .sessionClose (-1) ∧
    requestOf .spanOpen .P [0x02, 0xF0, 0x49, 0x02, 0x00, 0xE0, 0x2E, 0x00, 0x00] = .spanOpen 2 150000 12000 ∧
    requestOf .issue .C [0x96, 0x00, 0x09, 0x0C] = .issue 150 9 12 ∧
    requestOf .lock .C [0x11, 0x01] = .lock .C 273 ∧
    requestOf .usage .M [0x06, 0x0E, 0xA0, 0x0F, 0x00, 0x00, 0x5A, 0x00, 0x00, 0x00] = .usage 6 14 4000 90 ∧
    requestOf .handoff .M [0x06, 0x17, 0x10] = .handoff 6 23 16 ∧
    requestOf .setParameter .C [0x09, 0xC8, 0x00, 0x00, 0x00] = .setParameter .C 9 200 ∧
    requestOf .writeCell .C [0x06, 0x28, 0x00, 0x01, 0x00, 0x1E, 0xFB, 0xFF, 0xFF, 0x08, 0x00]
      = .writeCell 6 40 0 1 0 (-1250) 8 0 := by decide +kernel

/-- REGISTER(150) of Table 11.1 with family 7 and both nominals present, and one with all three absent. -/
theorem test_body_register :
    requestOf .register .C [0x96, 0x00, 0x01, 0x07, 0x01, 0xB0, 0xB2, 0x15, 0x00, 0x32, 0x00, 0x00, 0x00,
      0x01, 0x60, 0xEA, 0x00, 0x00, 0x14, 0x00, 0x00, 0x00, 0x01, 0xF4, 0x01, 0x00, 0x00, 0x50]
      = .register 150 (some 7) (some (1422000, 50)) (some (60000, 20)) 1 500 80 ∧
    requestOf .register .C [0x96, 0x00, 0x00, 0x07, 0x00, 0xB0, 0xB2, 0x15, 0x00, 0x32, 0x00, 0x00, 0x00,
      0x00, 0x60, 0xEA, 0x00, 0x00, 0x14, 0x00, 0x00, 0x00, 0x01, 0xF4, 0x01, 0x00, 0x00, 0x50]
      = .register 150 none none none 1 500 80 := by decide +kernel

/-- The entry layout worked under Table 10.8, in LITTLE and in BIG. -/
theorem test_entry_layout :
    (Entry.mk .exhausted (some 214) (some 142077) (some 12001) (some 0) (some 33) false).bytes .little =
      [0x04, 0x1F, 0x00, 0xD6, 0x00, 0xFD, 0x2A, 0x02, 0x00, 0xE1, 0x2E, 0x00, 0x00, 0x00, 0x00, 0x00, 0x00, 0x21] ∧
    (Entry.mk .exhausted (some 214) (some 142077) (some 12001) (some 0) (some 33) false).bytes .big =
      [0x04, 0x1F, 0x00, 0x00, 0xD6, 0x00, 0x02, 0x2A, 0xFD, 0x00, 0x00, 0x2E, 0xE1, 0x00, 0x00, 0x00, 0x00, 0x21] := by
  decide +kernel

/-! ### The worked arithmetic of the spec -/

/-- Table 2.1. -/
def curveA : Curve := ⟨#[-12, -4, 6, 20, 32, 41, 48, 53, 56], by decide⟩

/-- The readings of Table 2.2. -/
def readingsA : List (Nat × Nat) := [(285412, 12000), (285410, 12002), (285415, 11999), (285460, 12050), (285411, 12001)]

/-- Table 2.3. -/
theorem test_table_2_3 : measure defaultParams curveA 1000 0 500 500 (some (1422000, 50)) (some (60000, 20)) readingsA 237
    = .success 1422017 60005 4 false := by decide +kernel

/-- Table 2.5. -/
theorem test_table_2_5 :
    measure defaultParams curveA 1000 0 500 500 none none [(500000, 8000), (500004, 8001), (500030, 8002), (500001, 7999)]
      345 = .success 2494870 40000 3 true ∧
    measure defaultParams curveA 1000 0 500 500 none none [(1048575, 9000), (300000, 9001), (300002, 9000)] 200
      = .failure .tooFew none 0 false ∧
    measure defaultParams curveA 1000 0 500 500 none none [(1000, 4000), (1000, 4000), (1000, 4000)] 200
      = .failure .underrange none 3 false ∧
    measure defaultParams curveA 1000 0 500 500 (some (1422000, 50)) (some (60000, 4)) readingsA 237
      = .failure .outOfTolerance (some (1422017, 60005)) 4 false := by decide +kernel

/-- Table 2.6. -/
theorem test_table_2_6 : interpolate curveA 165 = -10 ∧ interpolate curveA 270 = 45 ∧ interpolate curveA 160 = -12 ∧
    roundHalfAway ((3 - 10) * 10) 20 = -4 ∧ correctLength 250000 (-2) = 250001 ∧ roundHalfUp 250001 100 = 2500 ∧
    roundHalfUp 142201750 100 = 1422018 := by decide +kernel

/-- Tables 3.4 and 3.5, and the CAL_RANGE case below Table 3.6 (dz = 60,000). -/
theorem test_calibration : calibrateZero defaultParams [(1204, 803), (1206, 801), (1205, 802)] = some (1205, 802, 3) ∧
    calibrateSpan defaultParams 1205 802 150000 12000 [(301439, 12802), (301441, 12803), (301440, 12801), (301442, 12802)]
      = .calibrated 500 500 4 ∧
    calibrateSpan defaultParams 1000 0 150000 12000 [(61000, 12000), (61000, 12000), (61000, 12000)] = .calRange 3 := by
  decide +kernel

/-- Table 8.1. -/
theorem test_table_8_1 : decodeIdent 5 3 10 = ⟨5, 0, 8⟩ ∧ decodeIdent 6 23 16 = ⟨6, 16, 16⟩ ∧
    decodeIdent 2 127 32 = ⟨2, 96, 32⟩ ∧ decodeIdent 4 45 1 = ⟨4, 45, 1⟩ ∧ decodeIdent 1 9 200 = ⟨1, 0, 32⟩ := by
  decide +kernel

/-- Table 8.4 with the two cases around it. -/
theorem test_table_8_4 :
    convertLength .micron (-1250) ⟨1422017, 60005⟩ = 142077 ∧ convertLength .tenth (-1250) ⟨1422017, 60005⟩ = 1420767 ∧
    convertLength .inchE5 (-1250) ⟨1422017, 60005⟩ = 559357 ∧ convertRadius .micron .radius ⟨1422017, 60005⟩ = 6001 ∧
    convertRadius .micron .diameter ⟨1422017, 60005⟩ = 12001 ∧ convertRadius .tenth .radius ⟨1422017, 60005⟩ = 60005 ∧
    convertRadius .inchE5 .radius ⟨1422017, 60005⟩ = 23624 ∧ convertRadius .inchE5 .diameter ⟨1422017, 60005⟩ = 47248 ∧
    convertUnit .micron (-15) = -2 ∧ convertUnit .inchE5 (-1000) = -394 := by decide +kernel

/-! ### Small states -/

/-- Normal operation on a store never written. -/
def work : State := { State.reset with phase := .running }

/-- What a command leaves. -/
def after (i : Instr) (s : State) : State :=
  match exec i s with
  | .next t => t
  | _ => s

/-- A measured assembly of family 7 in COUNT mode. -/
def tool (st : AsmState) (limit used : Nat) : AsmRecord :=
  { blankRecord st with
    family := some 7, geometry := some ⟨1422017, 60005⟩, facts := some ⟨1, true, 237, 4, 1, false⟩, mode := .count,
    limit := limit, used := used, committed := used }

/-- The operation of a drawer with its drawer in a state. -/
def release (d : Nat) (st : DrawerState) (o : Operation) (s : State) : State :=
  (s.setOp d (some o)).setDrawer d { s.drawer d with state := st, levelOpen := decide (st = .opened) }

/-- The driver busy with drawer 60. -/
def busyDriver (s : State) : State :=
  (s.setDrawer 60 { s.drawer 60 with state := .pulsing }).setDriver { s.drc.driver with
    pulsing := some 60, pulseWidth := 150, bus := 60 }

/-- The presetting example of 2.7: set 1 as there, selected, and the curve of Table 2.1. -/
def hall : State :=
  ((work.setRefSet 1 (.spanned 1000 0 500 500 150000 12000 true)).setCurve curveA).setActive (some 1)

/-! ### One step at a time -/

theorem test_step_lock_free : ((after (.lock .C 511) work).asm 511).holder = some .C := by decide +kernel

theorem test_step_lock_above_511 :
    ((after (.lock .C 512) work).port .C).buf = .held ⟨.badArgument, false, 0, .empty⟩ := by decide +kernel

theorem test_step_measureOpen :
    ((after (.measureOpen 42) (hall.setAsm 42 (blankRecord .unmeasured))).asm 42).state = .measuring := by decide +kernel

/-- R28: no active set. -/
theorem test_step_measureOpen_no_set :
    ((after (.measureOpen 42) (work.setAsm 42 (blankRecord .unmeasured))).port .P).buf
      = .held ⟨.wrongState, false, 0, .empty⟩ := by decide +kernel

/-- R30: the list is full at 8. -/
theorem test_step_reading_full :
    ((after (.reading 1 1) (work.setSession (some ⟨.zero 0, List.replicate 8 (1, 1)⟩))).port .P).buf
      = .held ⟨.full, false, 0, .empty⟩ := by decide +kernel

/-- Table 2.4. -/
theorem test_step_sessionClose :
    ((after (.sessionClose 237) ((hall.setAsm 42 { blankRecord .measuring with
      prior := some .unmeasured, nomLength := some (1422000, 50), nomRadius := some (60000, 20),
      holder := some .P }).setSession (some ⟨.measure 42 1, readingsA⟩))).asm 42).geometry = some ⟨1422017, 60005⟩ := by
  decide +kernel

/-- R33: a temperature above 600 is refused and the session stays. -/
theorem test_step_sessionClose_601 : (after (.sessionClose 601) (work.setSession (some ⟨.zero 0, []⟩))).ocu
    = some ⟨.zero 0, []⟩ := by decide +kernel

/-- Table 3.6: MNT low refuses UNLOCK_REFERENCE. -/
theorem test_step_unlockReference_low : (after (.unlockReference 1) hall).refSet 1
    = .spanned 1000 0 500 500 150000 12000 true := by decide +kernel

theorem test_step_writeCurve_clamps :
    tget 0 (after (.writeCurve [501, -501, 500, -500, 0, 0, 0, 0, 9]) work).rfs.curve 0 = 500 ∧
    tget 0 (after (.writeCurve [501, -501, 500, -500, 0, 0, 0, 0, 9]) work).rfs.curve 1 = -500 ∧
    tget 0 (after (.writeCurve [501, -501, 500, -500, 0, 0, 0, 0, 9]) work).rfs.curve 8 = 9 := by decide +kernel

/-- Table 4.3, the first five columns. -/
theorem test_table_4_3 : [0, 1, 2, 3, 4].map (fun n =>
    let t := after .pulseWidthElapsed ((release 9 .pulsing ⟨.stock, 5, none⟩ (work.setDrawer 9
      { work.drawer 9 with attempts := n })).setDriver ⟨some 9, false, 0, 150, 150, 9⟩)
    ((t.drawer 9).state, (t.drawer 9).waitTime)) =
    [(.retryWait, 300), (.retryWait, 300), (.backoff, 10000), (.retryWait, 300), (.retryWait, 300)] := by decide +kernel

/-- Table 4.3, the last column. -/
theorem test_table_4_3_jam :
    ((after .pulseWidthElapsed ((release 9 .pulsing ⟨.stock, 5, none⟩ (work.setDrawer 9
      { work.drawer 9 with attempts := 5 })).setDriver ⟨some 9, false, 0, 150, 150, 9⟩)).drawer 9).state = .jammed := by
  decide +kernel

/-- The state at the start of Table 4.8. -/
def shorted : State :=
  ((release 3 .pulsing ⟨.stock, 3, none⟩ (release 5 .queued ⟨.stock, 5, none⟩ (release 20 .queued ⟨.stock, 20, none⟩
    work))).setDriver ⟨some 3, false, 0, 12, 150, 3⟩).setReleaseQueue [5, 20]

/-- Table 4.8. -/
theorem test_table_4_8 :
    ((after .overcurrent shorted).drawer 5).state = .pulsing ∧
    ((after .overcurrent (after .overcurrent (after .overcurrent shorted))).port .C).notices.map
      (fun n => match n with
        | .driverFault d k => (0, d, k)
        | .opDone x => (1, x.drawer, 0)
        | _ => (2, 0, 0)) = [(0, 20, 3), (1, 3, 0), (1, 5, 0), (1, 20, 0)] := by decide +kernel

/-- Table 6.4. -/
def family12 : State :=
  [(70, LifeMode.count, 600, 2400, true, none), (71, .time, 1800, 7200, true, none), (72, .count, 500, 0, false, none),
    (73, .none, 1, 0, true, some Port.P), (75, .count, 400, 1597, true, none)].foldl
    (fun s x => match x with
      | (a, m, l, u, k, h) => s.setAsm a { tool .ready l u with
          family := some 12, mode := m, facts := some ⟨1, k, 200, 3, 0, false⟩, stock := some 30, holder := h }) work

/-- Table 6.5, and the choice with the lock of 73 released. -/
theorem test_table_6_5 : family12.chooseSister 12 = some 75 ∧
    (family12.setAsm 73 { family12.asm 73 with holder := none }).chooseSister 12 = some 73 ∧
    (family12.setAsm 75 (blankRecord .vacant)).chooseSister 12 = some 70 := by decide +kernel

/-- Table 6.6. -/
def cell5 : State :=
  ((((((work.setProfile 5 { defaultProfile with size := 40, autoRequest := true }).setPocket 5 22 (.bound 88)).setPocket 5
    30 (.bound 90)).setPocket 5 31 (.bound 91)).setAsm 88 { tool .issued 500 3992 with binding := some (5, 22) }).setAsm 90
    { tool .exhausted 500 4000 with binding := some (5, 30) }).setAsm 91 { tool .issued 500 0 with
      binding := some (5, 31), facts := some ⟨1, false, 237, 4, 1, false⟩ }

/-- The exhaustion of 6.6: an AUTO entry without a sister, none with assembly 91's mark set. -/
theorem test_step_usage_auto : (after (.usage 5 22 1 1) cell5).picks = [⟨5, 22, 7, .auto, .waitEmpty⟩] ∧
    (after (.usage 5 22 1 1) (cell5.setAsm 91 { tool .issued 500 0 with binding := some (5, 31) })).picks = [] := by
  decide +kernel

/-- The tool of Table 7.1. -/
def tool130 (used : Nat) : State :=
  ((work.setProfile 6 { defaultProfile with size := 40, factor := 12 }).setPocket 6 14 (.bound 130)).setAsm 130
    { tool .issued 1800 used with mode := .time, binding := some (6, 14) }

/-- Table 7.1, row by row: used, state, warned mark, and whether the record is taken to be committed. -/
theorem test_table_7_1 :
    [(0, 0, 120), (1440, 1440, 15), (1620, 1440, 600), (8820, 8820, 250), (11820, 11820, 4000)].map (fun x =>
      let s := tool130 x.1
      let t := after (.usage 6 14 x.2.2 1) (s.setAsm 130 { s.asm 130 with committed := x.2.1 })
      ((t.asm 130).used, (t.asm 130).state, (t.asm 130).warned, t.rst.flight.isSome)) =
    [(1440, .issued, false, true), (1620, .issued, false, false), (8820, .issued, false, true),
      (11820, .issued, true, true), (55020, .exhausted, true, true)] := by decide +kernel

/-- The last two figures of 7.4: the staged limit goes live at the return. -/
theorem test_return_applies_staged :
    let s := work.setAsm 130 { tool .exhausted 1800 56220 with
      mode := .time, staged := some (9000, 80), warned := true, binding := some (6, 14) }
    let t := after (.closeSeen 9) ((release 9 .opened ⟨.giveBack .good, 130, some true⟩ s).setDrawer 9
      { s.drawer 9 with state := .opened, levelOpen := true, present := true })
    (t.asm 130).state = .ready ∧ (t.asm 130).warned = false ∧ (t.asm 130).stock = some 9 ∧ (t.drawer 9).stock = some 130 :=
  by decide +kernel

/-- The three outcomes that R181 leaves to the store, as the load that follows reads them (R23, R89). -/
theorem test_load_after_power_loss :
    let load (o : PageOutcome) (s : State) := after .powerOn (after (.powerLoss o) s)
    let s := (work.setAsm 40 (tool .ready 500 0)).dirty 40
    let r := (work.setStock 9 (some 40) false).dirty 521
    ((load .former s).asm 40).state = .vacant ∧ ((load .mixed s).asm 40).state = .lost ∧
    ((load .former r).drawer 9).stock = none ∧ ((load .snapshot r).drawer 9).stock = some 40 ∧
    ((load .snapshot r).drawer 9).mismatch = false ∧ ((load .mixed r).drawer 9).mismatch = true := by decide +kernel

/-- R176: the check of the page code, its remainder of the digits 1 to 9; a page with another key number or another check
value fails. -/
theorem test_page_check : crc16 [0x31, 0x32, 0x33, 0x34, 0x35, 0x36, 0x37, 0x38, 0x39] = 0x29B1 ∧
    (Page.whole 521 (.drawer none true)).read 521 = .passed (.drawer none true) ∧
    (Page.whole 521 (.drawer none true)).read 522 = .failed ∧
    (Page.written 521 (.drawer none true) (checkValue 521 (.drawer none true) ^^^ 1)).read 521 = .failed := by
  decide +kernel

/-- R186: the load ends in normal operation. -/
theorem test_step_loadEnd : (after .loadEnd State.reset).phase = .running := by decide +kernel

/-- R24 and R185: a binding outside the magazine makes its assembly LOST, a drawer that no assembly names loses its stock and
is marked. -/
theorem test_cross_checks :
    ((State.placeBinding (State.reset.setAsm 7 { tool .issued 500 0 with binding := some (3, 12) }) 7).asm 7).state = .lost ∧
    ((State.checkDrawerStock (State.reset.setStock 9 (some 40) false) 9).drawer 9).stock = none ∧
    ((State.checkDrawerStock (State.reset.setStock 9 (some 40) false) 9).drawer 9).mismatch = true := by decide +kernel

/-- R192: a faulty frame of one byte echoes tag 00h. -/
theorem test_step_short_frame : ((after (.requestFrameEnd .P [0x31] false) work).port .P).buf
    = .held ⟨.frameError, false, 0, .empty⟩ := by decide +kernel

/-- R194: NOT_READY with tag 00h from an empty buffer, read with one byte more than the frame. -/
theorem test_step_reply_empty : ((after (.replyRead .M 7) work).port .M).dataOut.take 5 = [0xFF, 0x03, 0x00, 0x00, 0x00] := by
  decide +kernel

/-- Table 11.3: the block of one BOUND pocket is formed and delivered. -/
theorem test_step_handoff :
    let s := ((work.setProfile 9 { defaultProfile with size := 32 }).setPocket 9 12 (.bound 150)).setAsm 150
      { tool .issued 500 0 with binding := some (9, 12) }
    let t := after (.handoff 9 12 1) (after .slotBuildCompletion (after .entryFormation (after (.handoff 9 12 1) s)))
    (t.port .M).buf = .held ⟨.ok, false, 0, .block 0 ⟨⟨9, 12, 1⟩, .micron, .radius, .little,
      [⟨.ok, some 150, some 142202, some 6001, some 500, none, false⟩]⟩⟩ := by decide +kernel

/-! ### Witnesses: for each statement with hypotheses, states and operands that meet them, clause by clause -/

/-- An empty buffer holds no waiting request. -/
theorem none_waits {s : State} {p : Port} (h : (s.port p).buf = .empty) : ∀ g j, (s.port p).buf ≠ .pending g j := by
  simp [h]

theorem work_asm (a : Nat) : work.asm a = blankRecord .vacant := by
  change tget _ (tgen 512 fun _ => blankRecord .vacant) a = _
  rw [tget_tgen, ite_self]

theorem work_op (d : Nat) : work.op d = none := by
  change tget none (tgen 64 fun _ => none) d = _
  rw [tget_tgen, ite_self]

theorem work_slot (n : Nat) : work.slot n = .free := by
  change tget Slot.free (tgen 4 fun _ => .free) n = _
  rw [tget_tgen, ite_self]

theorem work_buffer (c : Nat) : work.buffer c = .empty := by
  change tget Buffer.empty (tgen 16 fun _ => .empty) c = _
  rw [tget_tgen, ite_self]

theorem work_page (k : Nat) : work.page k = .blank := by
  change tget Page.blank (tgen 598 fun _ => .blank) k = _
  rw [tget_tgen, ite_self]

theorem work_drawer (d : Nat) : work.drawer d = if d < 64 then restDrawer false false else State.noDrawer := by
  change tget State.noDrawer (tgen 64 fun _ => restDrawer false false) d = _
  rw [tget_tgen]

theorem work_profile (c : Nat) : work.profile c = defaultProfile := by
  have h : work.cell c = ⟨defaultProfile, tgen 128 fun _ => .empty⟩ := by
    simp only [State.cell, work, State.reset, tget_tgen, ite_self]
  simp only [State.profile, h]

theorem work_pocket (c p : Nat) : work.pocket c p = .empty := by
  have h : work.cell c = ⟨defaultProfile, tgen 128 fun _ => .empty⟩ := by
    simp only [State.cell, work, State.reset, tget_tgen, ite_self]
  simp only [State.pocket, h, tget_tgen, ite_self]

/-- What no slot holds below 4, no slot holds. -/
theorem no_slot {s : State} {i : Ident} (h : ∀ n : Fin 4, (s.slot n).ident ≠ some i) (n : Nat) :
    (s.slot n).ident ≠ some i := by
  by_cases hn : n < 4
  · exact h ⟨n, hn⟩
  · rw [State.slot, tget_beyond _ _ _ (Nat.le_of_not_lt hn)]
    simp [Slot.ident]

/-- A port whose block has not yet taken a LOCK. -/
def waiting : State := work.setPort .M { idlePort with buf := .pending 0x22 (.readCell 3) }

/-- A port that holds a reply without body. -/
def holding : State := work.setPort .P { idlePort with buf := .held ⟨.ok, false, 0x11, .empty⟩ }

theorem test_witness_StepRunsTheFrontCommand :
    ({ work with pending := [.readPicks, .loadEnd] } : State).pending = .readPicks :: [.loadEnd] := rfl

theorem test_witness_EmptyQueueIsOneMillisecond : State.reset.pending = [] ∧ State.reset.phase.active = false ∧
    work.pending = [] ∧ work.phase.active = true ∧
    ((work.setSlot 3 (.complete ⟨⟨0, 0, 1⟩, 0, [false]⟩ ⟨⟨0, 0, 1⟩, .micron, .radius, .little, []⟩ 9)).slot 3)
      = .complete ⟨⟨0, 0, 1⟩, 0, [false]⟩ ⟨⟨0, 0, 1⟩, .micron, .radius, .little, []⟩ 9 := by decide +kernel

theorem test_witness_FrameCarriesItsRequest :
    (requestPort (.lock .C 65535) = some .C ∧ requestPermitted (.lock .C 65535) = true ∧
      (Instr.lock .C 65535).wellFormed = true) ∧
    (requestPort (.writeCell 255 0 0 0 0 (-2147483648) 0 0) = some .C ∧
      requestPermitted (.writeCell 255 0 0 0 0 (-2147483648) 0 0) = true ∧
      (Instr.writeCell 255 0 0 0 0 (-2147483648) 0 0).wellFormed = true) ∧
    requestPort (.register 0 (some 255) none (some (4294967295, 0)) 0 0 0) = some .C ∧
    (Instr.register 0 (some 255) none (some (4294967295, 0)) 0 0 0).wellFormed = true := by decide +kernel

theorem test_witness_FramesAreHandedOverOrAnswered :
    ((requestPort (.handoff 0 127 255) = some .M ∧ requestPermitted (.handoff 0 127 255) = true ∧
      (Instr.handoff 0 127 255).wellFormed = true ∧ work.phase = .running) ∧
      ∀ g j, (work.port .M).buf ≠ .pending g j) ∧
    ((0x31 : Byte) ≠ 0 ∧ (waiting.port .M).keep = false ∧ waiting.phase ≠ .held ∧ waiting.phase ≠ .off ∧
      (waiting.port .M).buf = .pending 0x22 (.readCell 3)) ∧
    (frameFaulty [0x31, 0x5A, 0x00, 0x00, 0xCC] false = true ∧ frameFaulty [0x31, 0x5A, 0x00, 0x00, 0xCD] false = false ∧
      ({ work with phase := .drain } : State).phase = .drain ∧ State.reset.phase = .load .powerOn ∧
      frameFaulty (frameOf 7 (.readNotice .P)) false = false) ∧
    (kindRow (0x40 : Byte).toNat = none ∧
      frameFaulty ([0x40, 0x00, 0x00, 0x00] ++ [crc8 [0x40, 0x00, 0x00, 0x00]]) false = false) ∧
    (kindRow (0x01 : Byte).toNat = some ⟨0x01, .measureOpen, [.P], 2⟩ ∧ Port.C ∉ [Port.P] ∧
      frameFaulty (frameOf 0 (.measureOpen 0)) false = false) ∧
    ∀ g j, (work.port .C).buf ≠ .pending g j :=
  ⟨⟨by decide +kernel, none_waits rfl⟩, by decide +kernel, by decide +kernel, by decide +kernel, by decide +kernel,
    none_waits rfl⟩

theorem test_witness_ReplyReadReturnsTheBuffer : holding.phase ≠ .held ∧ holding.phase ≠ .off ∧
    (holding.port .P).buf = .held ⟨.ok, false, 0x11, .empty⟩ ∧
    (replyFrame (holding.draw .P) ⟨.ok, false, 0x11, .empty⟩).length = 5 ∧ waiting.phase ≠ .held ∧ waiting.phase ≠ .off ∧
    (waiting.port .M).buf = .pending 0x22 (.readCell 3) ∧ (work.port .C).buf = .empty ∧
    (after (.resetInputAsserted .former) holding).phase = .held ∧ ([0] : List Byte).length = 0 + 1 ∧
    2 < (replyFrame (holding.draw .P) ⟨.ok, false, 0x11, .empty⟩).length := by decide +kernel

/-- R194: a read cut short leaves the reply held, its open bytes as they were drawn, and the next read begins again. -/
theorem test_step_read_cut_short :
    let t := after (.replyRead .P 3) holding
    (t.port .P).buf = .held ⟨.ok, false, 0x11, .empty⟩ ∧ t.draw .P = holding.draw .P ∧
    ((after (.replyRead .P 5) t).port .P).dataOut = [0xFF, 0x00, 0x11, 0x00, 0x00] ∧
    (after (.readCurve) work).draw .P ≠ work.draw .P := by decide +kernel

/-- A formed entry. -/
def entry0 : Entry := ⟨.empty, none, none, none, none, none, false⟩

theorem test_witness_ReplyFrameIsWellMade :
    (resolveWire 0 0 (Body.drawer 63 (restDrawer true true) none none).wire).length + 5 < 65536 ∧
    (resolveWire 0 0 (Body.notice true (some (.lockExpired 511))).wire).length + 5 < 65536 ∧
    (resolveWire 0 0 (Body.block 3 ⟨⟨15, 127, 1⟩, .tenth, .diameter, .big, [entry0]⟩).wire).length + 5 < 65536 ∧
    [entry0][0]? = some entry0 := by decide +kernel

theorem test_witness_ReadNoticeTakesTheOldest : work.taken .M (.readNotice .M) = some 0 ∧ (work.port .M).notices = [] ∧
    (work.notify .M (.lockExpired 511)).taken .M (.readNotice .M) = some 0 ∧
    ((work.notify .M (.lockExpired 511)).port .M).notices = [.lockExpired 511] := by decide +kernel

/-- Assembly 511 locked by port C, in a state. -/
def lockedByC (st : AsmState) : State := work.setAsm 511 { blankRecord st with holder := some .C, idle := 9 }

/-- A crib: assembly 511 READY-unstocked, 2 READY in drawer 63, 3 ISSUED in pocket 15/127, 4 REGRIND in drawer 4, whose
mismatch mark is set. -/
def crib : State :=
  (((((((work.setProfile 15 { defaultProfile with size := 128 }).setAsm 511 (tool .ready 500 0)).setAsm 2
    { tool .ready 500 0 with stock := some 63 }).setStock 63 (some 2) false).setAsm 3
    { tool .issued 500 0 with binding := some (15, 127) }).setPocket 15 127 (.bound 3)).setAsm 4
    { blankRecord .regrind with stock := some 4 }).setStock 4 (some 4) true

theorem test_witness_ReadsChangeNothing : work.taken .P (.readReference 3) = some 0 ∧ work.taken .P .readCurve = some 0 ∧
    work.taken .C (.readDrawer 63) = some 0 ∧ work.taken .C .readPicks = some 0 ∧
    work.taken .M (.readCell 15) = some 0 ∧ work.taken .P (.status .P) = some 0 ∧
    work.taken .M (.status .M) = some 0 ∧ work.taken .P (.readRecord .P 511) = some 0 ∧
    (lockedByC .ready).taken .C (.readRecord .C 511) = some 0 ∧ ((lockedByC .ready).asm 511).holder = some .C := by
  decide +kernel

theorem test_witness_RefusedRequestsHaveNoEffect :
    (requestPort (.measureOpen 512) = some .P ∧ work.taken .P (.measureOpen 512) = some 0 ∧
      ((after (.measureOpen 512) work).port .P).buf = .held ⟨.badArgument, false, 0, .empty⟩) ∧
    (requestPort (.stock 511 64) = some .C ∧ (lockedByC .ready).taken .C (.stock 511 64) = some 0 ∧
      ((lockedByC .ready).asm 511).holder = some .C ∧
      ((after (.stock 511 64) (lockedByC .ready)).port .C).buf = .held ⟨.badArgument, false, 0, .empty⟩ ∧
      ((after (.stock 511 64) (lockedByC .ready)).asm 511).idle = 0) := by
  refine ⟨?_, ?_⟩ <;> decide +kernel

theorem test_witness_OperationChecksComeInOrder :
    (crib.taken .C (.stock 511 63) = some 0 ∧ crib.taken .C (.stock 512 64) = some 0 ∧
      crib.taken .C (.returnTool 3 0 1) = some 0 ∧ crib.taken .C (.returnTool 3 0 2) = some 0 ∧
      crib.taken .C (.withdraw 2) = some 0 ∧ (crib.asm 2).stock = some 63 ∧
      crib.taken .C (.issue 2 15 127) = some 0 ∧ crib.taken .C (.issue 2 16 128) = some 0 ∧
      crib.taken .C (.cancelDrawer 64) = some 0 ∧ crib.taken .C (.clearJam 63) = some 0 ∧
      crib.taken .C (.readDrawer 64) = some 0) ∧
    (let s := crib.setPicks [⟨15, 0, 7, .machine, .waiting⟩];
      s.taken .C (.issuePick 15 0) = some 0 ∧ findPick s.picks 15 0 = some ⟨15, 0, 7, .machine, .waiting⟩ ∧
      s.chooseSister 7 = some 2) := by
  refine ⟨?_, ?_⟩ <;> decide +kernel

theorem test_witness_RecordChecksComeInOrder : work.taken .P (.measureOpen 511) = some 0 ∧
    work.taken .P (.measureOpen 512) = some 0 ∧ crib.taken .C (.retire 4) = some 0 ∧
    work.taken .C (.register 511 (some 256) (some (4000001, 0)) none 3 1 50) = some 0 ∧
    work.taken .M (.usage 15 127 3600 1000) = some 0 ∧ crib.taken .M (.usage 15 127 3601 0) = some 0 ∧
    crib.taken .C (.setLife 3 1 500 80) = some 0 ∧ crib.taken .C (.setLife 511 3 500 80) = some 0 ∧
    crib.taken .M (.requestTool 15 127 255) = some 0 ∧ crib.taken .M (.requestTool 15 128 256) = some 0 ∧
    crib.taken .C (.returnFromRegrind 4) = some 0 ∧ crib.taken .P (.readRecord .P 512) = some 0 ∧
    crib.taken .C (.writeCell 15 127 3 0 0 0 8 2) = some 0 ∧ crib.taken .M (.readCell 16) = some 0 ∧
    crib.taken .M (.withdrawRequest 15 128) = some 0 ∧ crib.taken .M (.handoff 15 127 0) = some 0 ∧
    crib.taken .M (.handoff 16 128 1) = some 0 := by decide +kernel

theorem test_witness_SessionChecksComeInOrder : work.taken .P (.reading 1048576 0) = some 0 ∧
    work.taken .P (.sessionClose (-1)) = some 0 ∧ hall.taken .P (.sessionClose 601) = some 0 ∧
    work.taken .P .sessionAbandon = some 0 ∧ hall.taken .P (.zeroOpen 1) = some 0 ∧ hall.taken .P (.zeroOpen 4) = some 0 ∧
    hall.taken .P (.spanOpen 3 49999 100001) = some 0 ∧ hall.taken .P (.spanOpen 3 400000 100000) = some 0 ∧
    hall.taken .P (.certifyReference 1) = some 0 ∧ hall.taken .P (.unlockReference 1) = some 0 ∧
    hall.taken .P (.selectReference 3) = some 0 ∧ hall.taken .P (.selectReference 4) = some 0 ∧
    hall.taken .P (.readReference 4) = some 0 := by decide +kernel

/-- R60: the first check that fails answers an UNLOCK_REFERENCE of the active set with MNT low, and with MNT high. -/
theorem test_step_session_checks :
    ((after (.unlockReference 1) hall).port .P).buf = .held ⟨.wrongState, false, 0, .empty⟩ ∧
    ((after (.zeroOpen 1) hall).port .P).buf = .held ⟨.certified, false, 0, .empty⟩ := by decide +kernel

theorem test_witness_SetParameterStoresTheClampedValue :
    work.taken .P (.setParameter .P 1 4) = some 0 ∧ work.params.get 1 ≠ paramStored 1 4 ∧
    work.taken .C (.setParameter .C 2 4294967295) = some 0 ∧ work.params.get 2 ≠ paramStored 2 4294967295 ∧
    work.taken .C (.setParameter .C 9 200) = some 0 ∧ work.params.get 9 = paramStored 9 200 ∧
    work.taken .P (.setParameter .P 10 0) = some 0 ∧ work.taken .P (.setParameter .P 2 0) = some 0 ∧
    work.taken .C (.setParameter .C 1 0) = some 0 := by decide +kernel

theorem test_witness_LoweredLimitsActAtOnce :
    (let s := work.setAsm 511 { blankRecord .ready with holder := some .P, idle := 500 };
      s.taken .C (.setParameter .C 8 100) = some 0 ∧ s.params.lockIdleLimit ≠ paramStored 8 100 ∧
      paramStored 8 100 = (s.asm 511).idle ∧ (s.asm 511).holder = some .P) ∧
    SessionLaw (work.setAsm 511 { blankRecord .ready with holder := some .P, idle := 500 }) ∧
    (let s := work.setDrawer 63 { work.drawer 63 with state := .opened, levelOpen := true, openTimer := 5000 };
      s.taken .C (.setParameter .C 7 5) = some 0 ∧ s.params.openLimit ≠ paramStored 7 5 ∧
      (s.drawer 63).state = .opened ∧ (s.drawer 63).openReported = false ∧
      paramStored 7 5 * 1000 = (s.drawer 63).openTimer) ∧
    (let s := work.setSlot 3 (.complete ⟨⟨15, 0, 1⟩, 0, [false]⟩ ⟨⟨15, 0, 1⟩, .micron, .radius, .little, []⟩ 50);
      s.taken .C (.setParameter .C 9 59) = some 0 ∧ s.params.discardLimit ≠ paramStored 9 59 ∧ paramStored 9 59 = 50) := by
  refine ⟨by decide +kernel, ?_, by decide +kernel, by decide +kernel⟩
  refine ⟨fun a k l (h : none = some _) => by simp at h, fun a h => ?_⟩
  rw [State.setAsm_asm, work_asm] at h
  split at h <;> simp [blankRecord] at h

theorem test_witness_LockGoesToTheFirstPort : (work.taken .P (.lock .P 512) = some 0 ∧
    work.taken .P (.lock .P 511) = some 0 ∧ (work.asm 511).holder = none ∧
    (lockedByC .ready).taken .C (.lock .C 511) = some 0 ∧ (lockedByC .ready).taken .P (.lock .P 511) = some 0 ∧
    ((lockedByC .ready).asm 511).holder = some .C ∧ Port.C ≠ Port.P ∧
    work.phase = .running ∧ (work.port .M).keep = false) ∧ ∀ g j, (work.port .M).buf ≠ .pending g j :=
  ⟨by decide +kernel, none_waits rfl⟩

theorem test_witness_UnlockFollowsItsChecks : work.taken .P (.unlock .P 512) = some 0 ∧
    work.taken .P (.unlock .P 511) = some 0 ∧ (work.asm 511).holder = none ∧
    (lockedByC .ready).taken .P (.unlock .P 511) = some 0 ∧ (lockedByC .ready).taken .C (.unlock .C 511) = some 0 ∧
    ((lockedByC .ready).asm 511).holder = some .C ∧ ((lockedByC .ready).asm 511).state ≠ .measuring ∧
    (lockedByC .measuring).taken .C (.unlock .C 511) = some 0 ∧
    ((lockedByC .measuring).asm 511).holder = some .C ∧ ((lockedByC .measuring).asm 511).state = .measuring := by
  decide +kernel

/-- A MEASURE session on assembly 511 over set 1, the record READY before it, with a reading list. -/
def measuring (l : List (Nat × Nat)) : State :=
  (hall.setAsm 511 { tool .measuring 500 0 with prior := some .ready, holder := some .P }).setSession
    (some ⟨.measure 511 1, l⟩)

/-- The session law of that session, whatever curve is staged and wherever the idle timer stands. -/
theorem measuring_law (l : List (Nat × Nat)) (c : Option Curve) (n : Nat) :
    SessionLaw (((measuring l).setStagedCurve c).setAsm 511 { (measuring l).asm 511 with idle := n }) := by
  have hasm : ∀ a, (((measuring l).setStagedCurve c).setAsm 511 { (measuring l).asm 511 with idle := n }).asm a =
      if a = 511 then { tool .measuring 500 0 with prior := some .ready, holder := some .P, idle := n }
      else blankRecord .vacant := by
    intro a
    by_cases h : a = 511
    · subst h
      simp [measuring, State.setAsm_asm, tool]
    · simp [measuring, hall, State.setAsm_asm, work_asm, h, Ne.symm h]
  refine ⟨fun a k l' (h : some _ = some _) => ?_, fun a h => ?_⟩
  · cases h
    rw [hasm]
    exact ⟨rfl, rfl⟩
  · rw [hasm] at h ⊢
    split at h
    · rename_i ha
      subst ha
      exact ⟨rfl, 1, l, rfl⟩
    · simp [blankRecord] at h

theorem test_witness_LoweredLimitsActAtOnce_measuring :
    let s := ((measuring []).setStagedCurve (some curveA)).setAsm 511 { (measuring []).asm 511 with idle := 500 }
    (s.taken .C (.setParameter .C 8 100) = some 0 ∧ s.params.lockIdleLimit ≠ paramStored 8 100 ∧
      (s.asm 511).prior = some .ready ∧ (s.asm 511).state = .measuring ∧ paramStored 8 100 = (s.asm 511).idle ∧
      s.rfs.staged = some curveA) ∧ SessionLaw s := ⟨by decide +kernel, measuring_law [] (some curveA) 500⟩

/-- The lock of assembly `a` with its idle timer at the limit. -/
def atLimit (a : Nat) (s : State) : State := s.setAsm a { s.asm a with idle := s.params.lockIdleLimit }

theorem test_witness_LockExpiryReleases :
    ((lockedByC .ready).phase.active = true ∧
      ((lockedByC .ready).asm (511 : Fin 512)).idle < (lockedByC .ready).params.lockIdleLimit) ∧
    (let s := atLimit 511 (lockedByC .ready);
      s.phase.active = true ∧ (s.asm (511 : Fin 512)).holder = some .C ∧
      s.params.lockIdleLimit = (s.asm (511 : Fin 512)).idle ∧ (s.asm (511 : Fin 512)).state ≠ .measuring) ∧
    (let s := atLimit 511 ((measuring []).setStagedCurve (some curveA));
      s.phase.active = true ∧ (s.asm (511 : Fin 512)).holder = some .P ∧
      s.params.lockIdleLimit = (s.asm (511 : Fin 512)).idle ∧
      s.ocu = some ⟨.measure (511 : Fin 512).val 1, []⟩ ∧ (s.asm (511 : Fin 512)).state = .measuring ∧
      (s.asm (511 : Fin 512)).prior = some .ready ∧ s.rfs.staged = some curveA) := by
  refine ⟨?_, ?_, ?_⟩ <;> decide +kernel

theorem test_witness_SessionsOpen : hall.ocu = none ∧ hall.taken .P (.measureOpen 511) = some 0 ∧
    hall.rfs.active = some 1 ∧ ((hall.setAsm 511 (blankRecord .unmeasured)).asm 511).measurable = some .unmeasured ∧
    (hall.setAsm 511 (blankRecord .unmeasured)).taken .P (.measureOpen 511) = some 0 ∧
    ((hall.setAsm 511 (blankRecord .unmeasured)).asm 511).holder ≠ some .C ∧
    (hall.refSet 3).certified = false ∧ hall.taken .P (.zeroOpen 3) = some 0 ∧
    (hall.setRefSet 3 (.zeroed 5 6)).taken .P (.spanOpen 3 50000 100000) = some 0 ∧
    (hall.setRefSet 3 (.zeroed 5 6)).refSet 3 = .zeroed 5 6 := by decide +kernel

theorem test_witness_ReadingJoinsTheList :
    ((measuring (List.replicate 7 (1, 1))).taken .P (.reading 1048575 1048575) = some 0 ∧
      (measuring (List.replicate 7 (1, 1))).ocu = some ⟨.measure 511 1, List.replicate 7 (1, 1)⟩ ∧
      ((measuring (List.replicate 7 (1, 1))).asm 511).holder = some .P) ∧
    ∀ a k, SessionKind.measure 511 1 = .measure a k → a = 511 :=
  ⟨by decide +kernel, fun a k h => by cases h; rfl⟩

theorem test_witness_MeasureCloseWritesTheResult :
    (measuring readingsA).taken .P (.sessionClose 600) = some 0 ∧
    (measuring readingsA).ocu = some ⟨.measure 511 1, readingsA⟩ ∧
    ((measuring readingsA).asm 511).state = .measuring ∧
    measure defaultParams curveA 1000 0 500 500 none none readingsA 600 = .success 1421980 60005 4 true ∧
    (measuring []).taken .P (.sessionClose 0) = some 0 ∧
    measure defaultParams curveA 1000 0 500 500 none none [] 0 = .failure .tooFew none 0 false ∧
    ((measuring []).setStagedCurve (some curveA)).taken .P (.sessionClose 0) = some 0 ∧
    ((measuring []).setStagedCurve (some curveA)).rfs.staged = some curveA := by decide +kernel

/-- A session on set 3, the set ZEROED. -/
def onSet3 (k : SessionKind) (l : List (Nat × Nat)) : State := (work.setRefSet 3 (.zeroed 1205 802)).setSession (some ⟨k, l⟩)

theorem test_witness_CalibrationWritesAndSweeps :
    (let l := [(1204, 803), (1206, 801), (1205, 802)];
      (onSet3 (.zero 3) l).taken .P (.sessionClose 600) = some 0 ∧ (onSet3 (.zero 3) l).ocu = some ⟨.zero 3, l⟩ ∧
      calibrateZero (onSet3 (.zero 3) l).params l = some (1205, 802, 3) ∧
      ((onSet3 (.zero 3) l).setStagedCurve (some curveA)).taken .P (.sessionClose 600) = some 0) ∧
    (let l := [(301439, 12802), (301441, 12803), (301440, 12801), (301442, 12802)];
      let s := onSet3 (.span 3 150000 12000) l;
      s.taken .P (.sessionClose 0) = some 0 ∧ s.ocu = some ⟨.span 3 150000 12000, l⟩ ∧
      calibrateSpan s.params (s.refSet 3).values.1 (s.refSet 3).values.2.1 150000 12000 l = .calibrated 500 500 4) ∧
    (let s := onSet3 (.zero 3) [];
      s.taken .P (.sessionClose 600) = some 0 ∧ s.ocu = some ⟨.zero 3, []⟩ ∧ calibrateZero s.params [] = none) ∧
    (let s := onSet3 (.span 3 150000 12000) [];
      s.taken .P (.sessionClose 600) = some 0 ∧ s.ocu = some ⟨.span 3 150000 12000, []⟩ ∧ calibrateSpan s.params
        (s.refSet 3).values.1 (s.refSet 3).values.2.1 150000 12000 [] = .tooFew) ∧
    (let l := [(1205, 802), (1205, 802), (1205, 802)];
      let s := onSet3 (.span 3 150000 12000) l;
      s.taken .P (.sessionClose 600) = some 0 ∧ s.ocu = some ⟨.span 3 150000 12000, l⟩ ∧ calibrateSpan s.params
        (s.refSet 3).values.1 (s.refSet 3).values.2.1 150000 12000 l = .calRange 3) := by
  refine ⟨?_, ?_, ?_, ?_, ?_⟩ <;> decide +kernel

/-- Set 3 about to be calibrated with the ISSUED assembly 511 and the READY assembly 2 measured with it, the commit of 511 in
flight and the set's key and 596 waiting. -/
def sweeping : State :=
  let s := ((onSet3 (.zero 3) [(1204, 803), (1206, 801), (1205, 802)]).setAsm 511 { tool .issued 500 0 with
    facts := some ⟨3, true, 237, 4, 1, false⟩ }).setAsm 2 { tool .ready 500 0 with facts := some ⟨3, true, 237, 4, 1, false⟩ }
  ((s.dirty 511).dirty 595).dirty 596

theorem test_witness_CalibrationWritesAndSweeps_swept : sweeping.taken .P (.sessionClose 600) = some 0 ∧
    calibrateZero sweeping.params [(1204, 803), (1206, 801), (1205, 802)] = some (1205, 802, 3) ∧
    (sweeping.asm 511).measuredWith 3 = true ∧ (sweeping.asm 511).state = .issued ∧
    (sweeping.asm 2).measuredWith 3 = true ∧ sweeping.rst.flight.map (fun c => c.key) = some 511 ∧
    sweeping.rst.queue = [595, 596] ∧ sweeping.rst.queue.Nodup := by decide +kernel

/-- R58: the swept assemblies in ascending order, the one in flight at once too, and the set's key moved behind them. -/
theorem test_step_sweep_order : (after (.sessionClose 600) sweeping).rst.queue = [596, 2, 511, 595] ∧
    (after (.sessionClose 600) sweeping).rst.flight.map (fun c => c.redirty) = some false := by decide +kernel

theorem test_witness_AbandonRestoresTheRecord :
    ((measuring []).taken .P .sessionAbandon = some 0 ∧ (measuring []).ocu = some ⟨.measure 511 1, []⟩ ∧
      ((measuring []).asm 511).state = .measuring ∧ ((measuring []).asm 511).prior = some .ready ∧
      ((measuring []).setStagedCurve (some curveA)).taken .P .sessionAbandon = some 0 ∧
      ((measuring []).setStagedCurve (some curveA)).rfs.staged = some curveA ∧
      (onSet3 (.zero 3) []).taken .P .sessionAbandon = some 0 ∧ (onSet3 (.zero 3) []).ocu = some ⟨.zero 3, []⟩ ∧
      (onSet3 (.span 3 50000 1000) []).taken .P .sessionAbandon = some 0 ∧
      (onSet3 (.span 3 50000 1000) []).ocu = some ⟨.span 3 50000 1000, []⟩) ∧
    (∀ a k, SessionKind.zero 3 ≠ .measure a k) ∧ ∀ a k, SessionKind.measure 511 1 = .measure a k → a = 511 :=
  ⟨by decide +kernel, nofun, fun a k h => by cases h; rfl⟩

/-- Set 3 SPANNED, its certified mark as given, MNT high. -/
def spanned3 (certified : Bool) : State :=
  { work.setRefSet 3 (.spanned 1 2 500 500 150000 12000 certified) with pins := ⟨true, .low, false⟩ }

theorem test_witness_ReferenceRequestsWrite :
    ((spanned3 true).taken .P (.selectReference 3) = some 0 ∧ (spanned3 true).ocu = none ∧
      ((spanned3 true).refSet 3).certified = true ∧ (spanned3 true).rfs.active ≠ some 3 ∧
      (spanned3 false).taken .P (.certifyReference 3) = some 0 ∧
      (spanned3 false).refSet 3 = .spanned 1 2 500 500 150000 12000 false ∧
      (spanned3 true).taken .P (.unlockReference 3) = some 0 ∧ (spanned3 true).pins.mnt = true ∧
      (spanned3 true).refSet 3 = .spanned 1 2 500 500 150000 12000 true ∧
      ({ spanned3 true with rfs := { (spanned3 true).rfs with active := some 3 } } : State).taken .P (.selectReference 3) =
        some 0) ∧
    (∀ y, (spanned3 false).ocu = some y → y.kind.calibrates ≠ some 3) ∧
    work.taken .P (.writeCurve [501, -501, 0, 0, 0, 0, 0, 0, 0]) = some 0 ∧ work.ocu = none ∧
    (clampedCurve [501, -501, 0, 0, 0, 0, 0, 0, 0]).toList =
      [501, -501, 0, 0, 0, 0, 0, 0, 0].map (clampInt (-500) 500) ∧
    (measuring []).taken .P (.writeCurve [0, 0, 0, 0, 0, 0, 0, 0, 0]) = some 0 ∧ (measuring []).ocu.isSome = true :=
  ⟨by decide +kernel, (fun y h => by cases (show (none : Option Session) = some y from h)), by decide +kernel,
    by decide +kernel, by decide +kernel, by decide +kernel, by decide +kernel⟩

theorem test_witness_OperationsQueueTheirDrawer :
    (crib.taken .C (.stock 511 0) = some 0 ∧ (crib.asm 511).holder = none ∧ crib.inOperation 511 = false ∧
      (crib.drawer 0).state = .closed ∧ (crib.drawer 0).mismatch = false ∧ crib.drc.driver.fault = false ∧
      crib.releaseCount < 8 ∧ crib.op 0 = none ∧ (crib.asm 511).state = .ready ∧ (crib.asm 511).stock = none ∧
      (crib.drawer 0).stock = none ∧ crib.drc.driver.pulsing = none ∧ crib.drc.queue = [] ∧
      crib.pins.sense ≠ .asserted) ∧
    ((busyDriver crib).taken .C (.withdraw 2) = some 0 ∧ (crib.asm 2).state = .ready ∧
      (crib.asm 2).stock = some 63 ∧ (crib.drawer 63).state = .closed ∧ (crib.drawer 63).mismatch = false ∧
      (busyDriver crib).drc.driver.pulsing.isSome = true ∧ (busyDriver crib).releaseCount < 8 ∧
      (busyDriver crib).op 63 = none ∧ (busyDriver crib).inOperation 2 = false) ∧
    (crib.taken .C (.returnTool 3 0 1) = some 0 ∧ conditionOf 1 = some .damaged ∧ (crib.asm 3).state = .issued ∧
      crib.inOperation 3 = false ∧ (crib.asm 3).holder = none) := by
  refine ⟨?_, ?_, ?_⟩ <;> decide +kernel

theorem test_witness_OperationsQueueTheirDrawer_asserted :
    let s := crib.setPins ⟨false, .asserted, false⟩
    s.taken .C (.stock 511 63) = some 0 ∧ s.pins.sense = .asserted ∧ s.drc.driver.pulsing = none ∧ s.drc.queue = [] ∧
    s.drc.driver.overcurrents < 2 ∧ 1 < s.params.attemptLimit ∧ s.releaseCount < 8 ∧ (s.asm 511).state = .ready ∧
    (s.drawer 0).stock = none ∧ s.taken .C (.stock 511 0) = some 0 := by decide +kernel

theorem test_witness_OperationsQueueTheirDrawer_ownLock :
    let s := crib.setAsm 511 { crib.asm 511 with holder := some .C, idle := 499 }
    s.taken .C (.stock 511 0) = some 0 ∧ (s.asm 511).holder ≠ some .P ∧ s.inOperation 511 = false ∧
    (s.asm 511).state = .ready ∧ (s.asm 511).stock = none ∧ (s.drawer 0).state = .closed ∧ s.releaseCount < 8 ∧
    idleAfterC (s.asm 511) = 0 ∧ ((after (.stock 511 0) s).asm 511).idle = 0 := by decide +kernel

theorem test_witness_CancelEndsTheRelease :
    ((release 63 .queued ⟨.withdraw, 2, none⟩ crib).taken .C (.cancelDrawer 63) = some 0 ∧
      (release 63 .queued ⟨.withdraw, 2, none⟩ crib).op 63 = some ⟨.withdraw, 2, none⟩ ∧
      ((release 63 .queued ⟨.withdraw, 2, none⟩ crib).drawer 63).state = .queued ∧
      ((release 63 .pulsing ⟨.withdraw, 2, none⟩ crib).drawer 63).state = .pulsing ∧
      (release 63 .pulsing ⟨.withdraw, 2, none⟩ crib).drc.queue = [] ∧
      ((release 63 .backoff ⟨.withdraw, 2, none⟩ crib).drawer 63).state = .backoff ∧
      (let s := (release 63 .pulsing ⟨.withdraw, 2, none⟩ crib).setReleaseQueue [5];
        s.taken .C (.cancelDrawer 63) = some 0 ∧ 63 ∉ s.drc.queue ∧ s.drc.driver.fault = false ∧
        s.pins.sense ≠ .asserted)) ∧
    ∀ c p l k, OpKind.withdraw ≠ .issue c p l k := ⟨by decide +kernel, nofun⟩

/-- Assembly 2 being issued from drawer 63 to pocket 15/0, for a pick entry. -/
def issuing (st : DrawerState) (present : Bool) : State :=
  let s := (((crib.setAsm 2 { tool .issuing 500 0 with stock := some 63 }).setPocket 15 0 (.reserved 2)).setPicks
    [⟨15, 0, 7, .machine, .inIssue⟩])
  release 63 st ⟨.issue 15 0 true true, 2, if st = .opened then some true else none⟩
    (s.setDrawer 63 { s.drawer 63 with present := present })

/-- The ISSUE of assembly 2 at the last pulse that the attempt limit allows, at its width. -/
def issuingLast (oc : Nat) : State :=
  let s := (issuing .pulsing true).setDriver ⟨some 63, false, oc, 150, 150, 63⟩
  s.setDrawer 63 { s.drawer 63 with attempts := s.params.attemptLimit - 1 }

theorem test_witness_IssuesAreRolledBack : ((issuing .retryWait true).taken .C (.cancelDrawer 63) = some 0 ∧
      (issuing .retryWait true).op 63 = some ⟨.issue 15 0 true true, 2, none⟩ ∧
      ((issuing .retryWait true).asm 2).state = .issuing ∧ ((issuing .retryWait true).asm 2).stock = some 63 ∧
      ((issuing .retryWait true).drawer 63).state.waiting = true ∧
      ((issuing .queued true).drawer 63).state = .queued) ∧
    ((issuingLast 1).phase.active = true ∧ (issuingLast 1).drc.driver.pulsing = some 63 ∧
      ((issuingLast 1).drawer 63).state = .pulsing ∧ (issuingLast 1).drc.queue = [] ∧
      (issuingLast 1).drc.driver.fault = false ∧ (issuingLast 1).op 63 = some ⟨.issue 15 0 true true, 2, none⟩ ∧
      ((issuingLast 1).asm 2).state = .issuing ∧ ((issuingLast 1).asm 2).stock = some 63 ∧
      ((issuingLast 1).drawer 63).attempts + 1 = (issuingLast 1).params.attemptLimit ∧
      (issuingLast 1).drc.driver.pulseWidth = (issuingLast 1).drc.driver.pulseTimer ∧
      (issuingLast 1).drc.driver.overcurrents + 1 ≠ 3) ∧
    (let s := (issuingLast 1).setReleaseQueue [5];
      s.taken .C (.cancelDrawer 63) = some 0 ∧ (s.drawer 63).state = .pulsing ∧ 63 ∉ s.drc.queue ∧ s.drc.queue = [5] ∧
      s.drc.driver.fault = false ∧ s.pins.sense ≠ .asserted) := by
  refine ⟨?_, ?_, ?_⟩ <;> decide +kernel

theorem test_witness_JamAndFaultAreCleared :
    (work.setDrawer 63 { work.drawer 63 with state := .jammed }).taken .C (.clearJam 63) = some 0 ∧
    ((work.setDrawer 63 { work.drawer 63 with state := .jammed }).drawer 63).state = .jammed ∧
    (work.drawer 63).state ≠ .jammed ∧ work.taken .C (.clearJam 63) = some 0 ∧
    (work.setDriver ⟨none, true, 3, 0, 0, 0⟩).taken .C .clearDriver = some 0 ∧
    (work.setDriver ⟨none, true, 3, 0, 0, 0⟩).drc.driver.fault = true ∧ work.drc.driver.fault = false := by
  decide +kernel

theorem test_witness_OpeningsOutsideAPulse : work.phase.active = true ∧
    (work.drawer (63 : Fin 64)).levelOpen = false ∧ (work.drawer (63 : Fin 64)).state = .closed ∧
    ((release 63 .queued ⟨.withdraw, 2, none⟩ crib).drawer (63 : Fin 64)).state.releasing = true ∧
    ((release 63 .queued ⟨.withdraw, 2, none⟩ crib).drawer (63 : Fin 64)).levelOpen = false ∧
    State.reset.phase = .load .powerOn ∧ (after (.resetInputAsserted .former) work).phase = .held ∧
    ((work.setDrawer 63 { work.drawer 63 with state := .opened, levelOpen := true }).drawer (63 : Fin 64)).levelOpen =
      true := by decide +kernel

/-- Drawer 63 PULSING with the withdraw of assembly 2, and `q` behind it. -/
def pulsing63 (q : List Nat) : State :=
  ((release 63 .pulsing ⟨.withdraw, 2, none⟩ crib).setDriver ⟨some 63, false, 2, 12, 150, 63⟩).setReleaseQueue q

theorem test_witness_OpeningEndsAPulse : (pulsing63 [5]).phase.active = true ∧
    ((pulsing63 [5]).drawer (63 : Fin 64)).levelOpen = false ∧ ((pulsing63 [5]).drawer (63 : Fin 64)).state = .pulsing ∧
    (63 : Fin 64).val ∉ (pulsing63 [5]).drc.queue ∧ (pulsing63 [5]).drc.driver.fault = false ∧
    (pulsing63 [5]).pins.sense ≠ .asserted ∧ (pulsing63 [5]).drc.queue = [5] ∧ (pulsing63 []).drc.queue = [] := by
  decide +kernel

theorem test_witness_CloseComparesPresence :
    ((crib.setDrawer 63 { crib.drawer 63 with state := .opened, levelOpen := true }).drawer (63 : Fin 64)).levelOpen = true ∧
    crib.phase.active = true ∧ crib.op (63 : Fin 64) = none ∧ (crib.drawer (63 : Fin 64)).levelOpen = false ∧
    State.reset.phase = .load .powerOn ∧ (after (.powerLoss .former) work).phase = .off := by decide +kernel

theorem test_witness_LinesFollowTheirLevels : work.phase ≠ .held ∧ work.phase ≠ .off ∧
    (after (.powerLoss .former) work).phase = .off ∧
    exec (.resetInputAsserted .former) work = .next (after (.resetInputAsserted .former) work) :=
  ⟨by decide, by decide, by decide +kernel, rfl⟩

theorem test_witness_FailedAttempts :
    (let s := (pulsing63 []).setDriver ⟨some 63, false, 1, 150, 150, 63⟩;
      s.phase.active = true ∧ s.drc.driver.pulsing = some 63 ∧ (s.drawer 63).state = .pulsing ∧ s.drc.queue = [] ∧
      s.drc.driver.fault = false ∧ s.op 63 = some ⟨.withdraw, 2, none⟩ ∧
      s.drc.driver.pulseWidth = s.drc.driver.pulseTimer ∧ s.drc.driver.overcurrents + 1 ≠ 3 ∧
      (s.drawer 63).attempts + 1 < s.params.attemptLimit ∧
      ({ s with params := { defaultParams with attemptLimit := 1 } } : State).params.attemptLimit ≤
        (s.drawer 63).attempts + 1) ∧
    (∀ c p l k, OpKind.withdraw ≠ .issue c p l k) ∧
    (let s := (issuing .pulsing true).setDriver ⟨some 63, false, 0, 150, 150, 63⟩;
      s.phase.active = true ∧ (s.drawer 63).state = .pulsing ∧ s.op 63 = some ⟨.issue 15 0 true true, 2, none⟩ ∧
      (s.drawer 63).attempts + 1 < s.params.attemptLimit ∧ (s.setReleaseQueue [5]).drc.queue = [5] ∧
      (s.setReleaseQueue [5]).drc.driver.pulsing = some 63 ∧ 63 ∉ [5] ∧
      (s.setReleaseQueue [5]).pins.sense ≠ .asserted) ∧
    (pulsing63 []).drc.driver.pulseTimer < (pulsing63 []).drc.driver.pulseWidth ∧ work.drc.driver.pulsing = none :=
  ⟨by decide +kernel, nofun, by decide +kernel, by decide +kernel, by decide +kernel⟩

/-- The ISSUE of assembly 2 waiting in BACKOFF at its wait time, two overcurrents in succession behind it, the driver IDLE
and the sense input asserted. -/
def issuingWait : State :=
  let s := ((issuing .backoff true).setDriver ⟨none, false, 2, 0, 150, 63⟩).setPins ⟨false, .asserted, false⟩
  s.setDrawer 63 { s.drawer 63 with waitTime := 100, waitTimer := 100 }

/-- A running state whose only operation is the ISSUE of assembly 2 from drawer 63 meets the operation law. -/
theorem issue_law {s : State} (hph : s.phase = .running)
    (hop : ∀ d, s.op d = if d = 63 then some ⟨.issue 15 0 true true, 2, none⟩ else none)
    (hasm : (s.asm 2).state = .issuing ∧ (s.asm 2).stock = some 63) :
    OperationLaw s ∧ ∀ e ∈ [63], ∀ c p k m a r, s.op e = some ⟨.issue c p k m, a, r⟩ →
      c ≤ 15 ∧ p ≤ 127 ∧ a ≤ 511 ∧ (s.asm a).stock = some e := by
  refine ⟨⟨fun d e o u hd he _ => ?_, fun d o c p l k hd _ => ?_, fun d o k hd hk => ?_, fun c d h => ?_⟩,
    fun e _ c p k m a r h => ?_⟩
  · rw [hop] at hd he
    split at hd <;> split at he <;> simp_all
  · rw [hop] at hd
    split at hd <;> simp at hd
    rw [← hd]
    exact hasm.1
  · rw [hop] at hd
    split at hd <;> simp at hd
    rw [← hd] at hk
    simp at hk
  · rw [hph] at h
    cases h
  · rw [hop] at h
    split at h
    · rename_i he
      simp at h
      obtain ⟨⟨rfl, rfl, -, -⟩, rfl, -⟩ := h
      exact ⟨by decide, by decide, by decide, he ▸ hasm.2⟩
    · simp at h

/-- The operations of a crib in which assembly 2 is being issued. -/
theorem issuing_op (st : DrawerState) (hst : st ≠ .opened) (d : Nat) :
    (issuing st true).op d = if d = 63 then some ⟨.issue 15 0 true true, 2, none⟩ else none := by
  simp only [issuing, release, State.setDrawer_op, State.setOp_op, State.setPicks_op, State.setPocket_op, State.setAsm_op,
    crib, State.setStock, State.setProfile_op, work_op]
  by_cases h : d = 63
  · simp [h, hst]
  · simp [h, Ne.symm h]

theorem test_witness_ThirdOvercurrentFaults : ((issuingLast 2).phase.active = true ∧
      (issuingLast 2).drc.driver.pulsing = some (63 : Fin 64).val ∧
      ((issuingLast 2).drawer (63 : Fin 64)).state = .pulsing ∧ (issuingLast 2).drc.driver.overcurrents = 2 ∧
      (List.range 64).filter (fun e => ((issuingLast 2).drawer e).state.releasing) = [63]) ∧
    OperationLaw (issuingLast 2) ∧
    ∀ e ∈ [63], ∀ c p k m a r, (issuingLast 2).op e = some ⟨.issue c p k m, a, r⟩ →
      c ≤ 15 ∧ p ≤ 127 ∧ a ≤ 511 ∧ ((issuingLast 2).asm a).stock = some e :=
  ⟨by decide +kernel, issue_law rfl (fun d => by
    simp only [issuingLast, State.setDrawer_op, State.setDriver_op]
    exact issuing_op .pulsing (by decide) d) (by decide +kernel)⟩

theorem test_witness_ThirdOvercurrentFaults_waiting : (issuingWait.phase.active = true ∧
      issuingWait.drc.driver.pulsing = none ∧ issuingWait.drc.driver.fault = false ∧ issuingWait.drc.queue = [] ∧
      issuingWait.pins.sense = .asserted ∧ (issuingWait.drawer (63 : Fin 64)).state.waiting = true ∧
      (issuingWait.drawer (63 : Fin 64)).waitTime = (issuingWait.drawer (63 : Fin 64)).waitTimer ∧
      issuingWait.drc.driver.overcurrents = 2 ∧
      (List.range 64).filter (fun e => (issuingWait.drawer e).state.releasing) = [63]) ∧
    OperationLaw issuingWait ∧ ∀ e ∈ [63], ∀ c p k m a r, issuingWait.op e = some ⟨.issue c p k m, a, r⟩ →
      c ≤ 15 ∧ p ≤ 127 ∧ a ≤ 511 ∧ (issuingWait.asm a).stock = some e :=
  ⟨by decide +kernel, issue_law rfl (fun d => by
    simp only [issuingWait, State.setDrawer_op, State.setDriver_op, State.setPins_op]
    exact issuing_op .backoff (by decide) d) (by decide +kernel)⟩

/-- Drawer 63 in BACKOFF with the withdraw of assembly 2, its wait time and wait timer as given. -/
def waiting63 (time timer : Nat) : State :=
  let s := release 63 .backoff ⟨.withdraw, 2, none⟩ crib
  s.setDrawer 63 { s.drawer 63 with waitTime := time, waitTimer := timer }

/-- Drawer 63 OPEN with that withdraw, its open timer as given. -/
def opened63 (timer : Nat) : State :=
  let s := release 63 .opened ⟨.withdraw, 2, some true⟩ crib
  s.setDrawer 63 { s.drawer 63 with openTimer := timer }

theorem test_witness_DrawerTimersExpire :
    (let s := waiting63 100 100;
      s.phase.active = true ∧ (s.drawer (63 : Fin 64)).state.waiting = true ∧
      (s.drawer (63 : Fin 64)).waitTime ≤ (s.drawer (63 : Fin 64)).waitTimer ∧
      (busyDriver s).drc.driver.pulsing.isSome = true ∧ ((busyDriver s).drawer (63 : Fin 64)).state.waiting = true ∧
      s.drc.driver.pulsing = none ∧ s.drc.driver.fault = false ∧ s.drc.queue = [] ∧ s.pins.sense ≠ .asserted ∧
      (s.setPins ⟨false, .asserted, false⟩).pins.sense = .asserted ∧ s.drc.driver.overcurrents < 2 ∧
      (s.drawer (63 : Fin 64)).attempts + 1 < s.params.attemptLimit) ∧
    ((waiting63 100 99).drawer (63 : Fin 64)).waitTimer < ((waiting63 100 99).drawer (63 : Fin 64)).waitTime ∧
    (let s := opened63 60000;
      s.phase.active = true ∧ (s.drawer (63 : Fin 64)).state = .opened ∧
      (s.drawer (63 : Fin 64)).openReported = false ∧
      s.params.openLimit * 1000 = (s.drawer (63 : Fin 64)).openTimer) ∧
    ((opened63 59999).drawer (63 : Fin 64)).openTimer < (opened63 59999).params.openLimit * 1000 := by
  refine ⟨?_, ?_, ?_, ?_⟩ <;> decide +kernel

theorem test_witness_RecordsBeginAnew : (work.asm 511).holder ≠ some .P ∧
    work.taken .C (.register 511 (some 255) (some (4000000, 4000000)) (some (500000, 500000)) 2 4000001 49) = some 0 ∧
    lifeModeOf 2 = some .time ∧ (work.asm 511).state = .vacant ∧
    (work.setAsm 511 (blankRecord .regrind)).taken .C (.returnFromRegrind 511) = some 0 ∧
    (work.setAsm 511 (blankRecord .regrind)).inOperation 511 = false ∧
    ((work.setAsm 511 (blankRecord .regrind)).asm 511).state = .regrind ∧
    ((work.setAsm 511 (blankRecord .regrind)).asm 511).stock = none := by decide +kernel

theorem test_witness_RetireEmptiesTheRecord : crib.taken .C (.retire 511) = some 0 ∧ (crib.asm 511).holder ≠ some .P ∧
    crib.inOperation 511 = false ∧ (crib.asm 511).stock = none ∧ (crib.asm 511).state = .ready ∧
    crib.taken .C (.retire 4) = some 0 ∧ (crib.asm 4).holder ≠ some .P ∧ crib.inOperation 4 = false ∧
    (crib.asm 4).stock = some 4 ∧ (crib.drawer 4).mismatch = true ∧ (crib.asm 4).state = .regrind := by decide +kernel

/-- Assembly 4 REGRIND-stocked in a drawer whose mismatch mark is clear. -/
def unmarked4 : State := crib.setDrawer 4 { crib.drawer 4 with mismatch := false }

theorem test_witness_RetireEmptiesTheRecord_unmarked : unmarked4.taken .C (.retire 4) = some 0 ∧
    (unmarked4.asm 4).holder ≠ some .P ∧ unmarked4.inOperation 4 = false ∧ (unmarked4.asm 4).stock = some 4 ∧
    (unmarked4.drawer 4).mismatch = false := by decide +kernel

/-- R86: RETIRE of a stocked assembly is accepted only from a drawer whose mark is set. -/
theorem test_step_retire_stocked :
    ((after (.retire 4) unmarked4).port .C).buf = .held ⟨.wrongState, false, 0, .empty⟩ ∧
    ((after (.retire 4) crib).asm 4).state = .vacant := by decide +kernel

theorem test_witness_IssueReservesThePocket :
    (crib.taken .C (.issue 2 15 126) = some 0 ∧ (crib.asm 2).holder ≠ some .P ∧ crib.inOperation 2 = false ∧
      (crib.asm 2).state = .ready ∧ (crib.asm 2).stock = some 63 ∧ (crib.asm 2).markSet = true ∧
      (crib.asm 2).used < 8 * (crib.asm 2).limit ∧ 126 < (crib.profile 15).size ∧ crib.pocket 15 126 = .empty ∧
      (findPick crib.picks 15 126).isSome = false ∧ (crib.drawer 63).state = .closed ∧
      (crib.drawer 63).mismatch = false ∧ crib.drc.driver.fault = false ∧ crib.releaseCount < 8 ∧
      crib.drc.queue = [] ∧ crib.pins.sense ≠ .asserted) ∧
    (let s := crib.setPicks [⟨15, 0, 7, .machine, .waiting⟩];
      s.taken .C (.issuePick 15 0) = some 0 ∧ findPick s.picks 15 0 = some ⟨15, 0, 7, .machine, .waiting⟩ ∧
      s.chooseSister 7 = some 2 ∧ (s.asm 2).family = some 7 ∧ (busyDriver s).drc.driver.pulsing.isSome = true) ∧
    (let s := crib.setPins ⟨false, .asserted, false⟩;
      s.taken .C (.issue 2 15 126) = some 0 ∧ s.drc.queue = [] ∧ s.drc.driver.pulsing = none ∧ s.pins.sense = .asserted ∧
      s.drc.driver.overcurrents < 2 ∧ 1 < s.params.attemptLimit ∧ s.releaseCount < 8) := by
  refine ⟨?_, ?_, ?_⟩ <;> decide +kernel

theorem test_witness_SisterRuleChoosesTheLongestLasting : ∀ a, 1 ≤ (cell5.asm a).limit := by
  intro a
  simp only [cell5, State.setAsm_asm]
  split
  · decide
  · split
    · decide
    · split
      · decide
      · change 1 ≤ (tget (blankRecord .vacant) (tgen 512 fun _ => blankRecord .vacant) a).limit
        rw [tget_tgen]
        split <;> decide

/-- Drawer 63 OPEN with the STOCK of assembly 511, something in it. -/
def stocking : State :=
  let s := crib.setStock 63 none false
  release 63 .opened ⟨.stock, 511, some true⟩ (s.setDrawer 63 { s.drawer 63 with present := true })

theorem test_witness_StockAndWithdrawEnd :
    (stocking.phase.active = true ∧ (stocking.drawer (63 : Fin 64)).levelOpen = true ∧
      stocking.op (63 : Fin 64) = some ⟨.stock, 511, some true⟩ ∧ (stocking.drawer (63 : Fin 64)).mismatch = false ∧
      (stocking.drawer (63 : Fin 64)).stock = none ∧ (stocking.drawer (63 : Fin 64)).present = true ∧
      (stocking.asm 511).state = .ready ∧ (stocking.asm 511).stock = none ∧
      ((stocking.setAsm 511 (blankRecord .lost)).asm 511).state ≠ .ready) ∧
    (let s := release 63 .opened ⟨.withdraw, 2, some true⟩ crib;
      (s.drawer (63 : Fin 64)).levelOpen = true ∧ s.op (63 : Fin 64) = some ⟨.withdraw, 2, some true⟩ ∧
      (s.drawer (63 : Fin 64)).stock = some 2 ∧ (s.asm 2).stock = some (63 : Fin 64).val ∧ (s.asm 2).state = .ready ∧
      (s.drawer (63 : Fin 64)).present = false ∧
      (s.setDrawer 63 { s.drawer 63 with present := true }).op (63 : Fin 64) = some ⟨.withdraw, 2, some true⟩) := by
  refine ⟨?_, ?_⟩ <;> decide +kernel

theorem test_witness_IssueEnds :
    ((issuing .opened false).phase.active = true ∧ ((issuing .opened false).drawer (63 : Fin 64)).levelOpen = true ∧
      (issuing .opened false).op (63 : Fin 64) = some ⟨.issue 15 0 true true, 2, some true⟩ ∧
      ((issuing .opened false).asm 2).state = .issuing ∧ ((issuing .opened false).asm 2).stock = some (63 : Fin 64).val ∧
      ((issuing .opened false).drawer (63 : Fin 64)).stock = some 2 ∧
      ((issuing .opened false).drawer (63 : Fin 64)).present = false ∧
      findPick (issuing .opened false).picks 15 0 = some ⟨15, 0, 7, .machine, .inIssue⟩) ∧
    ((issuing .opened true).drawer (63 : Fin 64)).present = true := by
  refine ⟨?_, ?_⟩ <;> decide +kernel

/-- Drawer 0 OPEN with the RETURN of assembly 3 from pocket 15/127, whose pick entry waits for the pocket. -/
def returning (present : Bool) (staged : Option (Nat × Nat)) : State :=
  let s := (crib.setAsm 3 { crib.asm 3 with staged := staged }).setPicks [⟨15, 127, 7, .auto, .waitEmpty⟩]
  release 0 .opened ⟨.giveBack .good, 3, some true⟩ (s.setDrawer 0 { s.drawer 0 with present := present })

theorem test_witness_ReturnEnds :
    ((returning true none).phase.active = true ∧ ((returning true none).drawer (0 : Fin 64)).levelOpen = true ∧
      (returning true none).op (0 : Fin 64) = some ⟨.giveBack .good, 3, some true⟩ ∧
      ((returning true none).asm 3).state = .issued ∧ ((returning true none).asm 3).binding = some (15, 127) ∧
      ((returning true none).drawer (0 : Fin 64)).stock = none ∧
      ((returning true none).drawer (0 : Fin 64)).present = true ∧
      findPick (returning true none).picks 15 127 = some ⟨15, 127, 7, .auto, .waitEmpty⟩) ∧
    (((returning false (some (1, 99))).asm 3).staged = some (1, 99) ∧
      ((returning false (some (1, 99))).drawer (0 : Fin 64)).present = false) := by
  refine ⟨?_, ?_⟩ <;> decide +kernel

/-- R109 part 3 with R6, R8 and Table 1.2: returned GOOD with its mark clear, the assembly is UNMEASURED in no drawer. -/
theorem test_step_return_unmeasured :
    let r := (returning true none).asm 3
    let t := after (.closeSeen 0) ((returning true none).setAsm 3
      { r with facts := r.facts.map fun f => { f with current := false } })
    (t.asm 3).state = .unmeasured ∧ (t.asm 3).stock = none ∧ (t.asm 3).binding = none ∧ (t.drawer 0).stock = none ∧
    (t.drawer 0).state = .closed ∧ t.op 0 = none := by decide +kernel

theorem test_witness_SetLifeAppliesOrStages : crib.taken .C (.setLife 511 1 0 255) = some 0 ∧ lifeModeOf 1 = some .count ∧
    (crib.asm 511).state = .ready ∧ crib.taken .C (.setLife 3 1 4000001 50) = some 0 ∧ (crib.asm 3).state = .issued ∧
    (crib.asm 3).mode = .count ∧ crib.taken .C (.setLife 3 0 1 50) = some 0 ∧ lifeModeOf 0 = some .none := by
  decide +kernel

theorem test_witness_UsageCountsWear :
    (cell5.taken .M (.usage 5 22 3601 1001) = some 0 ∧ 22 < (cell5.profile 5).size ∧ cell5.pocket 5 22 = .bound 88 ∧
      (cell5.asm 88).binding = some (5, 22) ∧ (cell5.asm 88).mode ≠ .none ∧ (cell5.asm 88).state = .issued ∧
      (cell5.asm 88).family = some 7 ∧ (cell5.profile 5).autoRequest = true ∧
      8 * (cell5.asm 88).limit ≤ (cell5.asm 88).used + 1000 * (cell5.profile 5).factor) ∧
    (crib.taken .M (.usage 15 127 0 0) = some 0 ∧ 127 < (crib.profile 15).size ∧ crib.pocket 15 127 = .bound 3 ∧
      (crib.asm 3).binding = some (15, 127) ∧
      ((crib.setAsm 3 { crib.asm 3 with mode := .none }).asm 3).mode = .none) := by
  refine ⟨?_, ?_⟩ <;> decide +kernel

theorem test_witness_ProfileIsWrittenWhole :
    (work.taken .C (.writeCell 15 128 2 1 1 (-1000001) 17 0) = some 0 ∧ unitOf 2 = some .inchE5 ∧
      radiusFormOf 1 = some .diameter ∧ byteOrderOf 1 = some .big ∧ autoRequestOf 0 = some true) ∧
    (∀ p, 128 ≤ p → work.pocket 15 p = .empty) ∧ (∀ k ∈ work.picks, k.cell = 15 → k.pocket < 128) ∧
    ∀ e, work.formingReadAhead e = false :=
  ⟨by decide +kernel, fun p h => tget_beyond _ _ _ h, fun k (h : k ∈ []) => by simp at h, fun _ => rfl⟩

/-- The builder forming a read-ahead build of span 15/96/32, with the builds of a slot waiting. -/
def forming15 (b : Buffer) (q : List Nat) : State :=
  let s := ((work.setProfile 15 { defaultProfile with size := 128 }).setBuffer 15 b).setSlot 2
    (.building ⟨⟨9, 0, 1⟩, 0, [true]⟩)
  s.setHob { s.hob with slotBuilds := q, builder := some (freshBuild s (.readAhead 15) ⟨15, 96, 32⟩) }

theorem test_witness_ProfileIsWrittenWhole_forming :
    (let s := forming15 (.pending ⟨15, 96, 32⟩) [2];
      s.taken .C (.writeCell 15 128 2 1 1 0 8 1) = some 0 ∧ s.formingReadAhead 15 = true ∧
      s.hob.builder = some (freshBuild s (.readAhead 15) ⟨15, 96, 32⟩) ∧ s.hob.slotBuilds = [2] ∧
      s.slot 2 = .building ⟨⟨9, 0, 1⟩, 0, [true]⟩ ∧ s.hob.readAheads = []) ∧
    ∀ p, 128 ≤ p → (forming15 (.pending ⟨15, 96, 32⟩) [2]).pocket 15 p = .empty :=
  ⟨by decide +kernel, fun p h => tget_beyond _ _ _ h⟩

/-- R167, Table 8.6: the mark of the named pocket alone in a covered slot, and the VALID buffer INVALID; every mark and every
slot for all pockets; nothing for a pocket outside the span. -/
theorem test_signals :
    (let s := (work.setSlot 1 (.building ⟨⟨15, 8, 4⟩, 0, [false, false, false, false]⟩)).setBuffer 15
        (.valid ⟨15, 8, 8⟩ ⟨⟨15, 8, 8⟩, .micron, .radius, .little, []⟩);
      (s.disturb (.pocket 15 10)).slot 1 = .building ⟨⟨15, 8, 4⟩, 0, [false, false, true, false]⟩ ∧
      (s.disturb (.pocket 15 10)).buffer 15 = .invalid ⟨15, 8, 8⟩ ∧
      (s.disturb (.pocket 15 12)).slot 1 = s.slot 1 ∧ (s.disturb (.pocket 15 12)).buffer 15 = .invalid ⟨15, 8, 8⟩ ∧
      (s.disturb (.pocket 14 10)).slot 1 = s.slot 1 ∧ (s.disturb (.pocket 14 10)).buffer 15 = s.buffer 15 ∧
      (s.disturb .all).slot 1 = .building ⟨⟨15, 8, 4⟩, 0, [true, true, true, true]⟩ ∧
      (s.disturb .all).buffer 15 = .invalid ⟨15, 8, 8⟩) ∧
    (let s := forming15 (.pending ⟨15, 96, 32⟩) [2];
      (s.disturb (.pocket 15 127)).buffer 15 = .invalid ⟨15, 96, 32⟩ ∧
      (s.disturb (.pocket 15 127)).slot 2 = .building ⟨⟨9, 0, 1⟩, 0, [false]⟩ ∧
      (s.disturb (.pocket 15 127)).hob.builder = some ⟨.slot 2, 0, ⟨⟨9, 0, 1⟩, .micron, .radius, .little, []⟩⟩ ∧
      (s.disturb (.pocket 15 95)).hob = s.hob) := by
  refine ⟨?_, ?_⟩ <;> decide +kernel

theorem test_witness_ToolRequestsJoinAndLeave :
    (crib.taken .M (.requestTool 15 127 255) = some 0 ∧ 127 < (crib.profile 15).size ∧ crib.pocket 15 127 = .bound 3 ∧
      crib.pocket 15 0 = .empty ∧ crib.picks.length < 32 ∧
      (crib.setPicks [⟨15, 127, 7, .machine, .waitEmpty⟩]).taken .M (.withdrawRequest 15 127) = some 0 ∧
      findPick (crib.setPicks [⟨15, 127, 7, .machine, .waitEmpty⟩]).picks 15 127 =
        some ⟨15, 127, 7, .machine, .waitEmpty⟩) ∧
    ∀ k ∈ crib.picks, ¬ (k.cell = 15 ∧ k.pocket = 127) := ⟨by decide +kernel, fun k (h : k ∈ []) => by simp at h⟩

/-- Cell 15 with its slot 3 and its read-ahead buffer as given, the builder busy with slot 2. -/
def reading15 (x : Slot) (b : Buffer) : State :=
  let s := ((crib.setSlot 3 x).setBuffer 15 b).setSlot 2 (.building ⟨⟨9, 0, 1⟩, 0, [false]⟩)
  s.setHob { s.hob with builder := some (freshBuild s (.slot 2) ⟨9, 0, 1⟩) }

/-- An empty block of span 15/96/32. -/
def block15 : Block := ⟨⟨15, 96, 32⟩, .micron, .radius, .little, []⟩

theorem test_witness_decodes : Decodes 15 127 255 ⟨15, 96, 32⟩ ∧ Decodes 0 0 1 ⟨0, 0, 1⟩ :=
  ⟨⟨rfl, ⟨5, by decide⟩, by decide, by decide, by decide, by decide, by decide⟩,
    ⟨rfl, ⟨0, by decide⟩, by decide, by decide, by decide, by decide, by decide⟩⟩

theorem test_witness_HandoffTakesASlot :
    (crib.taken .M (.handoff 15 127 255) = some 0 ∧ 1 ≤ (crib.profile 15).size ∧ (crib.buffer 15).ident ≠ some ⟨15, 96, 32⟩ ∧
      crib.slot 0 = .free ∧ crib.hob.builder = none ∧ crib.hob.slotBuilds = [] ∧
      (reading15 .free .empty).slot 0 = .free ∧ (reading15 .free .empty).hob.builder.isSome = true ∧
      (reading15 (.building ⟨⟨15, 96, 32⟩, 3, []⟩) .empty).slot 3 = .building ⟨⟨15, 96, 32⟩, 3, []⟩ ∧
      (∀ n : Fin 4, (crib.slot n).ident ≠ some ⟨15, 96, 32⟩)) ∧
    (∀ n, (crib.slot n).ident ≠ some ⟨15, 96, 32⟩) ∧
    (let s := ((reading15 (.building ⟨⟨7, 0, 1⟩, 0, [false]⟩) .empty).setSlot 0 (.building ⟨⟨8, 0, 1⟩, 0, [false]⟩)).setSlot 1
      (.building ⟨⟨6, 0, 1⟩, 0, [false]⟩);
    (s.taken .M (.handoff 15 127 255) = some 0) ∧ ∀ n : Fin 4, s.slot n ≠ .free) :=
  ⟨by decide +kernel, no_slot (by decide +kernel), by decide +kernel⟩

theorem test_witness_HandoffTakesASlot_forming :
    let s := forming15 (.pending ⟨15, 96, 32⟩) []
    s.taken .M (.handoff 15 127 255) = some 0 ∧ 1 ≤ (s.profile 15).size ∧
    (s.buffer 15).ident = some ⟨15, 96, 32⟩ ∧ s.formingReadAhead 15 = true ∧ s.slot 0 = .free ∧
    ∀ n : Fin 4, (s.slot n).ident ≠ some ⟨15, 96, 32⟩ := by decide +kernel

theorem test_witness_HandoffDelivers :
    let held (m : Bool) (r : Nat) : Slot := .complete ⟨⟨15, 96, 32⟩, r, List.replicate 32 m⟩ block15 199
    ((reading15 (held false 0) .empty).taken .M (.handoff 15 127 255) = some 0 ∧
      (reading15 (held false 0) .empty).hob.builder.isSome = true ∧
      (reading15 (held false 0) .empty).formingReadAhead 15 = false ∧
      (reading15 (held false 0) .empty).slot 3 = held false 0 ∧ (reading15 (held true 2) .empty).slot 3 = held true 2 ∧
      (reading15 (held true 3) .empty).slot 3 = held true 3 ∧ 1 ≤ ((reading15 (held false 0) .empty).profile 15).size) ∧
    (∀ n : Fin 4, ((reading15 (held false 0) .empty).slot n).ident = some ⟨15, 96, 32⟩ → n = 3) ∧
    ((reading15 .free (.valid ⟨15, 96, 32⟩ block15)).buffer 15 = .valid ⟨15, 96, 32⟩ block15 ∧
      (∀ n : Fin 4, ((reading15 .free (.valid ⟨15, 96, 32⟩ block15)).slot n).ident ≠ some ⟨15, 96, 32⟩) ∧
      (reading15 .free (.valid ⟨15, 96, 32⟩ block15)).taken .M (.handoff 15 127 255) = some 0) := by
  refine ⟨?_, ?_, ?_⟩ <;> decide +kernel

theorem test_witness_HandoffDelivers_forming :
    let held : Slot := .complete ⟨⟨15, 64, 32⟩, 0, List.replicate 32 false⟩ block15 199
    let s := (forming15 (.pending ⟨15, 96, 32⟩) [2]).setSlot 3 held
    s.taken .M (.handoff 15 95 32) = some 0 ∧ s.slot 3 = held ∧ s.formingReadAhead 15 = true ∧
    (∀ n : Fin 4, (s.slot n).ident = some ⟨15, 64, 32⟩ → n = 3) ∧
    (∀ n : Fin 4, (s.slot n).ident ≠ some ⟨15, 96, 32⟩) ∧ Decodes 15 95 32 ⟨15, 64, 32⟩ := by
  refine ⟨by decide +kernel, rfl, by decide +kernel, by decide +kernel, by decide +kernel, rfl, ⟨5, by decide⟩, by decide,
    by decide, by decide, by decide, by decide⟩

/-- The builder forming a build of pocket 15/`p`, its slot building it. -/
def building15 (p r : Nat) (mark : Bool) (l : List Entry) (q : List Nat) : State :=
  let s := crib.setSlot 3 (.building ⟨⟨15, p, 1⟩, r, [mark]⟩)
  s.setHob { s.hob with
    slotBuilds := q
    builder := some ⟨.slot 3, 0, ⟨⟨15, p, 1⟩, .micron, .radius, .little, l⟩⟩ }

theorem test_witness_EntriesAreFormedInOrder :
    (building15 127 0 false [] []).phase.active = true ∧
    (building15 127 0 false [] []).hob.builder = some ⟨.slot 3, 0, ⟨⟨15, 127, 1⟩, .micron, .radius, .little, []⟩⟩ ∧
    (building15 127 0 false [] []).pocket 15 127 = .bound 3 ∧ 127 < ((building15 127 0 false [] []).profile 15).size ∧
    ((building15 127 0 false [] []).asm 3).markSet = true ∧
    ((building15 127 0 false [] []).asm 3).geometry = some ⟨1422017, 60005⟩ ∧
    (building15 0 0 false [] []).pocket 15 0 = .empty ∧ (issuing .opened true).pocket 15 0 = .reserved 2 ∧
    (work.profile 15).size ≤ 0 ∧
    ((crib.setAsm 3 ((crib.asm 3).clearMark)).asm 3).markSet = false := by decide +kernel

theorem test_witness_BuildsComplete :
    ((building15 0 3 true [entry0] []).slot 3 = .building ⟨⟨15, 0, 1⟩, 3, [true]⟩ ∧
      (building15 0 2 true [entry0] []).slot 3 = .building ⟨⟨15, 0, 1⟩, 2, [true]⟩ ∧
      (building15 0 0 false [entry0] []).hob.slotBuilds = [] ∧ (building15 0 0 false [entry0] []).hob.readAheads = [] ∧
      true ∉ [false] ∧
      ((building15 0 0 false [entry0] [1]).setSlot 1 (.building ⟨⟨6, 0, 1⟩, 0, [true]⟩)).slot 1
        = .building ⟨⟨6, 0, 1⟩, 0, [true]⟩) ∧
    (let s := building15 0 2 true [entry0] [1];
      s.phase.active = true ∧ s.hob.builder = some ⟨.slot 3, 0, ⟨⟨15, 0, 1⟩, .micron, .radius, .little, [entry0]⟩⟩ ∧
      s.hob.slotBuilds = [1] ∧ true ∈ [true]) ∧
    (let s := forming15 (.pending ⟨15, 96, 32⟩) [2];
      let b := { freshBuild s (.readAhead 15) ⟨15, 96, 32⟩ with
        block := { block15 with entries := List.replicate 32 entry0 } };
      (s.setHob { s.hob with builder := some b }).hob.builder = some b ∧
      b.block.ident.size ≤ b.block.entries.length ∧ b.target = .readAhead 15 ∧ s.buffer 15 = .pending ⟨15, 96, 32⟩ ∧
      s.hob.slotBuilds = [2] ∧ s.slot 2 = .building ⟨⟨9, 0, 1⟩, 0, [true]⟩) ∧
    ((crib.setBuffer 15 (.pending ⟨15, 0, 1⟩)).buffer 15 = .pending ⟨15, 0, 1⟩ ∧
      (crib.setSlot 3 (.complete ⟨⟨15, 0, 1⟩, 0, [false]⟩ block15 200)).slot (3 : Fin 4)
        = .complete ⟨⟨15, 0, 1⟩, 0, [false]⟩ block15 200 ∧ crib.params.discardLimit = 200 ∧
      (crib.setSlot 3 (.complete ⟨⟨15, 0, 1⟩, 0, [false]⟩ block15 199)).slot (3 : Fin 4)
        = .complete ⟨⟨15, 0, 1⟩, 0, [false]⟩ block15 199 ∧ crib.slot (3 : Fin 4) = .free) := by
  refine ⟨?_, ?_, ?_, ?_⟩ <;> decide +kernel

theorem test_witness_CommitCompletionWritesThePage :
    (let s := (crib.dirty 511).dirty 597;
      s.phase = .running ∧ s.rst.flight = some ⟨511, .asm (crib.asm 511).view, false⟩ ∧ s.rst.queue = [597]) ∧
    (work.dirty 597).rst.flight = some ⟨597, .params defaultParams, false⟩ ∧ (work.dirty 597).rst.queue = [] ∧
    (let s := ((crib.dirty 511).dirty 597).setPhase .drain;
      s.phase = .drain ∧ s.rst.flight = some ⟨511, .asm (crib.asm 511).view, false⟩ ∧ s.rst.queue ≠ [] ∧
      s.rst.queue = [597]) := by
  refine ⟨?_, ?_⟩ <;> decide +kernel

theorem test_witness_RestartDrainsAndLoads :
    (work.taken .C .restart = some 0 ∧ (measuring []).taken .C .restart = some 0 ∧ (measuring []).ocu ≠ none ∧
      (pulsing63 []).taken .C .restart = some 0 ∧ (pulsing63 []).ocu = none ∧ (pulsing63 []).busyDrawer 63 = true ∧
      (∀ e : Fin 63, (pulsing63 []).busyDrawer e = false)) ∧
    (work.ocu = none ∧ (∀ d : Fin 64, (work.drawer d).state ≠ .pulsing ∧ (work.drawer d).state ≠ .opened ∧
      work.op d = none) ∧ work.rst.queue = [] ∧ work.rst.flight = none ∧ (work.dirty 597).rst.flight ≠ none ∧
      (waiting.port .M).buf = .pending 0x22 (.readCell 3) ∧ waiting.taken .C .restart = some 0) ∧
    (({ work.dirty 597 with phase := .drain } : State).phase = .drain ∧
      ({ work.dirty 597 with phase := .drain } : State).rst.flight = some ⟨597, .params defaultParams, false⟩) := by
  refine ⟨?_, ?_, ?_⟩ <;> decide +kernel

theorem test_witness_PowerAndResetMoveThePhase : (after (.powerLoss .mixed) work).phase = .off ∧
    (after (.powerLoss .mixed) work).pins.resetAsserted = false ∧
    (after (.resetInputAsserted .former) (after (.powerLoss .mixed) work)).phase = .off ∧
    (after (.resetInputAsserted .former) (after (.powerLoss .mixed) work)).pins.resetAsserted = true ∧
    (after (.resetInputAsserted .former) work).phase = .held ∧ work.phase ≠ .off ∧ work.phase ≠ .held ∧
    (work.dirty 597).rst.flight = some ⟨597, .params defaultParams, false⟩ ∧ work.rst.flight = none := by decide +kernel

theorem test_witness_LoadEndStartsThePart : State.reset.phase = .load .powerOn ∧ State.reset.rst.queue = [] ∧
    State.reset.rst.flight = none ∧ (∀ p, (State.reset.port p).notices = []) ∧
    (let s := (State.reset.setActive (some 3)).setPage 597 .mixed;
      s.phase = .load .powerOn ∧ s.rst.queue = [] ∧ s.rst.flight = none ∧ s.rfs.active = some 3 ∧
      (s.refSet 3).certified = false ∧ s.readPage 597 = .failed ∧ s.readPage 596 ≠ .failed ∧
      (s.port .P).notices = [] ∧ (s.port .C).notices = [] ∧ (s.port .M).notices = []) :=
  ⟨rfl, rfl, rfl, fun p => by cases p <;> rfl, by decide +kernel⟩

/-- A load that finds assembly 3 bound in pocket 15/127, assemblies 2 and drawer 63 naming each other, and drawer 4 naming
an assembly that is LOST. -/
def loading : State :=
  (((((work.setProfile 15 { defaultProfile with size := 128 }).setAsm 3 { tool .issued 500 0 with
    binding := some (15, 127) }).setAsm 2 { tool .ready 500 0 with stock := some 63 }).setDrawer 63
    { work.drawer 63 with stock := some 2 }).setDrawer 4 { work.drawer 4 with stock := some 4 }).setPhase (.load .restart)

theorem test_witness_LoadEndSettlesTheRecords : loading.phase = .load .restart ∧
    (∀ c p, loading.pocket c p = .empty) ∧ (∀ c, (loading.profile c).size ≤ 128) ∧
    (∀ a, (loading.asm a).stock ≠ none → (loading.asm a).state ≠ .issued ∧ (loading.asm a).state ≠ .exhausted) ∧
    KeepsBinding loading 3 15 127 ∧ KeepsStock loading 63 2 ∧ ¬ KeepsStock loading 4 4 := by
  have hasm : ∀ a, loading.asm a = if a = 2 then { tool .ready 500 0 with stock := some 63 }
      else if a = 3 then { tool .issued 500 0 with binding := some (15, 127) } else blankRecord .vacant := by
    intro a
    have h2 : (2 = a ∧ 2 < 512) = (a = 2) := by simp [eq_comm]
    have h3 : (3 = a ∧ 3 < 512) = (a = 3) := by simp [eq_comm]
    simp only [loading, State.setPhase_asm, State.setDrawer_asm, State.setAsm_asm, State.setProfile_asm, work_asm, h2, h3]
  refine ⟨rfl, fun c p => ?_, fun c => ?_, fun a h => ?_, ⟨⟨.inl ?_, ?_⟩, ?_, fun b hb h => ?_⟩, ⟨?_, ?_, .inl ?_⟩, fun h => ?_⟩
  · simp only [loading, State.setPhase_pocket, State.setDrawer_pocket, State.setAsm_pocket, State.setProfile_pocket,
      work_pocket]
  · simp only [loading, State.setPhase_profile, State.setDrawer_profile, State.setAsm_profile,
      State.setProfile_profile, work_profile]
    split <;> decide
  · rw [hasm] at h ⊢
    split at h
    · simp [*, tool, blankRecord]
    · split at h <;> simp [tool, blankRecord] at h
  · rw [hasm]; rfl
  · rw [hasm]; rfl
  · decide +kernel
  · have : (loading.asm b).state ≠ .issued ∧ (loading.asm b).state ≠ .exhausted := by
      rw [hasm, if_neg (by omega : b ≠ 3)]
      split <;> simp [tool, blankRecord]
    exact h.1.elim this.1 this.2
  · decide +kernel
  · decide +kernel
  · decide +kernel
  · exact absurd h.2.1 (by decide +kernel)

/-! The hypotheses of the statements about every step, in normal operation. -/

theorem test_witness_EveryStepKeepsTheListLaws : step work = .next work.tick ∧
    NoticeLaw work ∧ KeepLaw work ∧ ReadingLaw work ∧ PickLaw work :=
  ⟨rfl, fun p => by cases p <;> decide, ⟨rfl, rfl, fun _ => rfl⟩, fun x (h : none = some x) => by simp at h, by decide,
    by decide⟩

theorem test_witness_EveryStepKeepsTheStoreLaws : step work = .next work.tick ∧
    CommitLaw work ∧ UsedLaw work ∧ SlotLaw work ∧ ActiveLaw work :=
  ⟨rfl, ⟨by decide, fun _ => rfl, fun c (h : none = some c) => by simp at h, fun _ _ => ⟨rfl, rfl⟩⟩,
    ⟨fun a => by rw [work_asm]; decide, fun k j r x h => by simp [work_page] at h,
      fun c r (h : none = some c) => by simp at h⟩,
    ⟨fun i j x h => by simp [work_slot, Slot.ident] at h, fun c x h => by simp [work_buffer, Buffer.ident] at h⟩,
    fun _ k (h : none = some k) => by simp at h⟩

theorem test_witness_EveryStepKeepsTheReleaseLaw : step work = .next work.tick ∧ ReleaseLaw work := by
  refine ⟨rfl, by decide, fun d => ?_, fun d => ?_, fun h => by simp [work, State.reset] at h, fun _ _ => rfl,
    by decide +kernel, fun x h => by simp [work] at h, fun _ d => ?_⟩ <;> rw [work_drawer] <;> split <;>
    simp [work, State.reset, restDrawer, State.noDrawer]

theorem test_witness_EveryStepKeepsTheSessionAndOperationLaws : step work = .next work.tick ∧
    SessionLaw work ∧ OperationLaw work :=
  ⟨rfl, ⟨fun a k l (h : none = some _) => by simp at h, fun a h => by simp [work_asm, blankRecord] at h⟩,
    ⟨fun d e o u h => by simp [work_op] at h, fun d o c p l k h => by simp [work_op] at h,
      fun d o k h => by simp [work_op] at h, fun c d _ => work_op d⟩⟩

end Sys2Proof.Tests
end

section
/-! PROOFS. What a taken LOCK and a taken UNLOCK do, by the lock holder of the record they name. First the restart of the
holder's idle timer (R14), which comes before the block's own checks; then the reply to a request; then each block operation,
said once for every holder; then the statements. -/

namespace Sys2Proof.Machine

open Sys2Proof

variable {s : State} {p : Port} {a : Nat} {tag : Byte}

/-! ### The idle timer before the block (R14) -/

/-- Beyond assembly 511 no port holds a lock. -/
theorem holder_beyond (ha : 511 < a) : (s.asm a).holder = none := by
  rw [State.asm, tget_beyond _ _ _ ha]
  rfl

/-- The second of two writes of one assembly record stands. -/
theorem setAsm_setAsm (r x : AsmRecord) : (s.setAsm a r).setAsm a x = s.setAsm a x := by
  simp only [State.setAsm, tset_tset]

/-- The restart of an idle timer is lost under a write of the whole record. -/
theorem touch_setAsm (r : AsmRecord) : (s.touch p a).setAsm a r = s.setAsm a r := by
  rw [touch_eq, setAsm_setAsm]

/-- The holder's request restarts the idle timer. -/
theorem touch_of_holder (h : (s.asm a).holder = some p) : s.touch p a = s.setAsm a { s.asm a with idle := 0 } := by
  rw [State.touch, if_pos h]

/-! ### The reply -/

/-- A taken request whose block leaves the port's buffers alone and answers without keeping the reply ends with that answer
in the reply buffer. -/
theorem serve_taken_replied {i : Instr} {f : State → State × Answer} {t : State} {x : Answer}
    (h : s.taken p i = some tag) (hf : f (s.touchNamed p i) = (t, x)) (hport : t.port p = s.port p) (hx : x.keep = false) :
    s.serve p i f = t.replied p ⟨x.status, x.clamped, tag, x.body⟩ := by
  have hkeep : (t.port p).keep = false := by rw [hport, taken_keep h]
  rw [serve_taken f h, hf, answer_replied tag x hkeep hx]

/-- A taken request refused to a port that does not hold the lock of the record leaves no effect but its reply: not even the
idle timer restarts. -/
theorem serve_taken_unheld {i : Instr} {f : State → State × Answer} {x : Answer} (h : s.taken p i = some tag)
    (hi : namedAsm s.ocu i = some a) (hn : (s.asm a).holder ≠ some p) (hf : f s = (s, x)) (hx : x.keep = false) :
    s.serve p i f = s.replied p ⟨x.status, x.clamped, tag, x.body⟩ := by
  have hidle : s.touchNamed p i = s := touchNamed_none fun b hb => by
    rwa [← Option.some.inj (hi.symm.trans hb)]
  exact serve_taken_replied h (by rwa [hidle]) rfl hx

/-- A request on a port that Table 10.3 does not list for it is refused without reaching its block. -/
theorem serve_notPermitted {i : Instr} (f : State → State × Answer) (hrun : s.phase = .running)
    (hkeep : (s.port p).keep = false) (hwait : ∀ g j, (s.port p).buf ≠ .pending g j) (hi : requestPermitted i = false) :
    s.serve p i f = s.replied p ⟨.notPermitted, false, 0, .empty⟩ := by
  have hanswer : s.answer p 0 (refuse .notPermitted) = s.replied p ⟨.notPermitted, false, 0, .empty⟩ :=
    answer_replied 0 _ hkeep rfl
  unfold State.serve
  rw [hrun]
  cases hbuf : (s.port p).buf with
  | pending g j => exact absurd hbuf (hwait g j)
  | empty => simp only [hi, Bool.false_eq_true, if_false, hanswer]
  | held r => simp only [hi, Bool.false_eq_true, if_false, hanswer]

/-! ### LOCK at the ATB (R10) -/

theorem lockRecord_beyond (ha : 511 < a) : lockRecord p a s = (s, refuse .badArgument) := by
  rw [lockRecord, if_pos ha]

/-- A free record goes to the port, and its holder keeps it: one write says both. -/
theorem lockRecord_first (ha : a ≤ 511) (h : (s.asm a).holder = none ∨ (s.asm a).holder = some p) :
    lockRecord p a s = (s.setAsm a { s.asm a with holder := some p, idle := 0 }, accept (.lockHolder a p)) := by
  rw [lockRecord, if_neg ha.not_gt]
  rcases h with hfree | hown
  · simp only [hfree]
  · simp only [hown, if_true]

theorem lockRecord_other {q : Port} (ha : a ≤ 511) (hq : q ≠ p) (h : (s.asm a).holder = some q) :
    lockRecord p a s = (s, { refuse .locked with body := .lockHolder a q }) := by
  simp only [lockRecord, if_neg ha.not_gt, h, if_neg hq]

/-- LOCK's block operation behind the restart of the idle timer writes the same record: it sets the timer itself. -/
theorem lockRecord_touch_first (ha : a ≤ 511) (h : (s.asm a).holder = none ∨ (s.asm a).holder = some p) :
    lockRecord p a (s.touch p a) =
      (s.setAsm a { s.asm a with holder := some p, idle := 0 }, accept (.lockHolder a p)) := by
  have hrec := touch_asm (s := s) p a (Nat.lt_succ_of_le ha)
  rw [lockRecord_first ha (by rwa [hrec]), touch_setAsm, hrec]

/-! ### UNLOCK at the ATB (R11) -/

theorem unlockRecord_beyond (ha : 511 < a) : unlockRecord p a s = (s, refuse .badArgument) := by
  rw [unlockRecord, if_pos ha]

theorem unlockRecord_other {q : Port} (ha : a ≤ 511) (hq : q ≠ p) (h : (s.asm a).holder = some q) :
    unlockRecord p a s = (s, refuse .locked) := by
  simp only [unlockRecord, if_neg ha.not_gt, h, if_pos hq]

theorem unlockRecord_free (ha : a ≤ 511) (h : (s.asm a).holder = none) :
    unlockRecord p a s = (s, refuse .wrongState) := by
  simp only [unlockRecord, if_neg ha.not_gt, h]

theorem unlockRecord_measuring (ha : a ≤ 511) (h : (s.asm a).holder = some p) (hm : (s.asm a).state = .measuring) :
    unlockRecord p a s = (s, refuse .wrongState) := by
  simp only [unlockRecord, if_neg ha.not_gt, h, ne_eq, not_true_eq_false, if_false, if_pos hm]

theorem unlockRecord_own (ha : a ≤ 511) (h : (s.asm a).holder = some p) (hm : (s.asm a).state ≠ .measuring) :
    unlockRecord p a s = (s.setAsm a { s.asm a with holder := none, idle := 0 }, accept .empty) := by
  simp only [unlockRecord, if_neg ha.not_gt, h, ne_eq, not_true_eq_false, if_false, if_neg hm, AsmRecord.unlocked]

/-- The release behind the restart of the idle timer writes the same record: the timer stops. -/
theorem unlockRecord_touch_own (ha : a ≤ 511) (h : (s.asm a).holder = some p) (hm : (s.asm a).state ≠ .measuring) :
    unlockRecord p a (s.touch p a) = (s.setAsm a { s.asm a with holder := none, idle := 0 }, accept .empty) := by
  have hrec := touch_asm (s := s) p a (Nat.lt_succ_of_le ha)
  rw [unlockRecord_own ha (by rwa [hrec]) (by rwa [hrec]), touch_setAsm, hrec]

/-- The refusal in MEASURING leaves the restart of the holder's idle timer, and nothing else (R14). -/
theorem unlockRecord_touch_measuring (ha : a ≤ 511) (h : (s.asm a).holder = some p) (hm : (s.asm a).state = .measuring) :
    unlockRecord p a (s.touch p a) = (s.setAsm a { s.asm a with idle := 0 }, refuse .wrongState) := by
  have hrec := touch_asm (s := s) p a (Nat.lt_succ_of_le ha)
  rw [unlockRecord_measuring ha (by rwa [hrec]) (by rwa [hrec]), touch_of_holder h]

/-! ### The statements -/

/-- Settles O16, by the lock holder of the record. -/
theorem lockGoesToTheFirstPort : Obligations.LockGoesToTheFirstPort := by
  refine ⟨fun p a tag s h => ⟨fun ha => ?beyond, fun ha => ⟨fun hfirst => ?first, fun q hq hother => ?other⟩⟩,
    fun a s hrun hkeep hwait => ?portM⟩
  case beyond =>
    have hn : (s.asm a).holder ≠ some p := by simp [holder_beyond ha]
    exact congrArg Host.Outcome.next (serve_taken_unheld h rfl hn (lockRecord_beyond ha) rfl)
  case first => exact congrArg Host.Outcome.next (serve_taken_replied h (lockRecord_touch_first ha hfirst) rfl rfl)
  case other =>
    have hn : (s.asm a).holder ≠ some p := by simpa [hother] using hq
    exact ⟨a, congrArg Host.Outcome.next (serve_taken_unheld h rfl hn (lockRecord_other ha hq hother) rfl)⟩
  case portM => exact ⟨0, congrArg Host.Outcome.next (serve_notPermitted (lockRecord .M a) hrun hkeep hwait rfl)⟩

/-- Settles O17, by the checks of R11 in their order. -/
theorem unlockFollowsItsChecks : Obligations.UnlockFollowsItsChecks := by
  refine ⟨fun p a tag s h => ⟨fun ha => ?beyond, fun ha => ⟨fun q hq hother => ?other, fun hfree => ?free,
    fun hown hm => ?measuring, fun hown hm => ?own⟩⟩, fun a s hrun hkeep hwait => ?portM⟩
  case beyond =>
    have hn : (s.asm a).holder ≠ some p := by simp [holder_beyond ha]
    exact congrArg Host.Outcome.next (serve_taken_unheld h rfl hn (unlockRecord_beyond ha) rfl)
  case other =>
    have hn : (s.asm a).holder ≠ some p := by simpa [hother] using hq
    exact congrArg Host.Outcome.next (serve_taken_unheld h rfl hn (unlockRecord_other ha hq hother) rfl)
  case free =>
    have hn : (s.asm a).holder ≠ some p := by simp [hfree]
    exact congrArg Host.Outcome.next (serve_taken_unheld h rfl hn (unlockRecord_free ha hfree) rfl)
  case measuring =>
    exact congrArg Host.Outcome.next (serve_taken_replied h (unlockRecord_touch_measuring ha hown hm) rfl rfl)
  case own => exact congrArg Host.Outcome.next (serve_taken_replied h (unlockRecord_touch_own ha hown hm) rfl rfl)
  case portM => exact ⟨0, congrArg Host.Outcome.next (serve_notPermitted (unlockRecord .M a) hrun hkeep hwait rfl)⟩

end Sys2Proof.Machine
end

section
/-! PROOFS. What a taken CLEAR_JAM and a taken CLEAR_DRIVER do, and what a frame without a body turns out to be on a port.
First the CRC of a whole frame (R191) and the frame check of a frame without a body (R192, R193); then each block operation,
said once for what it finds to clear and once for nothing; then the statement. -/

namespace Sys2Proof.Machine

open Sys2Proof

variable {s : State} {d : Nat}

/-! ### The CRC of a whole frame (R191) -/

/-- A byte equal to the CRC so far clears it. -/
theorem crcByte_self (c : Byte) : crcByte c c = 0 := by
  have hzero : crcBit 0 = 0 := by decide
  simp only [crcByte, BitVec.xor_self]
  change crcBit (crcBit (crcBit (crcBit (crcBit (crcBit (crcBit (crcBit 0))))))) = 0
  simp only [hzero]

/-- Bytes closed by their own CRC have the CRC 0. -/
theorem crc8_append_crc8 (l : List Byte) : crc8 (l ++ [crc8 l]) = 0 := by
  rw [crc8, List.foldl_append]
  exact crcByte_self (crc8 l)

/-! ### Frames without a body (R192, R193) -/

/-- The frame of a request without arguments: its kind code, its tag, a length of 0 and the CRC. -/
theorem frameOf_bodyless {i : Instr} {code : Nat} (tag : Byte) (hi : requestBytes i = some (code, [])) :
    frameOf tag i = [lowByte code, tag, 0#8, 0#8, crc8 [lowByte code, tag, 0#8, 0#8]] := by
  rw [frameOf, hi]
  rfl

/-- The first byte of a frame reads as its kind code. -/
theorem arg_kindCode {code : Nat} (l : List Byte) (hcode : code < 256) : arg (lowByte code :: l) 0 1 = code := by
  simp [arg, field, readLe, lowByte, Nat.mod_eq_of_lt hcode]

/-- A frame without a body is sound where its kind takes none. -/
theorem frameFaulty_bodyless {code : Nat} {r : KindRow} (tag : Byte) (hcode : code < 256) (hrow : kindRow code = some r)
    (hlen : r.length = 0) :
    frameFaulty [lowByte code, tag, 0#8, 0#8, crc8 [lowByte code, tag, 0#8, 0#8]] false = false := by
  have hcrc : crc8 [lowByte code, tag, 0#8, 0#8, crc8 [lowByte code, tag, 0#8, 0#8]] = 0#8 :=
    crc8_append_crc8 [lowByte code, tag, 0#8, 0#8]
  have hzero : frameLength [lowByte code, tag, 0#8, 0#8, crc8 [lowByte code, tag, 0#8, 0#8]] = 0 := rfl
  simp [frameFaulty, hcrc, hzero, arg_kindCode _ hcode, hrow, hlen]

/-- On each port the frame of a request without arguments is the request its kind's row names, or is not permitted, as the
row lists the port. -/
theorem parseFrame_bodyless {i : Instr} {code : Nat} {r : KindRow} (p : Port) (tag : Byte)
    (hi : requestBytes i = some (code, [])) (hcode : code < 256) (hrow : kindRow code = some r) (hlen : r.length = 0) :
    parseFrame p (frameOf tag i) false =
      if p ∈ r.ports then .request tag (requestOf r.kind p []) else .notPermitted tag := by
  rw [frameOf_bodyless tag hi]
  simp only [parseFrame, frameFaulty_bodyless tag hcode hrow hlen, arg_kindCode _ hcode, hrow]
  rfl

/-! ### CLEAR_JAM at the DRC (R83) -/

theorem clearJam_jammed (hd : d ≤ 63) (h : (s.drawer d).state = .jammed) :
    clearJam d s = (s.setDrawer d { s.drawer d with state := .closed, attempts := 0, waitTimer := 0 }, accept .empty) := by
  rw [clearJam, if_neg hd.not_gt, if_neg (not_not_intro h), State.drawerRest]

theorem clearJam_not_jammed (hd : d ≤ 63) (h : (s.drawer d).state ≠ .jammed) :
    clearJam d s = (s, refuse .wrongState) := by
  rw [clearJam, if_neg hd.not_gt, if_pos h]

/-! ### CLEAR_DRIVER at the DRC (R82) -/

theorem clearDriver_fault (h : s.drc.driver.fault = true) :
    clearDriver s =
      (s.setDriver { s.drc.driver with fault := false, overcurrents := 0 }, accept (.driverCondition false)) := by
  rw [clearDriver, if_pos h]

theorem clearDriver_ok (h : s.drc.driver.fault = false) : clearDriver s = (s, refuse .wrongState) := by
  simp only [clearDriver, h, Bool.false_eq_true, if_false]

/-! ### The statement -/

/-- Settles O28, by the drawer's state for CLEAR_JAM, by the driver's condition for CLEAR_DRIVER, and by the row of
CLEAR_DRIVER in Table 10.3 for its permission. Neither request names an assembly, so no idle timer restarts ahead of the
block (R14). -/
theorem jamAndFaultAreCleared : Obligations.JamAndFaultAreCleared := by
  refine fun d tag s => ⟨fun h hd => ⟨fun hjam => ?jammed, fun hjam => ?notJammed⟩,
    fun h => ⟨fun hfault => ?fault, fun hok => ?noFault⟩, fun p => ?permission⟩
  case jammed => exact congrArg Host.Outcome.next (serve_taken_replied h (clearJam_jammed hd hjam) rfl rfl)
  case notJammed => exact congrArg Host.Outcome.next (serve_taken_replied h (clearJam_not_jammed hd hjam) rfl rfl)
  case fault => exact congrArg Host.Outcome.next (serve_taken_replied h (clearDriver_fault hfault) rfl rfl)
  case noFault => exact congrArg Host.Outcome.next (serve_taken_replied h (clearDriver_ok hok) rfl rfl)
  case permission =>
    have hrow : kindRow 0x1A = some ⟨0x1A, .clearDriver, [.C], 0⟩ := by decide
    rw [parseFrame_bodyless p tag rfl (by decide) hrow rfl]
    simp only [List.mem_singleton, requestOf]

end Sys2Proof.Machine
end

section
/-! PROOFS. The frame of every shared operation: which parts of the state it leaves as they were. A part is kept with every
reading of it (`KeepsAtb`: the assembly table and each assembly record); each operation's frame is said once, tagged `simp`,
and later proofs read through an operation by it. -/

namespace Sys2Proof.Machine

open Sys2Proof

/-! ### Parts of the state that stay -/

section parts

variable (s t : State)

/-- The Assembly Table stays, and every assembly record with it. -/
@[simp] abbrev KeepsAtb : Prop := t.atb = s.atb ∧ ∀ a, t.asm a = s.asm a

/-- The Reference Store stays, and every reference set with it. -/
@[simp] abbrev KeepsRfs : Prop := t.rfs = s.rfs ∧ ∀ k, t.refSet k = s.refSet k

/-- The Drawer Controller stays, and every drawer record with it. -/
@[simp] abbrev KeepsDrc : Prop := t.drc = s.drc ∧ (∀ d, t.drawer d = s.drawer d) ∧ t.releaseCount = s.releaseCount

/-- The Crib Operation Controller stays, and every operation record with it. -/
@[simp] abbrev KeepsCoc : Prop := t.coc = s.coc ∧ (∀ d, t.op d = s.op d) ∧ ∀ a, t.inOperation a = s.inOperation a

/-- The profiles, the pocket map and the pick list stay. -/
@[simp] abbrev KeepsCtb : Prop :=
  t.ctb = s.ctb ∧ (∀ c, t.profile c = s.profile c) ∧ (∀ c p, t.pocket c p = s.pocket c p) ∧ t.picks = s.picks

/-- The Handoff Builder stays, and every slot and read-ahead buffer with it. -/
@[simp] abbrev KeepsHob : Prop := t.hob = s.hob ∧ (∀ i, t.slot i = s.slot i) ∧ ∀ c, t.buffer c = s.buffer c

/-- The Record Store stays, and every page with it. -/
@[simp] abbrev KeepsRst : Prop := t.rst = s.rst ∧ ∀ k, t.page k = s.page k

/-- The port interfaces stay. -/
@[simp] abbrev KeepsPorts : Prop := t.ports = s.ports ∧ ∀ p, t.port p = s.port p

/-- Parameters, phase and the waiting commands stay. -/
@[simp] abbrev KeepsMode : Prop := t.params = s.params ∧ t.phase = s.phase ∧ t.pending = s.pending

/-- Of the ports only notice queues and overflow marks change. -/
@[simp] abbrev OnlyNotices : Prop :=
  (∀ p, (t.port p).buf = (s.port p).buf) ∧ (∀ p, (t.port p).keep = (s.port p).keep) ∧
    (∀ p, (t.port p).dataOut = (s.port p).dataOut) ∧ ∀ p, (t.port p).draws = (s.port p).draws

end parts

section parts

variable {s t : State}

theorem keepsAtb_of (h : t.atb = s.atb) : KeepsAtb s t := ⟨h, fun _ => by simp only [State.asm, h]⟩

theorem keepsRfs_of (h : t.rfs = s.rfs) : KeepsRfs s t := ⟨h, fun _ => by simp only [State.refSet, h]⟩

theorem keepsDrc_of (h : t.drc = s.drc) : KeepsDrc s t :=
  ⟨h, fun _ => by simp only [State.drawer, h], by simp only [State.releaseCount, h]⟩

theorem keepsCoc_of (h : t.coc = s.coc) : KeepsCoc s t :=
  ⟨h, fun _ => by simp only [State.op, h], fun _ => by simp only [State.inOperation, h]⟩

theorem keepsCtb_of (h : t.ctb = s.ctb) : KeepsCtb s t :=
  ⟨h, fun _ => by simp only [State.profile, State.cell, h], fun _ _ => by simp only [State.pocket, State.cell, h],
    by simp only [State.picks, h]⟩

theorem keepsHob_of (h : t.hob = s.hob) : KeepsHob s t :=
  ⟨h, fun _ => by simp only [State.slot, h], fun _ => by simp only [State.buffer, h]⟩

theorem keepsRst_of (h : t.rst = s.rst) : KeepsRst s t := ⟨h, fun _ => by simp only [State.page, h]⟩

theorem keepsPorts_of (h : t.ports = s.ports) : KeepsPorts s t := ⟨h, fun p => by cases p <;> simp only [State.port, h]⟩

/-- A state is the sum of its parts. -/
theorem eq_of_parts (atb : t.atb = s.atb) (ocu : t.ocu = s.ocu) (rfs : t.rfs = s.rfs) (drc : t.drc = s.drc)
    (coc : t.coc = s.coc) (ctb : t.ctb = s.ctb) (hob : t.hob = s.hob) (rst : t.rst = s.rst) (params : t.params = s.params)
    (ports : t.ports = s.ports) (phase : t.phase = s.phase) (pins : t.pins = s.pins) (pending : t.pending = s.pending) :
    t = s := by
  cases s; cases t; simp_all

/-- Two tables of ports that agree on every port are equal. -/
theorem ports_ext (h : ∀ p, t.port p = s.port p) : t.ports = s.ports := by
  have hp := h .P
  have hc := h .C
  have hm := h .M
  simp only [State.port] at hp hc hm
  cases hs : s.ports
  cases ht : t.ports
  simp_all

end parts

variable (s : State)

/-! ### Counts under the updates of one record -/

@[simp] theorem setAsm_counts (a : Nat) (r : AsmRecord) : (s.setAsm a r).releaseCount = s.releaseCount ∧
    ∀ n, (s.setAsm a r).inOperation n = s.inOperation n := ⟨rfl, fun _ => rfl⟩

@[simp] theorem setPocket_counts (c p : Nat) (e : Pocket) : (s.setPocket c p e).releaseCount = s.releaseCount ∧
    ∀ n, (s.setPocket c p e).inOperation n = s.inOperation n := ⟨rfl, fun _ => rfl⟩

@[simp] theorem setProfile_counts (c : Nat) (p : Profile) : (s.setProfile c p).releaseCount = s.releaseCount ∧
    ∀ n, (s.setProfile c p).inOperation n = s.inOperation n := ⟨rfl, fun _ => rfl⟩

@[simp] theorem setPicks_counts (l : List Pick) : (s.setPicks l).releaseCount = s.releaseCount ∧
    ∀ n, (s.setPicks l).inOperation n = s.inOperation n := ⟨rfl, fun _ => rfl⟩

@[simp] theorem setSession_counts (x : Option Session) : (s.setSession x).releaseCount = s.releaseCount ∧
    ∀ n, (s.setSession x).inOperation n = s.inOperation n := ⟨rfl, fun _ => rfl⟩

@[simp] theorem setRefSet_counts (k : Nat) (r : RefSet) : (s.setRefSet k r).releaseCount = s.releaseCount ∧
    ∀ n, (s.setRefSet k r).inOperation n = s.inOperation n := ⟨rfl, fun _ => rfl⟩

@[simp] theorem setCurve_counts (c : Curve) : (s.setCurve c).releaseCount = s.releaseCount ∧
    ∀ n, (s.setCurve c).inOperation n = s.inOperation n := ⟨rfl, fun _ => rfl⟩

@[simp] theorem setStagedCurve_counts (c : Option Curve) : (s.setStagedCurve c).releaseCount = s.releaseCount ∧
    ∀ n, (s.setStagedCurve c).inOperation n = s.inOperation n := ⟨rfl, fun _ => rfl⟩

@[simp] theorem setActive_counts (k : Option Nat) : (s.setActive k).releaseCount = s.releaseCount ∧
    ∀ n, (s.setActive k).inOperation n = s.inOperation n := ⟨rfl, fun _ => rfl⟩

@[simp] theorem setHob_counts (h : Handoff) : (s.setHob h).releaseCount = s.releaseCount ∧
    ∀ n, (s.setHob h).inOperation n = s.inOperation n := ⟨rfl, fun _ => rfl⟩

@[simp] theorem setPage_counts (k : Nat) (p : Page) : (s.setPage k p).releaseCount = s.releaseCount ∧
    ∀ n, (s.setPage k p).inOperation n = s.inOperation n := ⟨rfl, fun _ => rfl⟩

@[simp] theorem setCommitQueue_counts (q : List Nat) : (s.setCommitQueue q).releaseCount = s.releaseCount ∧
    ∀ n, (s.setCommitQueue q).inOperation n = s.inOperation n := ⟨rfl, fun _ => rfl⟩

@[simp] theorem setFlight_counts (f : Option Commit) : (s.setFlight f).releaseCount = s.releaseCount ∧
    ∀ n, (s.setFlight f).inOperation n = s.inOperation n := ⟨rfl, fun _ => rfl⟩

@[simp] theorem setParams_counts (p : Params) : (s.setParams p).releaseCount = s.releaseCount ∧
    ∀ n, (s.setParams p).inOperation n = s.inOperation n := ⟨rfl, fun _ => rfl⟩

@[simp] theorem setPhase_counts (p : Phase) : (s.setPhase p).releaseCount = s.releaseCount ∧
    ∀ n, (s.setPhase p).inOperation n = s.inOperation n := ⟨rfl, fun _ => rfl⟩

@[simp] theorem setPins_counts (p : Pins) : (s.setPins p).releaseCount = s.releaseCount ∧
    ∀ n, (s.setPins p).inOperation n = s.inOperation n := ⟨rfl, fun _ => rfl⟩

@[simp] theorem setPort_counts (p : Port) (x : PortState) : (s.setPort p x).releaseCount = s.releaseCount ∧
    ∀ n, (s.setPort p x).inOperation n = s.inOperation n := ⟨rfl, fun _ => rfl⟩

@[simp] theorem setOp_releaseCount (d : Nat) (o : Option Operation) : (s.setOp d o).releaseCount = s.releaseCount := rfl

@[simp] theorem setReleaseQueue_counts (q : List Nat) : (s.setReleaseQueue q).releaseCount = s.releaseCount ∧
    ∀ n, (s.setReleaseQueue q).inOperation n = s.inOperation n := ⟨rfl, fun _ => rfl⟩

@[simp] theorem setDriver_counts (r : Driver) : (s.setDriver r).releaseCount = s.releaseCount ∧
    ∀ n, (s.setDriver r).inOperation n = s.inOperation n := ⟨rfl, fun _ => rfl⟩

@[simp] theorem setDrawer_inOperation (d : Nat) (r : Drawer) (x : Nat) :
    (s.setDrawer d r).inOperation x = s.inOperation x := rfl

@[simp] theorem setCurve_refSet (c : Curve) (k : Nat) : (s.setCurve c).refSet k = s.refSet k := rfl

@[simp] theorem setStagedCurve_refSet (c : Option Curve) (k : Nat) : (s.setStagedCurve c).refSet k = s.refSet k := rfl

@[simp] theorem setActive_refSet (k : Option Nat) (j : Nat) : (s.setActive k).refSet j = s.refSet j := rfl

/-! ### Ports -/

@[simp] theorem notify_frame (p : Port) (n : Notice) :
    (∀ k, (s.notify p n).refSet k = s.refSet k) ∧ (s.notify p n).releaseCount = s.releaseCount ∧
      (∀ a, (s.notify p n).inOperation a = s.inOperation a) ∧ KeepsHob s (s.notify p n) ∧ KeepsRst s (s.notify p n) ∧
      OnlyNotices s (s.notify p n) :=
  ⟨(keepsRfs_of (notify_rfs s p n)).2, (keepsDrc_of (notify_drc s p n)).2.2, (keepsCoc_of (notify_coc s p n)).2.2,
    keepsHob_of (notify_hob s p n), keepsRst_of (notify_rst s p n), notify_buf s p n, notify_keep s p n,
    notify_dataOut s p n, fun q => by rw [notify_eq, State.setPort_port]; split <;> simp_all⟩

@[simp] theorem replied_frame (p : Port) (r : Reply) :
    KeepsAtb s (s.replied p r) ∧ (s.replied p r).ocu = s.ocu ∧ KeepsRfs s (s.replied p r) ∧ KeepsDrc s (s.replied p r) ∧
      KeepsCoc s (s.replied p r) ∧ KeepsCtb s (s.replied p r) ∧ KeepsHob s (s.replied p r) ∧ KeepsRst s (s.replied p r) ∧
      KeepsMode s (s.replied p r) ∧ (s.replied p r).pins = s.pins := by
  refine ⟨keepsAtb_of ?_, ?_, keepsRfs_of ?_, keepsDrc_of ?_, keepsCoc_of ?_, keepsCtb_of ?_, keepsHob_of ?_,
    keepsRst_of ?_, ⟨?_, ?_, ?_⟩, ?_⟩ <;> rfl

@[simp] theorem hold_frame (p : Port) (r : Reply) (k : Bool) :
    KeepsAtb s (s.hold p r k) ∧ (s.hold p r k).ocu = s.ocu ∧ KeepsRfs s (s.hold p r k) ∧ KeepsDrc s (s.hold p r k) ∧
      KeepsCoc s (s.hold p r k) ∧ KeepsCtb s (s.hold p r k) ∧ KeepsHob s (s.hold p r k) ∧ KeepsRst s (s.hold p r k) ∧
      KeepsMode s (s.hold p r k) ∧ (s.hold p r k).pins = s.pins := by
  rw [hold_eq]
  refine ⟨keepsAtb_of ?_, ?_, keepsRfs_of ?_, keepsDrc_of ?_, keepsCoc_of ?_, keepsCtb_of ?_, keepsHob_of ?_,
    keepsRst_of ?_, ⟨?_, ?_, ?_⟩, ?_⟩ <;> rfl

@[simp] theorem answer_frame (p : Port) (tag : Byte) (a : Answer) :
    KeepsAtb s (s.answer p tag a) ∧ (s.answer p tag a).ocu = s.ocu ∧ KeepsRfs s (s.answer p tag a) ∧
      KeepsDrc s (s.answer p tag a) ∧ KeepsCoc s (s.answer p tag a) ∧ KeepsCtb s (s.answer p tag a) ∧
      KeepsHob s (s.answer p tag a) ∧ KeepsRst s (s.answer p tag a) ∧ KeepsMode s (s.answer p tag a) ∧
      (s.answer p tag a).pins = s.pins := hold_frame s p _ _

@[simp] theorem answerLoading_frame (p : Port) (tag : Byte) (d : Bool) :
    KeepsAtb s (s.answerLoading p tag d) ∧ (s.answerLoading p tag d).ocu = s.ocu ∧ KeepsRfs s (s.answerLoading p tag d) ∧
      KeepsDrc s (s.answerLoading p tag d) ∧ KeepsCoc s (s.answerLoading p tag d) ∧
      KeepsCtb s (s.answerLoading p tag d) ∧ KeepsHob s (s.answerLoading p tag d) ∧
      KeepsRst s (s.answerLoading p tag d) ∧ KeepsMode s (s.answerLoading p tag d) ∧
      (s.answerLoading p tag d).pins = s.pins := hold_frame s p _ _

/-! ### The idle timer -/

@[simp] theorem touch_frame (p : Port) (a : Nat) :
    (s.touch p a).ocu = s.ocu ∧ KeepsRfs s (s.touch p a) ∧ KeepsDrc s (s.touch p a) ∧ KeepsCoc s (s.touch p a) ∧
      KeepsCtb s (s.touch p a) ∧ KeepsHob s (s.touch p a) ∧ KeepsRst s (s.touch p a) ∧ KeepsPorts s (s.touch p a) ∧
      KeepsMode s (s.touch p a) ∧ (s.touch p a).pins = s.pins := by
  rw [touch_eq]
  refine ⟨?_, keepsRfs_of ?_, keepsDrc_of ?_, keepsCoc_of ?_, keepsCtb_of ?_, keepsHob_of ?_,
    keepsRst_of ?_, keepsPorts_of ?_, ⟨?_, ?_, ?_⟩, ?_⟩ <;> rfl

@[simp] theorem touchNamed_frame (p : Port) (i : Instr) :
    (s.touchNamed p i).ocu = s.ocu ∧ KeepsRfs s (s.touchNamed p i) ∧ KeepsDrc s (s.touchNamed p i) ∧
      KeepsCoc s (s.touchNamed p i) ∧ KeepsCtb s (s.touchNamed p i) ∧ KeepsHob s (s.touchNamed p i) ∧
      KeepsRst s (s.touchNamed p i) ∧ KeepsPorts s (s.touchNamed p i) ∧ KeepsMode s (s.touchNamed p i) ∧
      (s.touchNamed p i).pins = s.pins := by
  unfold State.touchNamed
  split
  · exact touch_frame s p _
  · simp

/-! ### The Record Store -/

/-- What an operation leaves that touches the Record Store alone. -/
theorem frame_of_rst {s t : State} (h : t = { s with rst := t.rst }) :
    KeepsAtb s t ∧ t.ocu = s.ocu ∧ KeepsRfs s t ∧ KeepsDrc s t ∧ KeepsCoc s t ∧ KeepsCtb s t ∧ KeepsHob s t ∧
      KeepsPorts s t ∧ KeepsMode s t ∧ t.pins = s.pins := by
  refine ⟨keepsAtb_of ?_, ?_, keepsRfs_of ?_, keepsDrc_of ?_, keepsCoc_of ?_, keepsCtb_of ?_, keepsHob_of ?_,
    keepsPorts_of ?_, ⟨?_, ?_, ?_⟩, ?_⟩ <;> rw [h]

@[simp] theorem dirty_frame (k : Nat) :
    KeepsAtb s (s.dirty k) ∧ (s.dirty k).ocu = s.ocu ∧ KeepsRfs s (s.dirty k) ∧ KeepsDrc s (s.dirty k) ∧
      KeepsCoc s (s.dirty k) ∧ KeepsCtb s (s.dirty k) ∧ KeepsHob s (s.dirty k) ∧ KeepsPorts s (s.dirty k) ∧
      KeepsMode s (s.dirty k) ∧ (s.dirty k).pins = s.pins := frame_of_rst (dirty_eq s k)

@[simp] theorem kickEngine_frame :
    KeepsAtb s s.kickEngine ∧ s.kickEngine.ocu = s.ocu ∧ KeepsRfs s s.kickEngine ∧ KeepsDrc s s.kickEngine ∧
      KeepsCoc s s.kickEngine ∧ KeepsCtb s s.kickEngine ∧ KeepsHob s s.kickEngine ∧ KeepsPorts s s.kickEngine ∧
      KeepsMode s s.kickEngine ∧ s.kickEngine.pins = s.pins := frame_of_rst (kickEngine_eq s)

theorem sweepDirty_eq (k : Nat) : s.sweepDirty k = { s with rst := (s.sweepDirty k).rst } := by
  unfold State.sweepDirty
  split
  · dsimp only
    split
    · split <;> rfl
    · exact dirty_eq s k
  · exact dirty_eq s k

@[simp] theorem sweepDirty_frame (k : Nat) :
    KeepsAtb s (s.sweepDirty k) ∧ (s.sweepDirty k).ocu = s.ocu ∧ KeepsRfs s (s.sweepDirty k) ∧
      KeepsDrc s (s.sweepDirty k) ∧ KeepsCoc s (s.sweepDirty k) ∧ KeepsCtb s (s.sweepDirty k) ∧
      KeepsHob s (s.sweepDirty k) ∧ KeepsPorts s (s.sweepDirty k) ∧ KeepsMode s (s.sweepDirty k) ∧
      (s.sweepDirty k).pins = s.pins := frame_of_rst (sweepDirty_eq s k)

theorem requeueDirty_eq (k : Nat) : s.requeueDirty k = { s with rst := (s.requeueDirty k).rst } := by
  unfold State.requeueDirty
  rw [dirty_eq]
  rfl

@[simp] theorem requeueDirty_frame (k : Nat) :
    KeepsAtb s (s.requeueDirty k) ∧ (s.requeueDirty k).ocu = s.ocu ∧ KeepsRfs s (s.requeueDirty k) ∧
      KeepsDrc s (s.requeueDirty k) ∧ KeepsCoc s (s.requeueDirty k) ∧ KeepsCtb s (s.requeueDirty k) ∧
      KeepsHob s (s.requeueDirty k) ∧ KeepsPorts s (s.requeueDirty k) ∧ KeepsMode s (s.requeueDirty k) ∧
      (s.requeueDirty k).pins = s.pins := frame_of_rst (requeueDirty_eq s k)

@[simp] theorem commitChange_frame (a : Nat) (r : AsmRecord) :
    KeepsAtb s (s.commitChange a r) ∧ (s.commitChange a r).ocu = s.ocu ∧ KeepsRfs s (s.commitChange a r) ∧
      KeepsDrc s (s.commitChange a r) ∧ KeepsCoc s (s.commitChange a r) ∧ KeepsCtb s (s.commitChange a r) ∧
      KeepsHob s (s.commitChange a r) ∧ KeepsPorts s (s.commitChange a r) ∧ KeepsMode s (s.commitChange a r) ∧
      (s.commitChange a r).pins = s.pins := by
  unfold State.commitChange
  split <;> simp

@[simp] theorem commitDrawer_frame (d : Nat) (r : Drawer) :
    KeepsAtb s (s.commitDrawer d r) ∧ (s.commitDrawer d r).ocu = s.ocu ∧ KeepsRfs s (s.commitDrawer d r) ∧
      KeepsDrc s (s.commitDrawer d r) ∧ KeepsCoc s (s.commitDrawer d r) ∧ KeepsCtb s (s.commitDrawer d r) ∧
      KeepsHob s (s.commitDrawer d r) ∧ KeepsPorts s (s.commitDrawer d r) ∧ KeepsMode s (s.commitDrawer d r) ∧
      (s.commitDrawer d r).pins = s.pins := by
  unfold State.commitDrawer
  split <;> simp

/-! ### The Handoff Builder -/

/-- What an operation leaves that touches the Handoff Builder alone. -/
theorem frame_of_hob {s t : State} (h : t = { s with hob := t.hob }) :
    KeepsAtb s t ∧ t.ocu = s.ocu ∧ KeepsRfs s t ∧ KeepsDrc s t ∧ KeepsCoc s t ∧ KeepsCtb s t ∧ KeepsRst s t ∧
      KeepsPorts s t ∧ KeepsMode s t ∧ t.pins = s.pins := by
  refine ⟨keepsAtb_of ?_, ?_, keepsRfs_of ?_, keepsDrc_of ?_, keepsCoc_of ?_, keepsCtb_of ?_,
    keepsRst_of ?_, keepsPorts_of ?_, ⟨?_, ?_, ?_⟩, ?_⟩ <;> rw [h]

@[simp] theorem kickBuilder_frame :
    KeepsAtb s s.kickBuilder ∧ s.kickBuilder.ocu = s.ocu ∧ KeepsRfs s s.kickBuilder ∧ KeepsDrc s s.kickBuilder ∧
      KeepsCoc s s.kickBuilder ∧ KeepsCtb s s.kickBuilder ∧ KeepsRst s s.kickBuilder ∧ KeepsPorts s s.kickBuilder ∧
      KeepsMode s s.kickBuilder ∧ s.kickBuilder.pins = s.pins := frame_of_hob (kickBuilder_eq s)

@[simp] theorem disturb_frame (g : Signal) :
    KeepsAtb s (s.disturb g) ∧ (s.disturb g).ocu = s.ocu ∧ KeepsRfs s (s.disturb g) ∧ KeepsDrc s (s.disturb g) ∧
      KeepsCoc s (s.disturb g) ∧ KeepsCtb s (s.disturb g) ∧ KeepsRst s (s.disturb g) ∧ KeepsPorts s (s.disturb g) ∧
      KeepsMode s (s.disturb g) ∧ (s.disturb g).pins = s.pins := frame_of_hob (disturb_eq s g)

@[simp] theorem signalPocket_frame (x : Option (Nat × Nat)) :
    KeepsAtb s (s.signalPocket x) ∧ (s.signalPocket x).ocu = s.ocu ∧ KeepsRfs s (s.signalPocket x) ∧
      KeepsDrc s (s.signalPocket x) ∧ KeepsCoc s (s.signalPocket x) ∧ KeepsCtb s (s.signalPocket x) ∧
      KeepsRst s (s.signalPocket x) ∧ KeepsPorts s (s.signalPocket x) ∧ KeepsMode s (s.signalPocket x) ∧
      (s.signalPocket x).pins = s.pins := frame_of_hob (signalPocket_eq s x)

@[simp] theorem dropBuild_frame :
    KeepsAtb s s.dropBuild ∧ s.dropBuild.ocu = s.ocu ∧ KeepsRfs s s.dropBuild ∧ KeepsDrc s s.dropBuild ∧
      KeepsCoc s s.dropBuild ∧ KeepsCtb s s.dropBuild ∧ KeepsRst s s.dropBuild ∧ KeepsPorts s s.dropBuild ∧
      KeepsMode s s.dropBuild ∧ s.dropBuild.pins = s.pins ∧ (∀ i, s.dropBuild.slot i = s.slot i) ∧
      ∀ c, s.dropBuild.buffer c = s.buffer c := by
  obtain ⟨hatb, hocu, hrfs, hdrc, hcoc, hctb, hrst, hports, hmode, hpins⟩ := frame_of_hob (s := s) (t := s.dropBuild) rfl
  exact ⟨hatb, hocu, hrfs, hdrc, hcoc, hctb, hrst, hports, hmode, hpins, fun _ => rfl, fun _ => rfl⟩

theorem cancelReadAhead_eq (c : Nat) : s.cancelReadAhead c = { s with hob := (s.cancelReadAhead c).hob } := by
  unfold State.cancelReadAhead
  dsimp only
  split <;> rfl

@[simp] theorem cancelReadAhead_frame (c : Nat) :
    KeepsAtb s (s.cancelReadAhead c) ∧ (s.cancelReadAhead c).ocu = s.ocu ∧ KeepsRfs s (s.cancelReadAhead c) ∧
      KeepsDrc s (s.cancelReadAhead c) ∧ KeepsCoc s (s.cancelReadAhead c) ∧ KeepsCtb s (s.cancelReadAhead c) ∧
      KeepsRst s (s.cancelReadAhead c) ∧ KeepsPorts s (s.cancelReadAhead c) ∧ KeepsMode s (s.cancelReadAhead c) ∧
      (s.cancelReadAhead c).pins = s.pins := frame_of_hob (cancelReadAhead_eq s c)

theorem queueReadAhead_eq (i : Ident) : s.queueReadAhead i = { s with hob := (s.queueReadAhead i).hob } := by
  unfold State.queueReadAhead
  dsimp only
  split
  · rfl
  · rw [kickBuilder_eq, cancelReadAhead_eq]
    rfl

@[simp] theorem queueReadAhead_frame (i : Ident) :
    KeepsAtb s (s.queueReadAhead i) ∧ (s.queueReadAhead i).ocu = s.ocu ∧ KeepsRfs s (s.queueReadAhead i) ∧
      KeepsDrc s (s.queueReadAhead i) ∧ KeepsCoc s (s.queueReadAhead i) ∧ KeepsCtb s (s.queueReadAhead i) ∧
      KeepsRst s (s.queueReadAhead i) ∧ KeepsPorts s (s.queueReadAhead i) ∧ KeepsMode s (s.queueReadAhead i) ∧
      (s.queueReadAhead i).pins = s.pins := frame_of_hob (queueReadAhead_eq s i)

theorem takeSlot_eq (n : Nat) (i : Ident) : s.takeSlot n i = { s with hob := (s.takeSlot n i).hob } := by
  unfold State.takeSlot
  dsimp only
  rw [kickBuilder_eq]
  split
  · rw [cancelReadAhead_eq]; rfl
  · rfl

@[simp] theorem takeSlot_frame (n : Nat) (i : Ident) :
    KeepsAtb s (s.takeSlot n i) ∧ (s.takeSlot n i).ocu = s.ocu ∧ KeepsRfs s (s.takeSlot n i) ∧
      KeepsDrc s (s.takeSlot n i) ∧ KeepsCoc s (s.takeSlot n i) ∧ KeepsCtb s (s.takeSlot n i) ∧
      KeepsRst s (s.takeSlot n i) ∧ KeepsPorts s (s.takeSlot n i) ∧ KeepsMode s (s.takeSlot n i) ∧
      (s.takeSlot n i).pins = s.pins := frame_of_hob (takeSlot_eq s n i)

@[simp] theorem requeueSlot_frame (n : Nat) (h : Held) :
    KeepsAtb s (s.requeueSlot n h) ∧ (s.requeueSlot n h).ocu = s.ocu ∧ KeepsRfs s (s.requeueSlot n h) ∧
      KeepsDrc s (s.requeueSlot n h) ∧ KeepsCoc s (s.requeueSlot n h) ∧ KeepsCtb s (s.requeueSlot n h) ∧
      KeepsRst s (s.requeueSlot n h) ∧ KeepsPorts s (s.requeueSlot n h) ∧ KeepsMode s (s.requeueSlot n h) ∧
      (s.requeueSlot n h).pins = s.pins := frame_of_hob rfl

@[simp] theorem freeSlot_frame (n : Nat) :
    KeepsAtb s (s.freeSlot n) ∧ (s.freeSlot n).ocu = s.ocu ∧ KeepsRfs s (s.freeSlot n) ∧ KeepsDrc s (s.freeSlot n) ∧
      KeepsCoc s (s.freeSlot n) ∧ KeepsCtb s (s.freeSlot n) ∧ KeepsRst s (s.freeSlot n) ∧ KeepsPorts s (s.freeSlot n) ∧
      KeepsMode s (s.freeSlot n) ∧ (s.freeSlot n).pins = s.pins := frame_of_hob rfl

/-! ### Assembly records -/

@[simp] theorem changeAsm_frame (a : Nat) (r : AsmRecord) :
    (s.changeAsm a r).atb = tset s.atb a r ∧ (∀ b, (s.changeAsm a r).asm b = if a = b ∧ a < 512 then r else s.asm b) ∧
      (s.changeAsm a r).ocu = s.ocu ∧ KeepsRfs s (s.changeAsm a r) ∧ KeepsDrc s (s.changeAsm a r) ∧
      KeepsCoc s (s.changeAsm a r) ∧ KeepsCtb s (s.changeAsm a r) ∧ KeepsRst s (s.changeAsm a r) ∧
      KeepsPorts s (s.changeAsm a r) ∧ KeepsMode s (s.changeAsm a r) ∧ (s.changeAsm a r).pins = s.pins := by
  rw [changeAsm_eq]
  refine ⟨rfl, fun b => State.setAsm_asm s a b r, ?_, keepsRfs_of ?_, keepsDrc_of ?_, keepsCoc_of ?_, keepsCtb_of ?_,
    keepsRst_of ?_, keepsPorts_of ?_, ⟨?_, ?_, ?_⟩, ?_⟩ <;> rfl

end Sys2Proof.Machine
end

section
/-! PROOFS. The frame of the ends of sessions and operations and of what the drawer controller does, each said once. -/

namespace Sys2Proof.Machine

open Sys2Proof

variable (s : State)

/-! ### The end of a session (R33, R35, R63) -/

@[simp] theorem applyStagedCurve_frame :
    KeepsAtb s s.applyStagedCurve ∧ s.applyStagedCurve.ocu = s.ocu ∧ (∀ k, s.applyStagedCurve.refSet k = s.refSet k) ∧
      s.applyStagedCurve.rfs.active = s.rfs.active ∧ KeepsDrc s s.applyStagedCurve ∧ KeepsCoc s s.applyStagedCurve ∧
      KeepsCtb s s.applyStagedCurve ∧ KeepsHob s s.applyStagedCurve ∧ KeepsMode s s.applyStagedCurve ∧
      s.applyStagedCurve.pins = s.pins ∧ OnlyNotices s s.applyStagedCurve := by
  unfold State.applyStagedCurve
  split <;> simp

@[simp] theorem finishSession_frame (d : SessionDone) :
    KeepsAtb s (s.finishSession d) ∧ (s.finishSession d).ocu = none ∧ (∀ k, (s.finishSession d).refSet k = s.refSet k) ∧
      (s.finishSession d).rfs.active = s.rfs.active ∧ KeepsDrc s (s.finishSession d) ∧ KeepsCoc s (s.finishSession d) ∧
      KeepsCtb s (s.finishSession d) ∧ KeepsHob s (s.finishSession d) ∧ KeepsMode s (s.finishSession d) ∧
      (s.finishSession d).pins = s.pins ∧ OnlyNotices s (s.finishSession d) := by
  unfold State.finishSession
  simp

@[simp] theorem returnSubject_frame (x : Session) :
    (s.returnSubject x).ocu = s.ocu ∧ KeepsRfs s (s.returnSubject x) ∧ KeepsDrc s (s.returnSubject x) ∧
      KeepsCoc s (s.returnSubject x) ∧ KeepsCtb s (s.returnSubject x) ∧ KeepsRst s (s.returnSubject x) ∧
      KeepsPorts s (s.returnSubject x) ∧ KeepsMode s (s.returnSubject x) ∧ (s.returnSubject x).pins = s.pins := by
  unfold State.returnSubject
  split <;> simp

@[simp] theorem releaseSubject_frame (x : Session) :
    (s.releaseSubject x).ocu = s.ocu ∧ KeepsRfs s (s.releaseSubject x) ∧ KeepsDrc s (s.releaseSubject x) ∧
      KeepsCoc s (s.releaseSubject x) ∧ KeepsCtb s (s.releaseSubject x) ∧ KeepsHob s (s.releaseSubject x) ∧
      KeepsRst s (s.releaseSubject x) ∧ KeepsPorts s (s.releaseSubject x) ∧ KeepsMode s (s.releaseSubject x) ∧
      (s.releaseSubject x).pins = s.pins := by
  unfold State.releaseSubject
  split <;> simp

/-- The assembly keys of a sweep dirtied one after the other touch the Record Store alone. -/
@[simp] theorem foldl_sweepDirty_frame (l : List Nat) :
    KeepsAtb s (l.foldl State.sweepDirty s) ∧ (l.foldl State.sweepDirty s).ocu = s.ocu ∧
      KeepsRfs s (l.foldl State.sweepDirty s) ∧ KeepsDrc s (l.foldl State.sweepDirty s) ∧
      KeepsCoc s (l.foldl State.sweepDirty s) ∧ KeepsCtb s (l.foldl State.sweepDirty s) ∧
      KeepsHob s (l.foldl State.sweepDirty s) ∧ KeepsPorts s (l.foldl State.sweepDirty s) ∧
      KeepsMode s (l.foldl State.sweepDirty s) ∧ (l.foldl State.sweepDirty s).pins = s.pins := by
  induction l generalizing s with
  | nil => simp
  | cons k l ih => simpa using ih (s.sweepDirty k)

/-- The marks of a set cleared: a record measured with it loses its mark, and nothing else changes (R58). -/
@[simp] theorem sweep_frame (k : Nat) :
    (s.sweep k).atb = tmap (fun r : AsmRecord => if r.measuredWith k then r.clearMark else r) s.atb ∧
      (s.sweep k).ocu = s.ocu ∧ KeepsRfs s (s.sweep k) ∧ KeepsDrc s (s.sweep k) ∧ KeepsCoc s (s.sweep k) ∧
      KeepsCtb s (s.sweep k) ∧ KeepsPorts s (s.sweep k) ∧ KeepsMode s (s.sweep k) ∧ (s.sweep k).pins = s.pins := by
  unfold State.sweep
  dsimp only
  generalize (List.range 512).filter _ = cleared
  split <;> refine ⟨?_, ?_, keepsRfs_of ?_, keepsDrc_of ?_, keepsCoc_of ?_, keepsCtb_of ?_, keepsPorts_of ?_, ?_, ?_⟩ <;>
    simp

@[simp] theorem expireLock_frame (a : Nat) :
    (∀ k, (s.expireLock a).refSet k = s.refSet k) ∧ (s.expireLock a).rfs.active = s.rfs.active ∧
      KeepsDrc s (s.expireLock a) ∧ KeepsCoc s (s.expireLock a) ∧ KeepsCtb s (s.expireLock a) ∧
      KeepsMode s (s.expireLock a) ∧ (s.expireLock a).pins = s.pins ∧ OnlyNotices s (s.expireLock a) := by
  unfold State.expireLock
  split
  · simp
  · dsimp only
    split
    · split <;> simp
    · simp

/-! ### The pick list and the pocket map (R95, R126) -/

@[simp] theorem autoRequest_frame (a c p : Nat) :
    KeepsAtb s (s.autoRequest a c p) ∧ (s.autoRequest a c p).ocu = s.ocu ∧ KeepsRfs s (s.autoRequest a c p) ∧
      KeepsDrc s (s.autoRequest a c p) ∧ KeepsCoc s (s.autoRequest a c p) ∧
      (∀ e, (s.autoRequest a c p).profile e = s.profile e) ∧ (∀ e q, (s.autoRequest a c p).pocket e q = s.pocket e q) ∧
      KeepsHob s (s.autoRequest a c p) ∧ KeepsRst s (s.autoRequest a c p) ∧ KeepsMode s (s.autoRequest a c p) ∧
      (s.autoRequest a c p).pins = s.pins ∧ OnlyNotices s (s.autoRequest a c p) := by
  unfold State.autoRequest
  split
  · simp
  · split
    · split <;> simp
    · simp

@[simp] theorem changePocket_frame (c p : Nat) (e : Pocket) :
    KeepsAtb s (s.changePocket c p e) ∧ (s.changePocket c p e).ocu = s.ocu ∧ KeepsRfs s (s.changePocket c p e) ∧
      KeepsDrc s (s.changePocket c p e) ∧ KeepsCoc s (s.changePocket c p e) ∧ (s.changePocket c p e).picks = s.picks ∧
      (∀ x, (s.changePocket c p e).profile x = s.profile x) ∧ KeepsHob s (s.changePocket c p e) ∧
      KeepsRst s (s.changePocket c p e) ∧ KeepsMode s (s.changePocket c p e) ∧ (s.changePocket c p e).pins = s.pins ∧
      OnlyNotices s (s.changePocket c p e) := by
  unfold State.changePocket
  simp [State.setPocket_profile]

/-- A changed pocket map entry, and every other (R119). -/
theorem changePocket_pocket (c p : Nat) (e : Pocket) (x q : Nat) :
    (s.changePocket c p e).pocket x q = if (c = x ∧ c < 16) ∧ p = q ∧ p < 128 then e else s.pocket x q := by
  simp [State.changePocket, State.setPocket_pocket]

/-! ### The ends of operations (R91, R94, R107, R111) -/

@[simp] theorem finishOp_frame (d : Nat) (o : Operation) (x : OpOutcome) (y z : Option Bool) :
    KeepsAtb s (s.finishOp d o x y z) ∧ (s.finishOp d o x y z).ocu = s.ocu ∧ KeepsRfs s (s.finishOp d o x y z) ∧
      KeepsDrc s (s.finishOp d o x y z) ∧ KeepsCtb s (s.finishOp d o x y z) ∧ KeepsHob s (s.finishOp d o x y z) ∧
      KeepsRst s (s.finishOp d o x y z) ∧ KeepsMode s (s.finishOp d o x y z) ∧ (s.finishOp d o x y z).pins = s.pins ∧
      (s.finishOp d o x y z).coc = tset s.coc d none ∧ OnlyNotices s (s.finishOp d o x y z) := by
  unfold State.finishOp
  simp

/-- The operation that ended is gone, and every other stands. -/
@[simp] theorem finishOp_op (d : Nat) (o : Operation) (x : OpOutcome) (y z : Option Bool) (e : Nat) :
    (s.finishOp d o x y z).op e = if d = e ∧ d < 64 then none else s.op e := by
  simp [State.finishOp, State.setOp_op]

@[simp] theorem undoIssue_frame (a c p : Nat) (link : Bool) :
    (s.undoIssue a c p link).atb = tset s.atb a ((s.asm a).enter .ready) ∧
      (∀ b, (s.undoIssue a c p link).asm b = if a = b ∧ a < 512 then (s.asm a).enter .ready else s.asm b) ∧
      (s.undoIssue a c p link).ocu = s.ocu ∧ KeepsRfs s (s.undoIssue a c p link) ∧
      KeepsDrc s (s.undoIssue a c p link) ∧ KeepsCoc s (s.undoIssue a c p link) ∧
      (∀ e, (s.undoIssue a c p link).profile e = s.profile e) ∧
      (∀ e q, (s.undoIssue a c p link).pocket e q =
        if (c = e ∧ c < 16) ∧ p = q ∧ p < 128 then .empty else s.pocket e q) ∧
      (s.undoIssue a c p link).picks = (if link then movePick s.picks c p .waiting else s.picks) ∧
      (s.undoIssue a c p link).hob = (s.changeAsm a ((s.asm a).enter .ready)).hob ∧
      KeepsRst s (s.undoIssue a c p link) ∧ KeepsMode s (s.undoIssue a c p link) ∧
      (s.undoIssue a c p link).pins = s.pins ∧ OnlyNotices s (s.undoIssue a c p link) := by
  unfold State.undoIssue
  cases link <;> simp [changePocket_pocket]

@[simp] theorem rollback_frame (d : Nat) (x : OpOutcome) :
    (s.rollback d x).ocu = s.ocu ∧ KeepsRfs s (s.rollback d x) ∧ KeepsDrc s (s.rollback d x) ∧
      (∀ e, (s.rollback d x).profile e = s.profile e) ∧ KeepsRst s (s.rollback d x) ∧ KeepsMode s (s.rollback d x) ∧
      (s.rollback d x).pins = s.pins ∧ OnlyNotices s (s.rollback d x) := by
  unfold State.rollback
  split
  · simp
  · dsimp only
    split <;> simp

/-- A rolled back operation is gone, and every other stands (R111). -/
@[simp] theorem rollback_op (d : Nat) (x : OpOutcome) (e : Nat) :
    (s.rollback d x).op e = if d = e ∧ d < 64 then none else s.op e := by
  unfold State.rollback
  split
  · next h =>
    split
    · next hd => rw [← hd.1, h]
    · rfl
  · dsimp only
    split <;> simp

/-- A written stock and mismatch mark leave everything but the drawer record. -/
@[simp] theorem setStock_frame (d : Nat) (k : Option Nat) (m : Bool) :
    KeepsAtb s (s.setStock d k m) ∧ (s.setStock d k m).ocu = s.ocu ∧ KeepsRfs s (s.setStock d k m) ∧
      KeepsCoc s (s.setStock d k m) ∧ KeepsCtb s (s.setStock d k m) ∧ KeepsHob s (s.setStock d k m) ∧
      KeepsRst s (s.setStock d k m) ∧ KeepsPorts s (s.setStock d k m) ∧ KeepsMode s (s.setStock d k m) ∧
      (s.setStock d k m).pins = s.pins ∧ (s.setStock d k m).drc.queue = s.drc.queue ∧
      (s.setStock d k m).drc.driver = s.drc.driver ∧
      ∀ e, (s.setStock d k m).drawer e =
        if d = e ∧ d < 64 then { s.drawer d with stock := k, mismatch := m } else s.drawer e := by
  refine ⟨keepsAtb_of ?_, ?_, keepsRfs_of ?_, keepsCoc_of ?_, keepsCtb_of ?_, keepsHob_of ?_, keepsRst_of ?_,
    keepsPorts_of ?_, ⟨?_, ?_, ?_⟩, ?_, ?_, ?_, fun e => State.setDrawer_drawer s d e _⟩ <;> rfl

/-- The close of an operation leaves the session, the Reference Store, the release queue and the driver. -/
@[simp] theorem closeOp_frame (d : Nat) (o : Operation) (b : Bool) :
    (s.closeOp d o b).ocu = s.ocu ∧ KeepsRfs s (s.closeOp d o b) ∧ (∀ e, (s.closeOp d o b).profile e = s.profile e) ∧
      KeepsMode s (s.closeOp d o b) ∧ (s.closeOp d o b).pins = s.pins ∧ (s.closeOp d o b).drc.queue = s.drc.queue ∧
      (s.closeOp d o b).drc.driver = s.drc.driver ∧ OnlyNotices s (s.closeOp d o b) := by
  unfold State.closeOp
  split
  · unfold State.closeStock
    dsimp only
    split
    · split <;> simp
    · simp
  · unfold State.closeWithdraw
    dsimp only
    split <;> simp
  · unfold State.closeIssue
    dsimp only
    split
    · simp
    · split <;> simp
  · unfold State.closeReturn
    dsimp only
    split
    · split
      · split
        · split <;> simp
        · simp
      · simp
    · simp

/-- The close of an operation ends it, and every other stands (R91). -/
@[simp] theorem closeOp_op (d : Nat) (o : Operation) (b : Bool) (e : Nat) :
    (s.closeOp d o b).op e = if d = e ∧ d < 64 then none else s.op e := by
  unfold State.closeOp
  split
  · unfold State.closeStock
    dsimp only
    split
    · split <;> simp
    · simp
  · unfold State.closeWithdraw
    dsimp only
    split <;> simp
  · unfold State.closeIssue
    dsimp only
    split
    · simp
    · split <;> simp
  · unfold State.closeReturn
    dsimp only
    split
    · split
      · split
        · split <;> simp
        · simp
      · simp
    · simp

@[simp] theorem reportOpened_frame (d : Nat) (b : Bool) :
    KeepsAtb s (s.reportOpened d b) ∧ (s.reportOpened d b).ocu = s.ocu ∧ KeepsRfs s (s.reportOpened d b) ∧
      KeepsDrc s (s.reportOpened d b) ∧ KeepsCtb s (s.reportOpened d b) ∧ KeepsHob s (s.reportOpened d b) ∧
      KeepsRst s (s.reportOpened d b) ∧ KeepsPorts s (s.reportOpened d b) ∧ KeepsMode s (s.reportOpened d b) ∧
      (s.reportOpened d b).pins = s.pins := by
  unfold State.reportOpened
  split <;> simp

/-- "Opened" writes the released mark of the drawer's operation, and every other stands (R93). -/
theorem reportOpened_op (d : Nat) (b : Bool) (e : Nat) :
    (s.reportOpened d b).op e =
      if d = e ∧ d < 64 then (s.op d).map fun o => { o with released := some b } else s.op e := by
  unfold State.reportOpened
  split
  · next o h => simp [State.setOp_op, h]
  · next h =>
    split
    · next hd => rw [← hd.1, h]; rfl
    · rfl

/-! ### Drawers and the driver (Section 4) -/

/-- What an operation leaves that touches the Drawer Controller alone. -/
theorem frame_of_drc {s t : State} (h : t = { s with drc := t.drc }) :
    KeepsAtb s t ∧ t.ocu = s.ocu ∧ KeepsRfs s t ∧ KeepsCoc s t ∧ KeepsCtb s t ∧ KeepsHob s t ∧ KeepsRst s t ∧
      KeepsPorts s t ∧ KeepsMode s t ∧ t.pins = s.pins := by
  refine ⟨keepsAtb_of ?_, ?_, keepsRfs_of ?_, keepsCoc_of ?_, keepsCtb_of ?_, keepsHob_of ?_,
    keepsRst_of ?_, keepsPorts_of ?_, ⟨?_, ?_, ?_⟩, ?_⟩ <;> rw [h]

@[simp] theorem drawerRest_frame (d : Nat) (st : DrawerState) (n : Nat) :
    KeepsAtb s (s.drawerRest d st n) ∧ (s.drawerRest d st n).ocu = s.ocu ∧ KeepsRfs s (s.drawerRest d st n) ∧
      KeepsCoc s (s.drawerRest d st n) ∧ KeepsCtb s (s.drawerRest d st n) ∧ KeepsHob s (s.drawerRest d st n) ∧
      KeepsRst s (s.drawerRest d st n) ∧ KeepsPorts s (s.drawerRest d st n) ∧ KeepsMode s (s.drawerRest d st n) ∧
      (s.drawerRest d st n).pins = s.pins := frame_of_drc rfl

@[simp] theorem drawerRest_drc (d : Nat) (st : DrawerState) (n : Nat) :
    (s.drawerRest d st n).drc.queue = s.drc.queue ∧ (s.drawerRest d st n).drc.driver = s.drc.driver ∧
      ∀ e, (s.drawerRest d st n).drawer e =
        if d = e ∧ d < 64 then { s.drawer d with state := st, attempts := n, waitTimer := 0 } else s.drawer e :=
  ⟨rfl, rfl, fun e => State.setDrawer_drawer s d e _⟩

@[simp] theorem drawerWait_frame (d : Nat) (st : DrawerState) (n x : Nat) :
    KeepsAtb s (s.drawerWait d st n x) ∧ (s.drawerWait d st n x).ocu = s.ocu ∧ KeepsRfs s (s.drawerWait d st n x) ∧
      KeepsCoc s (s.drawerWait d st n x) ∧ KeepsCtb s (s.drawerWait d st n x) ∧ KeepsHob s (s.drawerWait d st n x) ∧
      KeepsRst s (s.drawerWait d st n x) ∧ KeepsPorts s (s.drawerWait d st n x) ∧ KeepsMode s (s.drawerWait d st n x) ∧
      (s.drawerWait d st n x).pins = s.pins := frame_of_drc rfl

@[simp] theorem drawerWait_drc (d : Nat) (st : DrawerState) (n x : Nat) :
    (s.drawerWait d st n x).drc.queue = s.drc.queue ∧ (s.drawerWait d st n x).drc.driver = s.drc.driver ∧
      ∀ e, (s.drawerWait d st n x).drawer e = if d = e ∧ d < 64
        then { s.drawer d with state := st, attempts := n, waitTimer := 0, waitTime := x } else s.drawer e :=
  ⟨rfl, rfl, fun e => State.setDrawer_drawer s d e _⟩

@[simp] theorem queueDrawer_frame (d n : Nat) :
    KeepsAtb s (s.queueDrawer d n) ∧ (s.queueDrawer d n).ocu = s.ocu ∧ KeepsRfs s (s.queueDrawer d n) ∧
      KeepsCoc s (s.queueDrawer d n) ∧ KeepsCtb s (s.queueDrawer d n) ∧ KeepsHob s (s.queueDrawer d n) ∧
      KeepsRst s (s.queueDrawer d n) ∧ KeepsPorts s (s.queueDrawer d n) ∧ KeepsMode s (s.queueDrawer d n) ∧
      (s.queueDrawer d n).pins = s.pins := frame_of_drc rfl

@[simp] theorem queueDrawer_drc (d n : Nat) :
    (s.queueDrawer d n).drc.queue = s.drc.queue ++ [d] ∧ (s.queueDrawer d n).drc.driver = s.drc.driver ∧
      ∀ e, (s.queueDrawer d n).drawer e =
        if d = e ∧ d < 64 then { s.drawer d with state := .queued, attempts := n, waitTimer := 0 } else s.drawer e :=
  ⟨rfl, rfl, fun e => State.setDrawer_drawer s d e _⟩

@[simp] theorem endPulse_frame :
    KeepsAtb s s.endPulse ∧ s.endPulse.ocu = s.ocu ∧ KeepsRfs s s.endPulse ∧ KeepsCoc s s.endPulse ∧
      KeepsCtb s s.endPulse ∧ KeepsHob s s.endPulse ∧ KeepsRst s s.endPulse ∧ KeepsPorts s s.endPulse ∧
      KeepsMode s s.endPulse ∧ s.endPulse.pins = s.pins := frame_of_drc rfl

@[simp] theorem endPulse_drc :
    s.endPulse.drc.queue = s.drc.queue ∧ (∀ e, s.endPulse.drawer e = s.drawer e) ∧
      s.endPulse.drc.driver = { s.drc.driver with pulsing := none, pulseTimer := 0 } :=
  ⟨rfl, fun _ => rfl, rfl⟩

@[simp] theorem setOvercurrents_frame (n : Nat) :
    KeepsAtb s (s.setOvercurrents n) ∧ (s.setOvercurrents n).ocu = s.ocu ∧ KeepsRfs s (s.setOvercurrents n) ∧
      KeepsCoc s (s.setOvercurrents n) ∧ KeepsCtb s (s.setOvercurrents n) ∧ KeepsHob s (s.setOvercurrents n) ∧
      KeepsRst s (s.setOvercurrents n) ∧ KeepsPorts s (s.setOvercurrents n) ∧ KeepsMode s (s.setOvercurrents n) ∧
      (s.setOvercurrents n).pins = s.pins := frame_of_drc rfl

@[simp] theorem setOvercurrents_drc (n : Nat) :
    (s.setOvercurrents n).drc.queue = s.drc.queue ∧ (∀ e, (s.setOvercurrents n).drawer e = s.drawer e) ∧
      (s.setOvercurrents n).drc.driver = { s.drc.driver with overcurrents := n } :=
  ⟨rfl, fun _ => rfl, rfl⟩

@[simp] theorem beginPulse_frame (d : Nat) :
    KeepsAtb s (s.beginPulse d) ∧ (s.beginPulse d).ocu = s.ocu ∧ KeepsRfs s (s.beginPulse d) ∧
      KeepsCoc s (s.beginPulse d) ∧ KeepsCtb s (s.beginPulse d) ∧ KeepsHob s (s.beginPulse d) ∧
      KeepsRst s (s.beginPulse d) ∧ KeepsPorts s (s.beginPulse d) ∧ KeepsMode s (s.beginPulse d) ∧
      (s.beginPulse d).pins = s.pins := frame_of_drc rfl

@[simp] theorem beginPulse_drc (d : Nat) :
    (s.beginPulse d).drc.queue = s.drc.queue ∧
      (∀ e, (s.beginPulse d).drawer e = if d = e ∧ d < 64 then { s.drawer d with state := .pulsing } else s.drawer e) ∧
      (s.beginPulse d).drc.driver =
        { s.drc.driver with pulsing := some d, pulseTimer := 0, pulseWidth := s.params.pulseWidth, bus := d } :=
  ⟨rfl, fun e => State.setDrawer_drawer s d e _, rfl⟩

@[simp] theorem openDrawer_frame (d : Nat) :
    KeepsAtb s (s.openDrawer d) ∧ (s.openDrawer d).ocu = s.ocu ∧ KeepsRfs s (s.openDrawer d) ∧
      KeepsCoc s (s.openDrawer d) ∧ KeepsCtb s (s.openDrawer d) ∧ KeepsHob s (s.openDrawer d) ∧
      KeepsRst s (s.openDrawer d) ∧ KeepsPorts s (s.openDrawer d) ∧ KeepsMode s (s.openDrawer d) ∧
      (s.openDrawer d).pins = s.pins := frame_of_drc rfl

@[simp] theorem openDrawer_drc (d : Nat) :
    (s.openDrawer d).drc.queue = s.drc.queue ∧ (s.openDrawer d).drc.driver = s.drc.driver ∧
      ∀ e, (s.openDrawer d).drawer e = if d = e ∧ d < 64
        then { s.drawer d with state := .opened, attempts := 0, waitTimer := 0, openTimer := 0 } else s.drawer e :=
  ⟨rfl, rfl, fun e => State.setDrawer_drawer s d e _⟩

@[simp] theorem foldl_drawerRest_frame (l : List Nat) (st : DrawerState) (n : Nat) :
    KeepsAtb s (l.foldl (fun v x => State.drawerRest v x st n) s) ∧
      (l.foldl (fun v x => State.drawerRest v x st n) s).ocu = s.ocu ∧
      KeepsRfs s (l.foldl (fun v x => State.drawerRest v x st n) s) ∧
      KeepsCoc s (l.foldl (fun v x => State.drawerRest v x st n) s) ∧
      KeepsCtb s (l.foldl (fun v x => State.drawerRest v x st n) s) ∧
      KeepsHob s (l.foldl (fun v x => State.drawerRest v x st n) s) ∧
      KeepsRst s (l.foldl (fun v x => State.drawerRest v x st n) s) ∧
      KeepsPorts s (l.foldl (fun v x => State.drawerRest v x st n) s) ∧
      KeepsMode s (l.foldl (fun v x => State.drawerRest v x st n) s) ∧
      (l.foldl (fun v x => State.drawerRest v x st n) s).pins = s.pins ∧
      (l.foldl (fun v x => State.drawerRest v x st n) s).drc.queue = s.drc.queue ∧
      (l.foldl (fun v x => State.drawerRest v x st n) s).drc.driver = s.drc.driver := by
  induction l generalizing s with
  | nil => simp
  | cons x l ih => simpa using ih (s.drawerRest x st n)

@[simp] theorem foldl_rollback_frame (l : List Nat) (o : OpOutcome) :
    (l.foldl (fun v x => State.rollback v x o) s).ocu = s.ocu ∧
      KeepsRfs s (l.foldl (fun v x => State.rollback v x o) s) ∧
      KeepsDrc s (l.foldl (fun v x => State.rollback v x o) s) ∧
      (∀ e, (l.foldl (fun v x => State.rollback v x o) s).profile e = s.profile e) ∧
      KeepsRst s (l.foldl (fun v x => State.rollback v x o) s) ∧
      KeepsMode s (l.foldl (fun v x => State.rollback v x o) s) ∧
      (l.foldl (fun v x => State.rollback v x o) s).pins = s.pins ∧
      OnlyNotices s (l.foldl (fun v x => State.rollback v x o) s) := by
  induction l generalizing s with
  | nil => simp
  | cons x l ih => simpa using ih (s.rollback x o)

@[simp] theorem driverFault_frame (d : Nat) :
    (s.driverFault d).ocu = s.ocu ∧ KeepsRfs s (s.driverFault d) ∧ (∀ e, (s.driverFault d).profile e = s.profile e) ∧
      KeepsRst s (s.driverFault d) ∧ KeepsMode s (s.driverFault d) ∧ (s.driverFault d).pins = s.pins ∧
      (s.driverFault d).drc.queue = [] ∧ (s.driverFault d).drc.driver = { s.drc.driver with fault := true } ∧
      OnlyNotices s (s.driverFault d) := by
  unfold State.driverFault
  simp

@[simp] theorem failedAttempt_frame (d : Nat) :
    (s.failedAttempt d).ocu = s.ocu ∧ KeepsRfs s (s.failedAttempt d) ∧
      (∀ e, (s.failedAttempt d).profile e = s.profile e) ∧ KeepsRst s (s.failedAttempt d) ∧
      KeepsMode s (s.failedAttempt d) ∧ (s.failedAttempt d).pins = s.pins ∧ OnlyNotices s (s.failedAttempt d) := by
  unfold State.failedAttempt
  dsimp only
  split
  · simp
  · split
    · simp
    · split <;> simp

@[simp] theorem overcurrentPulse_frame (d : Nat) :
    (s.overcurrentPulse d).ocu = s.ocu ∧ KeepsRfs s (s.overcurrentPulse d) ∧
      (∀ e, (s.overcurrentPulse d).profile e = s.profile e) ∧ KeepsRst s (s.overcurrentPulse d) ∧
      KeepsMode s (s.overcurrentPulse d) ∧ (s.overcurrentPulse d).pins = { s.pins with sense := .spent } ∧
      OnlyNotices s (s.overcurrentPulse d) := by
  unfold State.overcurrentPulse
  simp

@[simp] theorem runDriver_frame (n : Nat) :
    (State.runDriver n s).ocu = s.ocu ∧ KeepsRfs s (State.runDriver n s) ∧
      (∀ e, (State.runDriver n s).profile e = s.profile e) ∧ KeepsRst s (State.runDriver n s) ∧
      KeepsMode s (State.runDriver n s) ∧ OnlyNotices s (State.runDriver n s) := by
  induction n generalizing s with
  | zero => simp [State.runDriver]
  | succ n ih =>
    unfold State.runDriver
    split
    · split
      · simp
      · dsimp only
        split <;> simp [ih]
    · simp

@[simp] theorem kickDriver_frame :
    s.kickDriver.ocu = s.ocu ∧ KeepsRfs s s.kickDriver ∧ (∀ e, s.kickDriver.profile e = s.profile e) ∧
      KeepsRst s s.kickDriver ∧ KeepsMode s s.kickDriver ∧ OnlyNotices s s.kickDriver := runDriver_frame s _

@[simp] theorem comparePresence_frame (d : Nat) :
    KeepsAtb s (s.comparePresence d) ∧ (s.comparePresence d).ocu = s.ocu ∧ KeepsRfs s (s.comparePresence d) ∧
      KeepsCoc s (s.comparePresence d) ∧ KeepsCtb s (s.comparePresence d) ∧ KeepsHob s (s.comparePresence d) ∧
      KeepsRst s (s.comparePresence d) ∧ KeepsMode s (s.comparePresence d) ∧ (s.comparePresence d).pins = s.pins ∧
      (s.comparePresence d).drc.queue = s.drc.queue ∧ (s.comparePresence d).drc.driver = s.drc.driver ∧
      (∀ e, (s.comparePresence d).drawer e =
        if d = e ∧ d < 64 then { s.drawer d with mismatch := !(s.drawer d).agrees } else s.drawer e) ∧
      OnlyNotices s (s.comparePresence d) := by
  unfold State.comparePresence
  dsimp only
  split
  · next h => simp [h, State.setDrawer_drawer]
  · next h => simp [h, State.setDrawer_drawer]

@[simp] theorem clearStock_frame (d : Nat) :
    KeepsAtb s (s.clearStock d) ∧ (s.clearStock d).ocu = s.ocu ∧ KeepsRfs s (s.clearStock d) ∧
      KeepsCoc s (s.clearStock d) ∧ KeepsCtb s (s.clearStock d) ∧ KeepsHob s (s.clearStock d) ∧
      KeepsMode s (s.clearStock d) ∧ (s.clearStock d).pins = s.pins ∧
      (s.clearStock d).drc.queue = s.drc.queue ∧ (s.clearStock d).drc.driver = s.drc.driver ∧
      OnlyNotices s (s.clearStock d) := by
  unfold State.clearStock
  dsimp only
  split <;> simp

@[simp] theorem reportLeftOpen_frame (d : Nat) :
    KeepsAtb s (s.reportLeftOpen d) ∧ (s.reportLeftOpen d).ocu = s.ocu ∧ KeepsRfs s (s.reportLeftOpen d) ∧
      KeepsCoc s (s.reportLeftOpen d) ∧ KeepsCtb s (s.reportLeftOpen d) ∧ KeepsHob s (s.reportLeftOpen d) ∧
      KeepsRst s (s.reportLeftOpen d) ∧ KeepsMode s (s.reportLeftOpen d) ∧ (s.reportLeftOpen d).pins = s.pins ∧
      (s.reportLeftOpen d).drc.queue = s.drc.queue ∧ (s.reportLeftOpen d).drc.driver = s.drc.driver ∧
      (∀ e, (s.reportLeftOpen d).drawer e =
        if d = e ∧ d < 64 then { s.drawer d with openReported := true } else s.drawer e) ∧
      OnlyNotices s (s.reportLeftOpen d) := by
  unfold State.reportLeftOpen
  simp [State.setDrawer_drawer]

end Sys2Proof.Machine
end

section
/-! PROOFS. The ports as a table of their own: a notice placed and a reply held act on the ports alone, so what an event
reports is read from the ports before it and the list of its notices. Every shared operation only places notices. -/

namespace Sys2Proof.Machine

open Sys2Proof

/-! ### Notices and replies on the ports alone -/

/-- The port interface with a notice placed (R197). -/
def PortState.place (x : PortState) (n : Notice) : PortState :=
  if x.notices.length < 16 then { x with notices := x.notices ++ [n] } else { x with overflow := true }

/-- The port interfaces with one of them changed. -/
def Ports.change (x : Ports) (p : Port) (f : PortState → PortState) : Ports :=
  match p with
  | .P => { x with p := f x.p }
  | .C => { x with c := f x.c }
  | .M => { x with m := f x.m }

/-- A notice placed at a port. -/
def Ports.place (x : Ports) (p : Port) (n : Notice) : Ports := x.change p fun y => y.place n

/-- Notices placed one after the other. -/
def Ports.placeAll (x : Ports) (l : List (Port × Notice)) : Ports := l.foldl (fun y n => y.place n.1 n.2) x

/-- A reply put in a port's buffer. -/
def Ports.reply (x : Ports) (p : Port) (r : Reply) : Ports :=
  x.change p fun y => { y with buf := .held r, draws := y.draws + 1 }

@[simp] theorem notify_ports_eq (s : State) (p : Port) (n : Notice) : (s.notify p n).ports = s.ports.place p n := by
  unfold State.notify
  split <;> next h =>
    cases p <;> simp_all [Ports.place, Ports.change, PortState.place, State.port, State.setPort]

@[simp] theorem replied_ports_eq (s : State) (p : Port) (r : Reply) : (s.replied p r).ports = s.ports.reply p r := by
  cases p <;> rfl

@[simp] theorem placeAll_nil (x : Ports) : x.placeAll [] = x := rfl

@[simp] theorem placeAll_cons (x : Ports) (n : Port × Notice) (l : List (Port × Notice)) :
    x.placeAll (n :: l) = (x.place n.1 n.2).placeAll l := rfl

@[simp] theorem placeAll_append (x : Ports) (l m : List (Port × Notice)) :
    x.placeAll (l ++ m) = (x.placeAll l).placeAll m := List.foldl_append

@[simp] theorem placed_nil (s : State) : s.placed [] = s := rfl

@[simp] theorem placed_cons (s : State) (n : Port × Notice) (l : List (Port × Notice)) :
    s.placed (n :: l) = (s.notify n.1 n.2).placed l := rfl

@[simp] theorem placed_ports_eq (s : State) (l : List (Port × Notice)) : (s.placed l).ports = s.ports.placeAll l := by
  induction l generalizing s with
  | nil => rfl
  | cons n l ih => simp [ih]

@[simp] theorem placed_frame (s : State) (l : List (Port × Notice)) :
    KeepsAtb s (s.placed l) ∧ (s.placed l).ocu = s.ocu ∧ KeepsRfs s (s.placed l) ∧ KeepsDrc s (s.placed l) ∧
      KeepsCoc s (s.placed l) ∧ KeepsCtb s (s.placed l) ∧ KeepsHob s (s.placed l) ∧ KeepsRst s (s.placed l) ∧
      KeepsMode s (s.placed l) ∧ (s.placed l).pins = s.pins ∧ OnlyNotices s (s.placed l) := by
  induction l generalizing s with
  | nil => simp
  | cons n l ih => simpa using ih (s.notify n.1 n.2)

/-! ### Operations that only place notices -/

/-- Of the ports an operation changes no more than what notices placed on them change. -/
def Places (s t : State) : Prop := ∃ l, t.ports = s.ports.placeAll l

variable {s t u : State}

theorem Places.of_eq (h : t.ports = s.ports) : Places s t := ⟨[], h⟩

theorem Places.trans (h : Places s t) (h' : Places t u) : Places s u := by
  obtain ⟨l, hl⟩ := h
  obtain ⟨m, hm⟩ := h'
  exact ⟨l ++ m, by rw [hm, hl, placeAll_append]⟩

/-- Notices placed before an operation that only places notices. -/
theorem Places.after (h : Places t u) (h' : t.ports = s.ports) : Places s u := (Places.of_eq h').trans h

/-- A notice placed keeps the bound of 16 notices a port (R197). -/
theorem noticeLaw_notify (h : NoticeLaw s) (p : Port) (n : Notice) : NoticeLaw (s.notify p n) :=
  fun q => notify_bound s p n q (h q)

theorem noticeLaw_of_ports (h : t.ports = s.ports) (hs : NoticeLaw s) : NoticeLaw t := fun q => by
  rw [(keepsPorts_of h).2]
  exact hs q

theorem noticeLaw_placed (h : NoticeLaw s) (l : List (Port × Notice)) : NoticeLaw (s.placed l) := by
  induction l generalizing s with
  | nil => exact h
  | cons n l ih => exact ih (noticeLaw_notify h n.1 n.2)

/-- What only places notices keeps the bound of 16 notices a port (R197). -/
theorem Places.noticeLaw (h : Places s t) (hs : NoticeLaw s) : NoticeLaw t := by
  obtain ⟨l, hl⟩ := h
  exact noticeLaw_of_ports (hl.trans (placed_ports_eq s l).symm) (noticeLaw_placed hs l)

variable (s)

theorem notify_places (p : Port) (n : Notice) : Places s (s.notify p n) := ⟨[(p, n)], by simp⟩

theorem applyStagedCurve_places : Places s s.applyStagedCurve := by
  unfold State.applyStagedCurve
  split
  · exact ⟨[(_, _)], by simp; rfl⟩
  · exact .of_eq rfl

theorem finishSession_places (d : SessionDone) : Places s (s.finishSession d) :=
  (notify_places s .P _).trans ((applyStagedCurve_places _).after rfl)

theorem expireLock_places (a : Nat) : Places s (s.expireLock a) := by
  unfold State.expireLock
  split
  · exact .of_eq rfl
  · next p _ =>
    have hexpired : Places s ((s.setAsm a (s.asm a).unlocked).notify p (.lockExpired a)) :=
      (notify_places _ _ _).after rfl
    dsimp only
    split
    · split
      · exact hexpired.trans ((finishSession_places _ _).after (by simp only [changeAsm_frame]))
      · exact hexpired
    · exact hexpired

theorem autoRequest_places (a c p : Nat) : Places s (s.autoRequest a c p) := by
  unfold State.autoRequest
  split
  · exact .of_eq rfl
  · split
    · split
      · exact ⟨[(_, _)], by simp; rfl⟩
      · exact ⟨[(_, _)], by simp; rfl⟩
    · exact .of_eq rfl

@[simp] theorem changePocket_ports (c p : Nat) (e : Pocket) :
    (s.changePocket c p e).ports = s.ports.place .M (.pocketChanged c p e) := by
  simp [State.changePocket]

@[simp] theorem finishOp_ports (d : Nat) (o : Operation) (x : OpOutcome) (y z : Option Bool) :
    (s.finishOp d o x y z).ports = s.ports.place .C
      (.opDone ⟨d, o, x, y, (s.asm o.asm).state, (s.asm o.asm).stockedMark, z⟩) := by
  simp [State.finishOp]

theorem finishOp_places (d : Nat) (o : Operation) (x : OpOutcome) (y z : Option Bool) :
    Places s (s.finishOp d o x y z) := ⟨[(_, _)], by simp; rfl⟩

@[simp] theorem undoIssue_ports (a c p : Nat) (link : Bool) :
    (s.undoIssue a c p link).ports = s.ports.place .M (.pocketChanged c p .empty) := by
  cases link <;> simp [State.undoIssue]

theorem rollback_places (d : Nat) (x : OpOutcome) : Places s (s.rollback d x) := by
  unfold State.rollback
  split
  · exact .of_eq rfl
  · dsimp only
    split
    · exact ⟨[(_, _), (_, _)], by simp; rfl⟩
    · exact finishOp_places _ _ _ _ _ _

theorem closeOp_places (d : Nat) (o : Operation) (b : Bool) : Places s (s.closeOp d o b) := by
  have hfin : ∀ t : State, Places s t → ∀ x y z, Places s (t.finishOp d o x y z) :=
    fun t h x y z => h.trans (finishOp_places t d o x y z)
  unfold State.closeOp
  split
  · unfold State.closeStock
    dsimp only
    split
    · split
      · exact hfin _ (.of_eq (by simp)) _ _ _
      · exact hfin _ ⟨[(_, _)], by simp; rfl⟩ _ _ _
    · exact hfin _ (.of_eq rfl) _ _ _
  · unfold State.closeWithdraw
    dsimp only
    split
    · exact hfin _ (.of_eq rfl) _ _ _
    · exact hfin _ (.of_eq (by simp)) _ _ _
  · unfold State.closeIssue
    dsimp only
    split
    · exact hfin _ ⟨[(_, _)], by simp; rfl⟩ _ _ _
    · split
      · exact hfin _ ⟨[(_, _), (_, _)], by simp; rfl⟩ _ _ _
      · exact hfin _ ⟨[(_, _)], by simp; rfl⟩ _ _ _
  · unfold State.closeReturn
    dsimp only
    split
    · split
      · split
        · split
          · exact hfin _ ⟨[(_, _), (_, _)], by simp; rfl⟩ _ _ _
          · exact hfin _ ⟨[(_, _)], by simp; rfl⟩ _ _ _
        · exact hfin _ ⟨[(_, _)], by simp; rfl⟩ _ _ _
      · exact hfin _ (.of_eq (by simp)) _ _ _
    · exact hfin _ (.of_eq rfl) _ _ _

theorem foldl_rollback_places (l : List Nat) (o : OpOutcome) :
    Places s (l.foldl (fun v x => State.rollback v x o) s) := by
  induction l generalizing s with
  | nil => exact .of_eq rfl
  | cons x l ih => exact (rollback_places s x o).trans (ih _)

theorem driverFault_places (d : Nat) : Places s (s.driverFault d) := by
  unfold State.driverFault
  exact .trans ⟨[(_, _)], by simp; rfl⟩ (foldl_rollback_places _ _ _)

theorem failedAttempt_places (d : Nat) : Places s (s.failedAttempt d) := by
  unfold State.failedAttempt
  dsimp only
  split
  · exact driverFault_places s d
  · split
    · exact .trans ⟨[(_, _)], by simp; rfl⟩ (rollback_places _ _ _)
    · split <;> exact .of_eq (by simp)

theorem overcurrentPulse_places (d : Nat) : Places s (s.overcurrentPulse d) :=
  (failedAttempt_places _ d).after (by simp)

theorem runDriver_places (n : Nat) : Places s (State.runDriver n s) := by
  induction n generalizing s with
  | zero => exact .of_eq rfl
  | succ n ih =>
    unfold State.runDriver
    split
    · split
      · exact .of_eq rfl
      · dsimp only
        split
        · exact ((overcurrentPulse_places _ _).after (by simp)).trans (ih _)
        · exact .of_eq (by simp)
    · exact .of_eq rfl

theorem kickDriver_places : Places s s.kickDriver := runDriver_places s _

theorem comparePresence_places (d : Nat) : Places s (s.comparePresence d) := by
  unfold State.comparePresence
  dsimp only
  split
  · exact .of_eq rfl
  · exact ⟨[(_, _)], by simp; rfl⟩

/-- The comparison of R86 with its dirtying, behind what leaves the ports. -/
theorem comparePresence_commit_places {s t : State} (h : t.ports = s.ports) (d : Nat) (r : Drawer) :
    Places s ((t.comparePresence d).commitDrawer d r) :=
  ((comparePresence_places t d).after h).trans (.of_eq (by simp))

theorem clearStock_places (d : Nat) : Places s (s.clearStock d) := by
  unfold State.clearStock
  dsimp only
  split
  · exact comparePresence_commit_places (by simp) d _
  · exact .of_eq (by simp)

@[simp] theorem reportLeftOpen_ports (d : Nat) :
    (s.reportLeftOpen d).ports = s.ports.place .C (.drawerLeftOpen d (s.op d).isSome) := by
  simp [State.reportLeftOpen]

theorem reportLeftOpen_places (d : Nat) : Places s (s.reportLeftOpen d) := ⟨[(_, _)], by simp; rfl⟩

theorem openEvent_places (d : Nat) : Places s (s.openEvent d) := by
  unfold State.openEvent
  dsimp only
  split
  · exact ⟨[(_, _)], by simp; rfl⟩
  · exact ⟨[(_, _)], by simp; rfl⟩
  · exact ⟨[(_, _)], by simp; rfl⟩
  · exact ⟨[(_, _)], by simp; rfl⟩
  · exact ⟨[(_, _)], by simp; rfl⟩
  · exact .trans ⟨[(_, _)], by simp; rfl⟩ (kickDriver_places _)
  · exact .of_eq rfl

theorem closeEvent_places (d : Nat) : Places s (s.closeEvent d) := by
  unfold State.closeEvent
  dsimp only
  split
  · exact (closeOp_places _ _ _ _).after (by simp)
  · exact comparePresence_commit_places (by simp) d _

/-- Operations that only place notices, one after the other for a list, only place notices. -/
theorem foldl_places {f : State → Nat → State} (hf : ∀ s n, Places s (f s n)) (l : List Nat) :
    Places s (l.foldl f s) := by
  induction l generalizing s with
  | nil => exact .of_eq rfl
  | cons x l ih => exact (hf s x).trans (ih _)

end Sys2Proof.Machine
end

section
/-! PROOFS. The dispatch said once for all requests and once for all events: a request command is served by its block's
handler, and every other command is an event of the part. What every handler leaves of the ports and the phase, and how a law
of the part that no reply and no idle timer touches is kept by a step. -/

namespace Sys2Proof.Machine

open Sys2Proof

variable {s : State}

/-! ### Handlers and events -/

/-- What the owning block does with a request; a command that is no request has no block. -/
def handler : Instr → State → State × Answer
  | .measureOpen a => measureOpen a
  | .reading z x => addReading z x
  | .sessionClose t => closeSession t
  | .sessionAbandon => abandonSession
  | .zeroOpen k => zeroOpen k
  | .spanOpen k lm dm => spanOpen k lm dm
  | .selectReference k => selectReference k
  | .certifyReference k => certifyReference k
  | .unlockReference k => unlockReference k
  | .writeCurve l => writeCurve l
  | .readReference k => readReference k
  | .readCurve => fun t => (t, accept (.curve t.rfs.curve t.rfs.staged t.rfs.active))
  | .register a f nl nr m l w => registerAsm a f nl nr m l w
  | .retire a => retireAsm a
  | .returnFromRegrind a => returnFromRegrind a
  | .stock a d => stockAsm a d
  | .withdraw a => withdrawAsm a
  | .issue a c p => issueAsm a c p
  | .issuePick c p => issuePick c p
  | .returnTool a d k => returnAsm a d k
  | .cancelDrawer d => cancelDrawer d
  | .clearJam d => clearJam d
  | .clearDriver => clearDriver
  | .setLife a m l w => setLife a m l w
  | .writeCell c n u f o dt lf au => writeCell c n u f o dt lf au
  | .readDrawer d => readDrawer d
  | .readPicks => fun t => (t, accept (.picks (t.picks.map fun k => (k, t.linkedIssue k))))
  | .restart => restart
  | .lock p a => lockRecord p a
  | .unlock p a => unlockRecord p a
  | .readRecord _ a => readRecord a
  | .handoff c st n => handoff c st n
  | .usage c p sec n => usage c p sec n
  | .requestTool c p f => requestTool c p f
  | .withdrawRequest c p => withdrawRequest c p
  | .readCell c => readCell c
  | .readNotice p => readNotice p
  | .status p => fun t => (t, accept (statusBody p t))
  | .setParameter p n v => setParameter p n v
  | _ => fun t => (t, refuse .badArgument)

/-- Every request command is served at its port by its block's handler (R193). -/
theorem exec_request {i : Instr} {p : Port} (h : requestPort i = some p) (s : State) :
    exec i s = .next (s.serve p i (handler i)) := by
  cases i <;> cases h <;> rfl

/-- What a command that is no request does: the transactions of the ports, the events of the crib hardware and the internal
events. -/
def event (s : State) : Instr → State
  | .requestFrameEnd p l m => s.transact p l.length (s.endFrame p l m)
  | .replyRead p n => s.transact p n (s.readReply p n)
  | .openSeen d => s.seeOpen d
  | .closeSeen d => s.seeClose d
  | .presenceLevelChange d b => s.seePresence d b
  | .pulseWidthElapsed => if s.phase.active && s.pulseDue then s.elapsePulse else s
  | .overcurrent => s.assertSense
  | .waitExpiry d => if s.phase.active && s.waitDue d then s.expireWait d else s
  | .openTimeExpiry d => if s.phase.active && s.openDue d then s.reportLeftOpen d else s
  | .lockExpiry a => if s.phase.active && s.lockDue a then s.expireLock a else s
  | .discardExpiry i => if s.phase.active && s.discardDue i then s.freeSlot i else s
  | .entryFormation => if s.phase.active then s.formNext else s
  | .slotBuildCompletion => if s.phase.active then s.completeSlot else s
  | .readAheadBuildCompletion => if s.phase.active then s.completeReadAhead else s
  | .commitCompletion => if s.phase.active then s.completeCommit else s
  | .powerOn => s.powerOn
  | .powerLoss o => s.powerLoss o
  | .resetInputAsserted o => s.assertReset o
  | .resetInputReleased => s.releaseReset
  | .loadEnd => s.finishLoad
  | .mntInputChange b => s.setPins { s.pins with mnt := b }
  | .overcurrentSenseReleased => s.setPins { s.pins with sense := .low }
  | _ => s

/-- Every command that is no request is an event. -/
theorem exec_event {i : Instr} (h : requestPort i = none) (s : State) : exec i s = .next (event s i) := by
  cases i <;> first | rfl | cases h

/-! ### Laws that a step keeps -/

/-- A guarded event keeps what it keeps where the guard holds. -/
theorem keeps_ite {L : State → Prop} {c : Prop} [Decidable c] {s t : State} (hs : L s) (ht : c → L t) :
    L (if c then t else s) := by
  split
  · exact ht ‹_›
  · exact hs

/-- A law is kept by every step when it does not speak of the waiting commands and is kept by a millisecond, by every request
as it is served and by every event. -/
theorem step_keeps {L : State → Prop} (hpending : ∀ s q, L s → L { s with pending := q }) (htick : ∀ s, L s → L s.tick)
    (hrequest : ∀ s p i, requestPort i = some p → L s → L (s.serve p i (handler i)))
    (hevent : ∀ s i, requestPort i = none → L s → L (event s i)) {s t : State} (h : step s = .next t) (hs : L s) : L t := by
  unfold step at h
  split at h
  · cases h
    exact htick s hs
  · next i q _ =>
    have hs' := hpending s q hs
    cases hi : requestPort i with
    | some p =>
      rw [exec_request hi] at h
      cases h
      exact hrequest _ p i hi hs'
    | none =>
      rw [exec_event hi] at h
      cases h
      exact hevent _ i hi hs'

/-- A law that answers and idle timers do not touch is kept by a served request when its handler keeps it in normal
operation. -/
theorem serve_keeps {L : State → Prop} {p : Port} {i : Instr} {f : State → State × Answer}
    (hanswer : ∀ s tag a, L s → L (s.answer p tag a)) (htouch : ∀ s, L s → L (s.touchNamed p i))
    (hf : ∀ s, s.phase = .running → L s → L (f s).1) (hs : L s) : L (s.serve p i f) := by
  unfold State.serve
  split
  · next hphase =>
    have htake : ∀ tag, L (s.take p i tag f) := fun tag =>
      hanswer _ _ _ (hf _ (by simpa using hphase) (htouch s hs))
    split
    · split
      · exact htake _
      · exact hs
    · split
      · exact htake _
      · exact hanswer _ _ _ hs
  · exact hanswer _ _ _ hs
  · exact hanswer _ _ _ hs
  · exact hs
  · exact hs

end Sys2Proof.Machine
end

section
/-! PROOFS. The step and the state after reset: the front command runs, every run is safe, and the state after reset reads
as the beginning of a load of blank pages, which meets every law of the part. -/

namespace Sys2Proof.Machine

open Sys2Proof

/-! ### The state after reset -/

@[simp] theorem reset_asm (a : Nat) : State.reset.asm a = blankRecord .vacant := by
  simp [State.reset, State.asm, tget_tgen]

theorem reset_drawer (d : Nat) : State.reset.drawer d = if d < 64 then restDrawer false false else State.noDrawer :=
  tget_tgen _ _ _

@[simp] theorem reset_op (d : Nat) : State.reset.op d = none := by
  simp [State.reset, State.op, tget_tgen]

@[simp] theorem reset_cell (c : Nat) : State.reset.cell c = ⟨defaultProfile, tgen 128 fun _ => .empty⟩ := by
  simp [State.reset, State.cell, tget_tgen]

@[simp] theorem reset_pocket (c p : Nat) : State.reset.pocket c p = .empty := by
  simp [State.pocket, tget_tgen]

@[simp] theorem reset_refSet (k : Nat) : State.reset.refSet k = .blank := by
  simp [State.reset, State.refSet, tget_tgen]

@[simp] theorem reset_slot (n : Nat) : State.reset.slot n = .free := by
  simp [State.reset, State.slot, tget_tgen]

@[simp] theorem reset_buffer (c : Nat) : State.reset.buffer c = .empty := by
  simp [State.reset, State.buffer, tget_tgen]

@[simp] theorem reset_page (k : Nat) : State.reset.page k = .blank := by
  simp [State.reset, State.page, tget_tgen]

@[simp] theorem reset_port (p : Port) : State.reset.port p = idlePort := by
  cases p <;> rfl

/-- A drawer outside the release set is not QUEUED and not PULSING. -/
theorem reset_drawer_state (d : Nat) : (State.reset.drawer d).state ≠ .queued ∧ (State.reset.drawer d).state ≠ .pulsing := by
  rw [reset_drawer]
  split <;> decide

theorem reset_releaseCount : State.reset.releaseCount = 0 := by
  have hrest : ∀ r ∈ State.reset.drc.drawers.toList, r = restDrawer false false := by
    intro r hr
    obtain ⟨_, _, rfl⟩ := List.mem_map.mp hr
    rfl
  refine List.length_eq_zero_iff.mpr (List.filter_eq_nil_iff.mpr fun r hr => ?_)
  rw [hrest r hr]
  decide

theorem reset_releaseLaw : ReleaseLaw State.reset := by
  refine ⟨List.nodup_nil, fun d => ?_, fun d => ?_, fun h => ?_, fun _ _ => rfl, ?_, fun _ _ => ⟨rfl, rfl⟩, fun h => ?_⟩
  · simp [reset_drawer_state, show State.reset.drc.queue = [] from rfl]
  · simp [reset_drawer_state, show State.reset.drc.driver.pulsing = none from rfl]
  · cases h
  · simp [reset_releaseCount]
  · cases h

/-- Every run of every length is safe, for every step answers a next state. -/
theorem safe_all (k : Nat) (s : State) : Safe k s := by
  induction k generalizing s with
  | zero => trivial
  | succ k ih =>
    obtain ⟨t, ht⟩ := step_next s
    exact ⟨t, ht, ih t⟩

/-! ### The statements -/

/-- Settles O1, by the definition of a step. -/
theorem stepRunsTheFrontCommand : Obligations.StepRunsTheFrontCommand := by
  unfold Obligations.StepRunsTheFrontCommand
  intro i q s h
  unfold step
  rw [h]

/-- Settles O3, reading each table of the state after reset. -/
theorem resetIsTheBeginningOfALoad : Obligations.ResetIsTheBeginningOfALoad := by
  unfold Obligations.ResetIsTheBeginningOfALoad
  refine ⟨rfl, rfl, rfl, fun a _ => reset_asm a, fun d hd => ⟨?_, reset_op d⟩, rfl, rfl, fun c p => ⟨?_, reset_pocket c p⟩,
    rfl, reset_refSet, rfl, rfl, fun i hi => ?_, reset_slot, reset_buffer, rfl, rfl, rfl, rfl, rfl, reset_page, rfl,
    reset_port⟩
  · rw [reset_drawer, if_pos hd]
  · rw [State.profile, reset_cell]
  · exact (tget_tgen _ _ _).trans (if_pos hi)

/-- Settles O60: every command answers a next state, and the state after reset has empty lists, no session, no operation and
blank records. -/
theorem everyStepAnswersAndResetMeetsTheLaws : Obligations.EveryStepAnswersAndResetMeetsTheLaws := by
  unfold Obligations.EveryStepAnswersAndResetMeetsTheLaws
  refine ⟨step_next, safe_all, fun p => ?_, ⟨rfl, rfl, fun _ => rfl⟩, fun x h => ?_, ⟨?_, List.nodup_nil⟩, ?_, ?_, ?_,
    fun h => ?_, reset_releaseLaw, ⟨?_, fun a h => ?_⟩, ?_⟩
  · simp [idlePort]
  · cases h
  · exact Nat.zero_le _
  · refine ⟨List.nodup_nil, fun _ => rfl, fun c h => ?_, fun _ _ => ⟨rfl, rfl⟩⟩
    cases h
  · refine ⟨fun a => ?_, fun k j r x h => ?_, fun c r h => ?_⟩
    · rw [reset_asm]; exact Nat.zero_le _
    · rw [reset_page] at h; cases h
    · cases h
  · refine ⟨fun i j x h => ?_, fun c x h => ?_⟩
    · rw [reset_slot] at h; cases h
    · rw [reset_buffer] at h; cases h
  · cases h
  · intro a k l h
    cases h
  · rw [reset_asm] at h; cases h
  · simp [OperationLaw]

end Sys2Proof.Machine
end

section
/-! PROOFS. Every request at its block is a chain of checks and an effect: the first check that fails refuses it and leaves the
state, and a request that passes them all does what its rule says. Each request's chain and effect is said once here. -/

namespace Sys2Proof.Machine

open Sys2Proof

/-- What a block does with a request: the first check that fails refuses it, and one that passes them all is accepted. -/
def Checked (s : State) (l : List (Bool × Status)) (x : State × Answer) (accepted : Prop) : Prop :=
  (∀ st, firstOf l = some st → x = (s, refuse st)) ∧ (firstOf l = none → accepted)

variable {s : State} {l : List (Bool × Status)} {x : State × Answer} {P : Prop}

theorem firstOf_cons (b : Bool) (st : Status) (l : List (Bool × Status)) :
    firstOf ((b, st) :: l) = if b then some st else firstOf l := by
  cases b <;> rfl

/-- No check fails when each test is clear. -/
theorem firstOf_eq_none {l : List (Bool × Status)} : firstOf l = none ↔ ∀ x ∈ l, x.1 = false := by
  simp [firstOf]

@[simp] theorem firstOf_nil : firstOf [] = none := rfl

theorem checked_nil (h : P) : Checked s [] x P := ⟨fun _ hl => (nomatch hl), fun _ => h⟩

theorem checked_cons {b : Bool} {st : Status} (hfail : b = true → x = (s, refuse st)) (hpass : b = false → Checked s l x P) :
    Checked s ((b, st) :: l) x P := by
  cases b
  · exact hpass rfl
  · exact ⟨fun st' h => by cases h; exact hfail rfl, fun h => nomatch h⟩

/-- A request is refused or accepted. -/
theorem Checked.cases (h : Checked s l x P) : (∃ st, x = (s, refuse st)) ∨ P := by
  cases hl : firstOf l with
  | some st => exact .inl ⟨st, h.1 st hl⟩
  | none => exact .inr (h.2 hl)

theorem Checked.imp {Q : Prop} (h : Checked s l x P) (hpq : P → Q) : Checked s l x Q := ⟨h.1, fun hl => hpq (h.2 hl)⟩

variable (s)

/-! ### The presetter (Sections 2 and 3) -/

/-- MEASURE_OPEN (R27, R28). -/
theorem measureOpen_checked (a : Nat) : Checked s
    [(decide (511 < a), .badArgument), (decide ((s.asm a).holder = some .C), .locked), (s.ocu.isSome, .busy),
      (decide ¬((s.asm a).state = .unmeasured ∨ (s.asm a).state = .quarantined ∨
        (s.asm a).state = .ready ∧ (s.asm a).stock = none), .wrongState), (s.rfs.active.isNone, .wrongState)]
    (measureOpen a s)
    (a < 512 ∧ (s.asm a).holder ≠ some .C ∧ s.ocu = none ∧ ∃ pr k, (s.asm a).measurable = some pr ∧ s.rfs.active = some k ∧
      measureOpen a s = ((s.setSession (some ⟨.measure a k, []⟩)).changeAsm a ((s.asm a).opened pr),
        accept (.measureOpened a pr k))) := by
  have hmeasurable : (s.asm a).measurable = none ↔ ¬((s.asm a).state = .unmeasured ∨ (s.asm a).state = .quarantined ∨
      (s.asm a).state = .ready ∧ (s.asm a).stock = none) := by
    unfold AsmRecord.measurable
    split <;> simp_all
  unfold measureOpen
  dsimp only
  repeat' split
  all_goals grind [Checked, firstOf_cons, firstOf_nil, Option.isSome_iff_ne_none]

/-- READING (R30). -/
theorem addReading_checked (z x : Nat) : Checked s
    [(s.ocu.isNone, .wrongState), (decide (1048575 < z ∨ 1048575 < x), .badArgument),
      (s.ocu.any fun n => decide (8 ≤ n.readings.length), .full)]
    (addReading z x s)
    (∃ n, s.ocu = some n ∧ z ≤ saturated ∧ x ≤ saturated ∧ n.readings.length < 8 ∧
      addReading z x s = (s.setSession (some { n with readings := n.readings ++ [(z, x)] }),
        accept (.readingCount (n.readings.length + 1)))) := by
  unfold addReading
  repeat' split
  all_goals grind [Checked, firstOf_cons, firstOf_nil, saturated]

/-- SESSION_CLOSE (R32). -/
theorem closeSession_checked (n : Int) : Checked s
    [(s.ocu.isNone, .wrongState), (decide (n < 0 ∨ 600 < n), .badArgument)] (closeSession n s)
    (∃ x, s.ocu = some x ∧ 0 ≤ n ∧ n ≤ 600 ∧ closeSession n s = match x.kind with
      | .measure a k => closeMeasure s x a k n.toNat
      | .zero k => closeZero s x k
      | .span k lm dm => closeSpan s x k lm dm) := by
  unfold closeSession
  split
  · grind [Checked, firstOf_cons, firstOf_nil]
  · split
    · grind [Checked, firstOf_cons, firstOf_nil]
    · grind [Checked, firstOf_cons, firstOf_nil]

/-- SESSION_ABANDON (R34). -/
theorem abandonSession_checked : Checked s [(s.ocu.isNone, .wrongState)] (abandonSession s)
    (∃ x, s.ocu = some x ∧ abandonSession s =
      (((s.returnSubject x).releaseSubject x).finishSession (endedWithout x .abandoned), accept .empty)) := by
  unfold abandonSession
  split
  all_goals grind [Checked, firstOf_cons, firstOf_nil]

/-- ZERO_OPEN (R52). -/
theorem zeroOpen_checked (k : Nat) : Checked s
    [(decide (3 < k), .badArgument), (s.ocu.isSome, .busy), ((s.refSet k).certified, .certified)] (zeroOpen k s)
    (k < 4 ∧ s.ocu = none ∧ (s.refSet k).certified = false ∧
      zeroOpen k s = (s.setSession (some ⟨.zero k, []⟩), accept (.zeroOpened k (s.refSet k)))) := by
  unfold zeroOpen
  repeat' split
  all_goals grind [Checked, firstOf_cons, firstOf_nil, Option.isSome_iff_ne_none]

/-- SPAN_OPEN (R55). -/
theorem spanOpen_checked (k lm dm : Nat) : Checked s
    [(decide (3 < k), .badArgument), (decide ¬(50000 ≤ lm ∧ lm ≤ 400000 ∧ 1000 ≤ dm ∧ dm ≤ 100000), .badArgument),
      (s.ocu.isSome, .busy), ((s.refSet k).certified, .certified),
      (decide (s.refSet k = .blank ∨ s.refSet k = .invalid), .wrongState)]
    (spanOpen k lm dm s)
    (k < 4 ∧ s.ocu = none ∧ (s.refSet k).certified = false ∧ spanOpen k lm dm s =
      (s.setSession (some ⟨.span k lm dm, []⟩), accept (.spanOpened k (s.refSet k) lm dm))) := by
  have hunset : ∀ r : RefSet, r.unset = decide (r = .blank ∨ r = .invalid) := by
    intro r
    cases r <;> rfl
  have hrange : ¬(50000 ≤ lm ∧ lm ≤ 400000 ∧ 1000 ≤ dm ∧ dm ≤ 100000) ↔ lm < 50000 ∨ 400000 < lm ∨ dm < 1000 ∨ 100000 < dm := by
    omega
  unfold spanOpen
  simp only [hrange, hunset]
  repeat' split
  all_goals grind [Checked, firstOf_cons, firstOf_nil, Option.isSome_iff_ne_none]

/-- SELECT_REFERENCE (R61). -/
theorem selectReference_checked (k : Nat) : Checked s
    [(decide (3 < k), .badArgument), (s.ocu.isSome, .busy), (!(s.refSet k).certified, .wrongState)]
    (selectReference k s)
    (k < 4 ∧ s.ocu = none ∧ (s.refSet k).certified = true ∧ selectReference k s =
      (if s.rfs.active = some k then s else (s.setActive (some k)).dirty curveKey, accept (.activeSet k))) := by
  unfold selectReference
  repeat' split
  all_goals grind [Checked, firstOf_cons, firstOf_nil, Option.isSome_iff_ne_none]

/-- CERTIFY_REFERENCE (R59). -/
theorem certifyReference_checked (k : Nat) : Checked s
    [(decide (3 < k), .badArgument), (s.ocu.any fun y => decide (y.kind.calibrates = some k), .busy),
      (!(s.refSet k).isSpanned, .wrongState), ((s.refSet k).certified, .certified)]
    (certifyReference k s)
    (k < 4 ∧ (s.refSet k).isSpanned = true ∧ (s.refSet k).certified = false ∧ certifyReference k s =
      ((s.setRefSet k ((s.refSet k).withCertified true)).dirty (refKey k), accept .empty)) := by
  have hcal : (s.ocu.any fun y => decide (y.kind.calibrates = some k)) = s.calibrating k := by
    unfold State.calibrating
    cases s.ocu <;> rfl
  rw [hcal]
  unfold certifyReference
  repeat' split
  all_goals grind [Checked, firstOf_cons, firstOf_nil]

/-- UNLOCK_REFERENCE (R60). -/
theorem unlockReference_checked (k : Nat) : Checked s
    [(decide (3 < k), .badArgument), (!(s.refSet k).certified, .wrongState), (!s.pins.mnt, .wrongState),
      (decide (s.rfs.active = some k), .wrongState)]
    (unlockReference k s)
    (k < 4 ∧ (s.refSet k).certified = true ∧ s.rfs.active ≠ some k ∧ unlockReference k s =
      ((s.setRefSet k ((s.refSet k).withCertified false)).dirty (refKey k), accept .empty)) := by
  unfold unlockReference
  repeat' split
  all_goals grind [Checked, firstOf_cons, firstOf_nil]

/-- WRITE_CURVE (R62). -/
theorem writeCurve_checked (l : List Int) : Checked s [(decide (l.length ≠ 9), .frameError)] (writeCurve l s)
    (l.length = 9 ∧ ∃ c b, c = clampedCurve l ∧ writeCurve l s =
      (if s.ocu.isSome then s.setStagedCurve (some c) else if c = s.rfs.curve then s else (s.setCurve c).dirty curveKey,
        acceptClamped (decide (c.toList ≠ l)) (.curveWritten b))) := by
  unfold writeCurve
  dsimp only
  repeat' split
  all_goals grind [Checked, firstOf_cons, firstOf_nil]

/-- READ_REFERENCE (R64). -/
theorem readReference_checked (k : Nat) : Checked s [(decide (3 < k), .badArgument)] (readReference k s)
    (readReference k s = (s, accept (.reference k (s.refSet k) (decide (s.rfs.active = some k))))) := by
  unfold readReference
  split
  all_goals grind [Checked, firstOf_cons, firstOf_nil]

/-! ### Records (Sections 1, 5.3 and 7) -/

/-- REGISTER (R96). -/
theorem registerAsm_checked (a : Nat) (fam : Option Nat) (nl nr : Option (Nat × Nat)) (mode limit warn : Nat) : Checked s
    [(decide (511 < a), .badArgument), (decide ((s.asm a).holder = some .P), .locked),
      (fam.any (fun x => decide (x < 1 ∨ 255 < x)) || nl.any (fun x => decide (4000000 < x.1 ∨ 4000000 < x.2)) ||
        nr.any (fun x => decide (500000 < x.1 ∨ 500000 < x.2)) || (lifeModeOf mode).isNone, .badArgument),
      (decide ¬((s.asm a).state = .vacant ∨ (s.asm a).state = .lost), .wrongState)]
    (registerAsm a fam nl nr mode limit warn s)
    (a < 512 ∧ ((s.asm a).state = .vacant ∨ (s.asm a).state = .lost) ∧ ∃ m, lifeModeOf mode = some m ∧
      registerAsm a fam nl nr mode limit warn s =
        ((s.changeAsm a ((s.asm a).registered fam nl nr m (lifeLimitOf limit) (warnOf warn))).dirty a,
          acceptClamped (decide (lifeLimitOf limit ≠ limit) || decide (warnOf warn ≠ warn)) (.assembly a))) := by
  have hfam : familyValid fam = !fam.any fun x => decide (x < 1 ∨ 255 < x) := by
    cases fam with
    | none => rfl
    | some v =>
      rw [Bool.eq_iff_iff]
      simp [familyValid]
      omega
  have hpair : ∀ m (y : Option (Nat × Nat)), pairWithin m y = !y.any fun x => decide (m < x.1 ∨ m < x.2) := by
    intro m y
    cases y <;> simp [pairWithin, ← decide_not]
  unfold registerAsm
  simp only [hfam, hpair]
  repeat' split
  all_goals grind [Checked, firstOf_cons, firstOf_nil]

/-- RETIRE (R97). -/
theorem retireAsm_checked (a : Nat) : Checked s
    [(decide (511 < a), .badArgument), (decide ((s.asm a).holder = some .P), .locked), (s.inOperation a, .busy),
      (decide ¬(((s.asm a).state = .unmeasured ∨ (s.asm a).state = .quarantined ∨ (s.asm a).state = .ready ∨
        (s.asm a).state = .regrind ∨ (s.asm a).state = .lost) ∧
          ((s.asm a).stock.all fun d => (s.drawer d).mismatch) = true), .wrongState)]
    (retireAsm a s)
    (a < 512 ∧ s.inOperation a = false ∧ (s.asm a).state ≠ .measuring ∧ retireAsm a s =
      (match (s.asm a).stock with
        | none => (s.changeAsm a (s.asm a).retired).dirty a
        | some d => ((s.changeAsm a (s.asm a).retired).dirty a).clearStock d, accept .empty)) := by
  have hretirable : s.retirable (s.asm a) = decide (((s.asm a).state = .unmeasured ∨ (s.asm a).state = .quarantined ∨
      (s.asm a).state = .ready ∨ (s.asm a).state = .regrind ∨ (s.asm a).state = .lost) ∧
        ((s.asm a).stock.all fun d => (s.drawer d).mismatch) = true) := by
    unfold State.retirable
    cases (s.asm a).state <;> simp
  unfold retireAsm
  simp only [hretirable]
  repeat' split
  all_goals grind [Checked, firstOf_cons, firstOf_nil]

/-- RETURN_FROM_REGRIND (R98). -/
theorem returnFromRegrind_checked (a : Nat) : Checked s
    [(decide (511 < a), .badArgument), (decide ((s.asm a).holder = some .P), .locked), (s.inOperation a, .busy),
      (decide ¬((s.asm a).state = .regrind ∧ (s.asm a).stock = none), .wrongState)]
    (returnFromRegrind a s)
    (a < 512 ∧ s.inOperation a = false ∧ (s.asm a).state = .regrind ∧ (s.asm a).stock = none ∧ returnFromRegrind a s =
      ((s.changeAsm a (s.asm a).reground).dirty a, accept .empty)) := by
  unfold returnFromRegrind
  dsimp only
  repeat' split
  all_goals grind [Checked, firstOf_cons, firstOf_nil]

/-- SET_LIFE (R144 to R146). -/
theorem setLife_checked (a mode limit warn : Nat) : Checked s
    [(decide (511 < a), .badArgument), ((lifeModeOf mode).isNone, .badArgument),
      (decide ((s.asm a).state = .vacant), .wrongState),
      (decide (((s.asm a).state = .issuing ∨ (s.asm a).state = .issued ∨ (s.asm a).state = .exhausted) ∧
        lifeModeOf mode ≠ some (s.asm a).mode), .wrongState)]
    (setLife a mode limit warn s)
    (a < 512 ∧ ∃ m r b, lifeModeOf mode = some m ∧
      r = (if (s.asm a).state.stagesLife then { s.asm a with staged := some (lifeLimitOf limit, warnOf warn) }
        else (s.asm a).withLife m (lifeLimitOf limit) (warnOf warn)) ∧
      b = (if (s.asm a).state.stagesLife then .lifeStaged (lifeLimitOf limit) (warnOf warn) r.lifeFields
        else .lifeApplied r.lifeFields r.remaining) ∧
      setLife a mode limit warn s = ((s.changeAsm a r).commitChange a (s.asm a),
        acceptClamped (decide (lifeLimitOf limit ≠ limit) || decide (warnOf warn ≠ warn)) b)) := by
  have hstages : (s.asm a).state.stagesLife = decide ((s.asm a).state = .issuing ∨ (s.asm a).state = .issued ∨
      (s.asm a).state = .exhausted) := by
    cases (s.asm a).state <;> rfl
  unfold setLife
  simp only [hstages]
  repeat' split
  all_goals grind [Checked, firstOf_cons, firstOf_nil]

/-- READ_RECORD (R18). -/
theorem readRecord_checked (a : Nat) : Checked s [(decide (511 < a), .badArgument)] (readRecord a s)
    (readRecord a s = (s, accept (.record a (s.asm a).reported))) := by
  unfold readRecord
  split
  all_goals grind [Checked, firstOf_cons, firstOf_nil]

/-- USAGE (R136, R137). -/
theorem usage_checked (c p sec n : Nat) : Checked s
    [(decide (15 < c ∨ 127 < p), .badArgument), (decide ((s.profile c).size = 0), .wrongState),
      (decide ((s.profile c).size ≤ p), .badArgument), ((s.boundAsm c p).isNone, .notFound)]
    (usage c p sec n s)
    (c < 16 ∧ p < 128 ∧ p < (s.profile c).size ∧ ∃ a t, s.boundAsm c p = some a ∧
      t = (if (s.asm a).mode = .none then s else s.reportUse a c p
        (usageAmount (s.asm a).mode (min sec 3600) (min n 1000) * (s.profile c).factor)) ∧
      usage c p sec n s = (t, acceptClamped (decide (3600 < sec) || decide (1000 < n)) (usageBody a (s.asm a) (t.asm a)))) := by
  unfold usage
  dsimp only
  repeat' split
  all_goals grind [Checked, firstOf_cons, firstOf_nil]

/-! ### Drawers and operations (Sections 4 and 5) -/

/-- The release checks of R73. -/
theorem releaseRefusal_eq (d : Nat) : s.releaseRefusal d = firstOf (releaseChecks s d) := by
  unfold State.releaseRefusal releaseChecks
  simp only [firstOf_cons, firstOf_nil, decide_eq_true_eq]

/-- The checks of STOCK and RETURN on an empty drawer (R99, R108). -/
theorem emptyDrawerRefusal_eq (d : Nat) : s.emptyDrawerRefusal d =
    firstOf (((s.drawer d).stock.isSome, .wrongState) :: ((s.drawer d).mismatch, .wrongState) :: releaseChecks s d) := by
  unfold State.emptyDrawerRefusal
  simp only [firstOf_cons, releaseRefusal_eq]

/-- The last checks of a request that one function says. -/
theorem checked_of_firstOf {s : State} {l : List (Bool × Status)} {x : State × Answer} {P : Prop}
    (hfail : ∀ st, firstOf l = some st → x = (s, refuse st)) (hpass : firstOf l = none → P) : Checked s l x P :=
  ⟨hfail, hpass⟩

/-- An operation accepted: its record stands before the drawer is queued (R92). -/
def State.takeOperation (s : State) (d : Nat) (o : Operation) : State × Answer := (s.setOp d (some o)).acceptOperation d o

/-- The checks that let a drawer be released: CLOSED, the driver OK, at most 7 in the release set (R73). -/
theorem releaseChecks_none {s : State} {d : Nat} : firstOf (releaseChecks s d) = none ↔
    (s.drawer d).state = .closed ∧ s.drc.driver.fault = false ∧ s.releaseCount < 8 := by
  unfold releaseChecks
  simp only [firstOf_cons, firstOf_nil]
  grind

/-- STOCK (R99). -/
theorem stockAsm_checked (a d : Nat) : Checked s
    ((decide (511 < a), .badArgument) :: (decide ((s.asm a).holder = some .P), .locked) ::
      (decide (63 < d), .badArgument) :: (s.inOperation a, .busy) :: ((s.op d).isSome, .busy) ::
      (decide ¬((s.asm a).state = .ready ∧ (s.asm a).stock = none), .wrongState) ::
      ((s.drawer d).stock.isSome, .wrongState) :: ((s.drawer d).mismatch, .wrongState) :: releaseChecks s d)
    (stockAsm a d s)
    (a < 512 ∧ d < 64 ∧ s.inOperation a = false ∧ s.op d = none ∧ (s.drawer d).state = .closed ∧
      s.drc.driver.fault = false ∧ s.releaseCount < 8 ∧ (s.asm a).state = .ready ∧
      stockAsm a d s = s.takeOperation d ⟨.stock, a, none⟩) := by
  unfold stockAsm AsmRecord.readyUnstocked
  simp only [emptyDrawerRefusal_eq, State.takeOperation]
  repeat' split
  all_goals grind [Checked, firstOf_cons, firstOf_nil, Option.isSome_iff_ne_none, releaseChecks_none, Option.isNone_iff_eq_none]

/-- WITHDRAW (R101). -/
theorem withdrawAsm_checked (a d : Nat) (hd : ∀ e, (s.asm a).stock = some e → e = d) : Checked s
    ((decide (511 < a), .badArgument) :: (decide ((s.asm a).holder = some .P), .locked) :: (s.inOperation a, .busy) ::
      (decide ¬(((s.asm a).state = .ready ∨ (s.asm a).state = .regrind) ∧ (s.asm a).stock ≠ none), .wrongState) ::
      ((s.drawer d).mismatch, .wrongState) :: releaseChecks s d)
    (withdrawAsm a s)
    (a < 512 ∧ s.inOperation a = false ∧ (s.asm a).stock = some d ∧ (s.drawer d).state = .closed ∧
      s.drc.driver.fault = false ∧ s.releaseCount < 8 ∧
      ((s.asm a).state = .ready ∨ (s.asm a).state = .regrind) ∧
      withdrawAsm a s = s.takeOperation d ⟨.withdraw, a, none⟩) := by
  have hdrawer : (s.asm a).withdrawable =
      if ((s.asm a).state = .ready ∨ (s.asm a).state = .regrind) ∧ (s.asm a).stock ≠ none then some d else none := by
    unfold AsmRecord.withdrawable
    cases hst : (s.asm a).stock with
    | none => split <;> simp
    | some e =>
      obtain rfl := hd e hst
      split <;> simp_all
  have hstock : (s.asm a).stock ≠ none → (s.asm a).stock = some d := fun h => by
    obtain ⟨e, he⟩ := Option.ne_none_iff_exists'.mp h
    exact he.trans (congrArg some (hd e he))
  unfold withdrawAsm
  simp only [releaseRefusal_eq, State.takeOperation, hdrawer]
  repeat' split
  all_goals grind [Checked, firstOf_cons, firstOf_nil, releaseChecks_none]

/-- RETURN (R108). -/
theorem returnAsm_checked (a d n : Nat) : Checked s
    ((decide (511 < a), .badArgument) :: (decide ((s.asm a).holder = some .P), .locked) ::
      (decide (63 < d ∨ 1 < n), .badArgument) :: (s.inOperation a, .busy) :: ((s.op d).isSome, .busy) ::
      (decide ¬((s.asm a).state = .issued ∨ (s.asm a).state = .exhausted), .wrongState) ::
      ((s.drawer d).stock.isSome, .wrongState) :: ((s.drawer d).mismatch, .wrongState) :: releaseChecks s d)
    (returnAsm a d n s)
    (a < 512 ∧ d < 64 ∧ s.inOperation a = false ∧ s.op d = none ∧ (s.drawer d).state = .closed ∧
      s.drc.driver.fault = false ∧ s.releaseCount < 8 ∧ ((s.asm a).state = .issued ∨ (s.asm a).state = .exhausted) ∧
      ∃ k, conditionOf n = some k ∧ returnAsm a d n s = s.takeOperation d ⟨.giveBack k, a, none⟩) := by
  have hcond : 1 < n ↔ conditionOf n = none := by
    unfold conditionOf
    split <;> simp_all
    omega
  unfold returnAsm
  simp only [emptyDrawerRefusal_eq, State.takeOperation, hcond]
  repeat' split
  all_goals grind [Checked, firstOf_cons, firstOf_nil, Option.isSome_iff_ne_none, releaseChecks_none]

/-- The checks of ISSUE from check 4 on (R103). -/
def issueCheckList (s : State) (a c p d : Nat) : List (Bool × Status) :=
  (s.inOperation a, .busy) :: (decide ¬((s.asm a).state = .ready ∧ (s.asm a).stock ≠ none), .wrongState) ::
    (!(s.asm a).markSet, .staleReference) :: (decide (8 * (s.asm a).limit ≤ (s.asm a).used), .wrongState) ::
    (decide ((s.profile c).size = 0), .wrongState) :: (decide ((s.profile c).size ≤ p), .badArgument) ::
    (decide (s.pocket c p ≠ .empty), .pocketOccupied) ::
    ((findPick s.picks c p).any fun k => !(decide (k.state = .waiting) && decide ((s.asm a).family = some k.family)),
      .pocketOccupied) :: ((s.drawer d).mismatch, .wrongState) :: releaseChecks s d

/-- The first failing check as `issueChecks` gives it. -/
def statusOr (o : Option Status) (d : Nat) : Except Status Nat :=
  match o with
  | some st => .error st
  | none => .ok d

theorem statusOr_ite (c : Prop) [Decidable c] (st : Status) (o : Option Status) (d : Nat) :
    statusOr (if c then some st else o) d = if c then .error st else statusOr o d := by
  split <;> rfl

/-- The drawer of the assembly to be issued, or the first of the checks that fails (R103). -/
theorem issueChecks_eq (a c p d : Nat) (hd : ∀ e, (s.asm a).stock = some e → e = d) :
    s.issueChecks a c p = statusOr (firstOf (issueCheckList s a c p d)) d := by
  have hpick : ∀ f, s.pickBlocks c p f =
      (findPick s.picks c p).any fun k => !(decide (k.state = .waiting) && decide (f = some k.family)) := by
    intro f
    unfold State.pickBlocks
    split <;> simp_all
  have hrefusal : (match s.releaseRefusal d with
      | some st => .error st
      | none => .ok d) = statusOr (firstOf (releaseChecks s d)) d := by
    rw [releaseRefusal_eq]
    rfl
  unfold State.issueChecks AsmRecord.wornOut AsmRecord.readyDrawer issueCheckList
  simp only [firstOf_cons, statusOr_ite, decide_eq_true_eq, hpick, ← hrefusal]
  by_cases hready : (s.asm a).state = .ready
  · cases hst : (s.asm a).stock with
    | none => simp [hready]
    | some e =>
      obtain rfl := hd e hst
      simp [hready] <;> rfl
  · simp [hready]

/-- ISSUE from check 4 on (R103, R104). -/
theorem issueFrom_checked (a c p d : Nat) (b : Bool) (hd : ∀ e, (s.asm a).stock = some e → e = d) :
    Checked s (issueCheckList s a c p d) (s.issueFrom a c p b)
      (s.inOperation a = false ∧ (s.asm a).state = .ready ∧ (s.asm a).stock = some d ∧ s.pocket c p = .empty ∧
        (s.drawer d).state = .closed ∧ s.drc.driver.fault = false ∧ s.releaseCount < 8 ∧
        s.issueFrom a c p b = s.acceptIssue a c p d b) := by
  unfold State.issueFrom
  rw [issueChecks_eq s a c p d hd]
  refine ⟨fun st h => by rw [h]; rfl, fun h => ?_⟩
  have hlist := firstOf_eq_none.mp h
  simp only [issueCheckList, releaseChecks, List.forall_mem_cons,
    decide_eq_false_iff_not, not_not] at hlist
  obtain ⟨hop, ⟨hready, hstock⟩, -, -, -, -, hpocket, -, -, hclosed, hfault, hcount, -⟩ := hlist
  obtain ⟨e, he⟩ := Option.ne_none_iff_exists'.mp hstock
  refine ⟨hop, hready, he.trans (congrArg some (hd e he)), hpocket, hclosed, hfault, by omega, ?_⟩
  rw [h]
  rfl

/-- ISSUE (R103). -/
theorem issueAsm_checked (a c p d : Nat) (hd : ∀ e, (s.asm a).stock = some e → e = d) : Checked s
    ((decide (511 < a), .badArgument) :: (decide ((s.asm a).holder = some .P), .locked) ::
      (decide (15 < c ∨ 127 < p), .badArgument) :: issueCheckList s a c p d)
    (issueAsm a c p s)
    (a < 512 ∧ c < 16 ∧ p < 128 ∧ s.inOperation a = false ∧ (s.asm a).state = .ready ∧ (s.asm a).stock = some d ∧
      s.pocket c p = .empty ∧ (s.drawer d).state = .closed ∧ s.drc.driver.fault = false ∧ s.releaseCount < 8 ∧
      issueAsm a c p s = s.acceptIssue a c p d false) := by
  unfold issueAsm
  refine checked_cons (fun h => ?_) fun h1 => checked_cons (fun h => ?_) fun h2 => checked_cons (fun h => ?_) fun h3 => ?_
  all_goals simp only [decide_eq_true_eq, decide_eq_false_iff_not] at *
  · rw [if_pos h]
  · rw [if_neg h1, if_pos h]
  · rw [if_neg h1, if_neg h2, if_pos h]
  · rw [if_neg h1, if_neg h2, if_neg h3]
    exact (issueFrom_checked s a c p d false hd).imp fun h => ⟨by omega, by omega, by omega, h⟩

/-- ISSUE_PICK (R105): the checks of ISSUE from check 4 on speak of the sister chosen. -/
theorem issuePick_checked (a c p d : Nat) (ha : ∀ k, findPick s.picks c p = some k → k.state = .waiting →
      s.chooseSister k.family = some a ∨ s.chooseSister k.family = none)
    (hd : ∀ e, (s.asm a).stock = some e → e = d) : Checked s
    ((decide (15 < c ∨ 127 < p), .badArgument) :: (decide ((s.profile c).size = 0), .wrongState) ::
      (decide ((s.profile c).size ≤ p), .badArgument) :: ((findPick s.picks c p).isNone, .notFound) ::
      ((findPick s.picks c p).any fun k => decide (k.state = .inIssue), .busy) ::
      ((findPick s.picks c p).any fun k => decide (k.state = .waitEmpty), .wrongState) ::
      ((findPick s.picks c p).any fun k => (s.chooseSister k.family).isNone, .notFound) :: issueCheckList s a c p d)
    (issuePick c p s)
    (c < 16 ∧ p < 128 ∧ s.inOperation a = false ∧ (s.asm a).state = .ready ∧ (s.asm a).stock = some d ∧
      s.pocket c p = .empty ∧ (s.drawer d).state = .closed ∧ s.drc.driver.fault = false ∧ s.releaseCount < 8 ∧
      ∃ k, findPick s.picks c p = some k ∧ k.state = .waiting ∧ s.chooseSister k.family = some a ∧
        issuePick c p s = s.acceptIssue a c p d true) := by
  unfold issuePick
  refine checked_cons (fun h => ?_) fun h1 => checked_cons (fun h => ?_) fun h2 => checked_cons (fun h => ?_) fun h3 => ?_
  all_goals simp only [decide_eq_true_eq, decide_eq_false_iff_not] at *
  · rw [if_pos h]
  · rw [if_neg h1, if_pos h]
  · rw [if_neg h1, if_neg h2, if_pos h]
  · rw [if_neg h1, if_neg h2, if_neg h3]
    cases hk : findPick s.picks c p with
    | none => exact checked_cons (fun _ => rfl) fun h => nomatch h
    | some k =>
      refine checked_cons (fun h => nomatch h) fun _ => ?_
      cases hstate : k.state with
      | inIssue => exact checked_cons (fun _ => by simp [hstate]) fun h => by simp [hstate] at h
      | waitEmpty =>
        exact checked_cons (fun h => by simp [hstate] at h) fun _ =>
          checked_cons (fun _ => by simp [hstate]) fun h => by simp [hstate] at h
      | waiting =>
        refine checked_cons (fun h => by simp [hstate] at h) fun _ => checked_cons (fun h => by simp [hstate] at h) fun _ => ?_
        rcases ha k hk hstate with ha | ha
        · refine checked_cons (fun h => by simp [ha] at h) fun _ => ?_
          simp only [hstate, ha]
          exact (issueFrom_checked s a c p d true hd).imp fun ⟨hop, hready, hstock, hpocket, hclosed, hfault, hcount, h⟩ =>
            ⟨by omega, by omega, hop, hready, hstock, hpocket, hclosed, hfault, hcount, k, rfl, hstate, ha, h⟩
        · exact checked_cons (fun _ => by simp [hstate, ha]) fun h => by simp [ha] at h

/-- CANCEL_DRAWER (R84). -/
theorem cancelDrawer_checked (d : Nat) : Checked s
    [(decide (63 < d), .badArgument), (decide ((s.drawer d).state = .closed ∨ (s.drawer d).state = .opened ∨
      (s.drawer d).state = .jammed), .wrongState)]
    (cancelDrawer d s)
    (d < 64 ∧ (
      (s.drawer d).state = .queued ∧ cancelDrawer d s =
        (((s.setReleaseQueue (s.drc.queue.erase d)).drawerRest d .closed 0).rollback d .cancelled, accept .empty) ∨
      (s.drawer d).state.waiting = true ∧ cancelDrawer d s =
        ((s.drawerRest d .closed 0).rollback d .cancelled, accept .empty) ∨
      (s.drawer d).state = .pulsing ∧ cancelDrawer d s =
        (((s.endPulse.drawerRest d .closed 0).rollback d .cancelled).kickDriver, accept .empty))) := by
  unfold cancelDrawer
  split
  · next h => exact checked_cons (fun _ => rfl) fun h' => by simp [h] at h'
  · next h =>
    have hd : d < 64 := by omega
    refine checked_cons (fun h' => by simp [h] at h') fun _ => ?_
    cases hs : (s.drawer d).state
    all_goals simp [Checked, firstOf_cons, hd, DrawerState.waiting]

/-- CLEAR_JAM (R83). -/
theorem clearJam_checked (d : Nat) : Checked s
    [(decide (63 < d), .badArgument), (decide ((s.drawer d).state ≠ .jammed), .wrongState)] (clearJam d s)
    (d < 64 ∧ (s.drawer d).state = .jammed ∧ clearJam d s = (s.drawerRest d .closed 0, accept .empty)) := by
  unfold clearJam
  repeat' split
  all_goals grind [Checked, firstOf_cons, firstOf_nil]

/-- CLEAR_DRIVER (R82). -/
theorem clearDriver_checked : Checked s [(!s.drc.driver.fault, .wrongState)] (clearDriver s)
    (s.drc.driver.fault = true ∧ clearDriver s =
      (s.setDriver { s.drc.driver with fault := false, overcurrents := 0 }, accept (.driverCondition false))) := by
  unfold clearDriver
  split
  all_goals grind [Checked, firstOf_cons, firstOf_nil]

/-- READ_DRAWER (R88). -/
theorem readDrawer_checked (d : Nat) : Checked s [(decide (63 < d), .badArgument)] (readDrawer d s)
    (readDrawer d s = (s, accept (.drawer d (s.drawer d).reported (s.queuePosition d) (s.op d)))) := by
  unfold readDrawer
  split
  all_goals grind [Checked, firstOf_cons, firstOf_nil]

/-! ### Cells and handoff blocks (Sections 6 and 8) -/

/-- WRITE_CELL (R116). -/
theorem writeCell_checked (c n unit form order factor auto : Nat) (datum : Int) : Checked s
    ((decide (15 < c), .badArgument) :: (decide (128 < n) || (unitOf unit).isNone || (radiusFormOf form).isNone ||
        (byteOrderOf order).isNone || (autoRequestOf auto).isNone, .badArgument) ::
      [(((List.range 128).any fun x => decide (n ≤ x) && decide (s.pocket c x ≠ .empty)) ||
        s.picks.any fun k => decide (k.cell = c) && decide (n ≤ k.pocket), .wrongState)])
    (writeCell c n unit form order datum factor auto s)
    (c < 16 ∧ ∃ pr, profileOf n unit form order datum factor auto = some pr ∧
      writeCell c n unit form order datum factor auto s = (((s.setProfile c pr).disturb (.cell c)).dirty (cellKey c),
        acceptClamped (decide (pr.datum ≠ datum) || decide (pr.factor ≠ factor)) (.profile pr))) := by
  have hprofile : profileOf n unit form order datum factor auto = none ↔ (decide (128 < n) || (unitOf unit).isNone ||
      (radiusFormOf form).isNone || (byteOrderOf order).isNone || (autoRequestOf auto).isNone) = true := by
    unfold profileOf
    split
    · next hn hu hf ho hq => simp_all
    · next h =>
      simp only [true_iff, Bool.or_eq_true, Option.isNone_iff_eq_none, decide_eq_true_eq]
      by_contra hc
      simp only [not_or, not_lt] at hc
      obtain ⟨⟨⟨⟨hn, hu⟩, hf⟩, ho⟩, hq⟩ := hc
      obtain ⟨u, hu⟩ := Option.ne_none_iff_exists'.mp hu
      obtain ⟨f, hf⟩ := Option.ne_none_iff_exists'.mp hf
      obtain ⟨o, ho⟩ := Option.ne_none_iff_exists'.mp ho
      obtain ⟨q, hq⟩ := Option.ne_none_iff_exists'.mp hq
      exact h u f o q (by simpa using hn) hu hf ho hq
  refine checked_cons (fun h => ?_) fun h1 => checked_cons (fun h => ?_) fun h2 => ?_
  · unfold writeCell
    rw [if_pos (by simpa using h)]
  · unfold writeCell
    rw [if_neg (by simpa using h1), hprofile.mpr h]
  · obtain ⟨pr, hpr⟩ := Option.ne_none_iff_exists'.mp (mt hprofile.mp (by simp [h2]))
    unfold writeCell
    rw [if_neg (by simpa using h1), hpr]
    refine checked_cons (fun h => if_pos h) fun h3 => checked_nil ⟨by simp at h1; omega, pr, rfl, if_neg ?_⟩
    rw [← Bool.not_eq_false, not_not]
    exact h3

/-- READ_CELL (R118). -/
theorem readCell_checked (c : Nat) : Checked s [(decide (15 < c), .badArgument)] (readCell c s)
    (readCell c s = (s, accept (.cell c (s.profile c) ((List.range (s.profile c).size).map (s.pocket c))
      (s.picks.filter fun k => decide (k.cell = c)).length))) := by
  unfold readCell
  split
  all_goals grind [Checked, firstOf_cons, firstOf_nil]

/-- REQUEST_TOOL (R123). -/
theorem requestTool_checked (c p f : Nat) : Checked s
    [(decide (15 < c ∨ 127 < p ∨ f < 1 ∨ 255 < f), .badArgument), (decide ((s.profile c).size = 0), .wrongState),
      (decide ((s.profile c).size ≤ p), .badArgument),
      ((s.pocket c p).isReserved || (findPick s.picks c p).isSome, .pocketOccupied),
      (decide (32 ≤ s.picks.length), .busy)]
    (requestTool c p f s)
    ((findPick s.picks c p) = none ∧ s.picks.length < 32 ∧ requestTool c p f s =
      ((s.setPicks (s.picks ++ [⟨c, p, f, .machine, (s.pocket c p).pickState⟩])).notify .C
          (.pickAdded c p f .machine (s.pocket c p).pickState (s.picks.length + 1)),
        accept (.pickEntry c p (s.pocket c p).pickState (s.picks.length + 1)))) := by
  unfold requestTool
  dsimp only
  repeat' split
  all_goals grind [Checked, firstOf_cons, firstOf_nil, Option.isSome_iff_ne_none]

/-- WITHDRAW_REQUEST (R125). -/
theorem withdrawRequest_checked (c p : Nat) : Checked s
    [(decide (15 < c ∨ 127 < p), .badArgument), ((findPick s.picks c p).isNone, .notFound),
      ((findPick s.picks c p).any fun k => decide (k.state = .inIssue), .busy)]
    (withdrawRequest c p s)
    (∃ k, findPick s.picks c p = some k ∧ k.state ≠ .inIssue ∧ withdrawRequest c p s =
      ((s.setPicks (removePick s.picks c p)).notify .C (.pickWithdrawn c p k.family k.origin k.state),
        accept .empty)) := by
  unfold withdrawRequest
  repeat' split
  all_goals grind [Checked, firstOf_cons, firstOf_nil]

/-- HANDOFF (R150, R158). -/
theorem handoff_checked (c start size : Nat) : Checked s
    [(decide (15 < c ∨ 127 < start), .badArgument), (decide (size = 0), .badArgument),
      (decide ((s.profile c).size = 0), .wrongState)]
    (handoff c start size s)
    (c < 16 ∧ start < 128 ∧ size ≠ 0 ∧ ∃ i, i = decodeIdent c start size ∧ handoff c start size s =
      match s.slotOf i with
      | some n => match s.slot n with
        | .complete h b _ => s.serveSlot n h b
        | .building h => s.retry i n h.rebuilds
        | .free => s.serveFresh i
      | none => s.serveFresh i) := by
  unfold handoff
  refine checked_cons (fun h => ?_) fun h1 => checked_cons (fun h => ?_) fun h2 => checked_cons (fun h => ?_) fun h3 =>
    checked_nil ?_
  all_goals simp only [decide_eq_true_eq, decide_eq_false_iff_not] at *
  · rw [if_pos h]
  · rw [if_neg h1, if_pos h]
  · rw [if_neg h1, if_neg h2, if_pos h]
  · rw [if_neg h1, if_neg h2, if_neg h3]
    exact ⟨by omega, by omega, h2, _, rfl, rfl⟩

/-! ### Locks and parameters (Sections 1 and 10) -/

/-- LOCK (R10) is refused or restarts or begins the lock of its port. -/
theorem lockRecord_cases (p : Port) (a : Nat) : (∃ st b, lockRecord p a s = (s, { refuse st with body := b }) ∧
      st ≠ .ok ∧ st ≠ .retry) ∨
    a < 512 ∧ ((s.asm a).holder = none ∨ (s.asm a).holder = some p) ∧
      lockRecord p a s = (s.setAsm a { s.asm a with holder := some p, idle := 0 }, accept (.lockHolder a p)) := by
  unfold lockRecord
  split
  · exact .inl ⟨.badArgument, .empty, rfl, by decide, by decide⟩
  · next ha =>
    split
    · next h => exact .inr ⟨by omega, .inl h, rfl⟩
    · next q h =>
      split
      · next e => exact .inr ⟨by omega, .inr (e ▸ h), by rw [← e, ← h]⟩
      · exact .inl ⟨.locked, _, rfl, by decide, by decide⟩

/-- UNLOCK (R11). -/
theorem unlockRecord_checked (p : Port) (a : Nat) : Checked s
    [(decide (511 < a), .badArgument), ((s.asm a).holder.isNone, .wrongState),
      (decide ((s.asm a).holder ≠ some p), .locked), (decide ((s.asm a).state = .measuring), .wrongState)]
    (unlockRecord p a s)
    (a < 512 ∧ (s.asm a).holder = some p ∧ (s.asm a).state ≠ .measuring ∧
      unlockRecord p a s = (s.setAsm a (s.asm a).unlocked, accept .empty)) := by
  unfold unlockRecord
  repeat' split
  all_goals grind [Checked, firstOf_cons, firstOf_nil]

/-- SET_PARAMETER (R196). -/
theorem setParameter_checked (p : Port) (n v : Nat) : Checked s
    [(decide (paramOwner n = none), .badArgument), (decide (paramOwner n ≠ some p), .notPermitted)] (setParameter p n v s)
    (paramOwner n = some p ∧ setParameter p n v s =
      (if s.params.get n = paramStored n v then s
        else ((s.setParams (s.params.put n (paramStored n v))).actOnLimit n).dirty paramsKey,
        acceptClamped (decide (paramStored n v ≠ v)) (.parameter n (paramStored n v)))) := by
  unfold setParameter
  dsimp only
  repeat' split
  all_goals grind [Checked, firstOf_cons, firstOf_nil]

end Sys2Proof.Machine
end

section
/-! PROOFS. The frame of every request at its block: which parts of the state it leaves as they were. -/

namespace Sys2Proof.Machine

open Sys2Proof

/-! ### Groups of parts that stay together -/

/-- The Drawer Controller, the Crib Operation Controller and the Cell Table stay. -/
@[simp] abbrev KeepsCrib (s t : State) : Prop := KeepsDrc s t ∧ KeepsCoc s t ∧ KeepsCtb s t

/-- The Reference Store and the Record Store stay. -/
@[simp] abbrev KeepsStores (s t : State) : Prop := KeepsRfs s t ∧ KeepsRst s t

/-- What is no block stays: ports, parameters, phase, waiting commands and pins. -/
@[simp] abbrev KeepsOutside (s t : State) : Prop := KeepsPorts s t ∧ KeepsMode s t ∧ t.pins = s.pins

/-- What stays when drawers are queued, pulsed and taken back: the session, both stores, the profiles, the mode, and of the
ports all but the notices. -/
@[simp] abbrev KeepsBesideDrawers (s t : State) : Prop :=
  t.ocu = s.ocu ∧ KeepsStores s t ∧ (∀ e, t.profile e = s.profile e) ∧ KeepsMode s t ∧ OnlyNotices s t

/-- What stays when a session ends: the drawers, the operations, the cells, the active set, and of the ports all but the
notices. -/
@[simp] abbrev KeepsBesideSession (s t : State) : Prop :=
  t.rfs.active = s.rfs.active ∧ KeepsCrib s t ∧ KeepsMode s t ∧ t.pins = s.pins ∧ OnlyNotices s t

variable (s : State)

/-! ### The presetter (Sections 2 and 3) -/

@[simp] theorem measureOpen_frame (a : Nat) :
    KeepsRfs s (measureOpen a s).1 ∧ KeepsRst s (measureOpen a s).1 ∧ KeepsCrib s (measureOpen a s).1 ∧
      KeepsOutside s (measureOpen a s).1 := by
  unfold measureOpen
  dsimp only
  repeat' split
  all_goals simp

@[simp] theorem addReading_frame (z x : Nat) :
    KeepsAtb s (addReading z x s).1 ∧ KeepsStores s (addReading z x s).1 ∧ KeepsCrib s (addReading z x s).1 ∧
      KeepsHob s (addReading z x s).1 ∧ KeepsOutside s (addReading z x s).1 := by
  unfold addReading
  repeat' split
  all_goals simp

@[simp] theorem zeroOpen_frame (k : Nat) :
    KeepsAtb s (zeroOpen k s).1 ∧ KeepsStores s (zeroOpen k s).1 ∧ KeepsCrib s (zeroOpen k s).1 ∧
      KeepsHob s (zeroOpen k s).1 ∧ KeepsOutside s (zeroOpen k s).1 := by
  unfold zeroOpen
  repeat' split
  all_goals simp

@[simp] theorem spanOpen_frame (k lm dm : Nat) :
    KeepsAtb s (spanOpen k lm dm s).1 ∧ KeepsStores s (spanOpen k lm dm s).1 ∧ KeepsCrib s (spanOpen k lm dm s).1 ∧
      KeepsHob s (spanOpen k lm dm s).1 ∧ KeepsOutside s (spanOpen k lm dm s).1 := by
  unfold spanOpen
  repeat' split
  all_goals simp

@[simp] theorem selectReference_frame (k : Nat) :
    KeepsAtb s (selectReference k s).1 ∧ (selectReference k s).1.ocu = s.ocu ∧
      (∀ j, (selectReference k s).1.refSet j = s.refSet j) ∧ KeepsCrib s (selectReference k s).1 ∧
      KeepsHob s (selectReference k s).1 ∧ KeepsOutside s (selectReference k s).1 := by
  unfold selectReference
  repeat' split
  all_goals simp

@[simp] theorem certifyReference_frame (k : Nat) :
    KeepsAtb s (certifyReference k s).1 ∧ (certifyReference k s).1.ocu = s.ocu ∧
      (certifyReference k s).1.rfs.active = s.rfs.active ∧ KeepsCrib s (certifyReference k s).1 ∧
      KeepsHob s (certifyReference k s).1 ∧ KeepsOutside s (certifyReference k s).1 := by
  unfold certifyReference
  repeat' split
  all_goals simp

@[simp] theorem unlockReference_frame (k : Nat) :
    KeepsAtb s (unlockReference k s).1 ∧ (unlockReference k s).1.ocu = s.ocu ∧
      (unlockReference k s).1.rfs.active = s.rfs.active ∧ KeepsCrib s (unlockReference k s).1 ∧
      KeepsHob s (unlockReference k s).1 ∧ KeepsOutside s (unlockReference k s).1 := by
  unfold unlockReference
  repeat' split
  all_goals simp

@[simp] theorem writeCurve_frame (l : List Int) :
    KeepsAtb s (writeCurve l s).1 ∧ (writeCurve l s).1.ocu = s.ocu ∧
      (∀ j, (writeCurve l s).1.refSet j = s.refSet j) ∧ (writeCurve l s).1.rfs.active = s.rfs.active ∧
      KeepsCrib s (writeCurve l s).1 ∧ KeepsHob s (writeCurve l s).1 ∧ KeepsOutside s (writeCurve l s).1 := by
  unfold writeCurve
  dsimp only
  repeat' split
  all_goals simp

@[simp] theorem closeMeasure_frame (x : Session) (a k n : Nat) :
    (closeMeasure s x a k n).1.ocu = none ∧ (∀ j, (closeMeasure s x a k n).1.refSet j = s.refSet j) ∧
      KeepsBesideSession s (closeMeasure s x a k n).1 := by
  unfold closeMeasure
  simp

@[simp] theorem closeZero_frame (x : Session) (k : Nat) :
    (closeZero s x k).1.ocu = none ∧ KeepsBesideSession s (closeZero s x k).1 := by
  unfold closeZero
  split <;> simp

@[simp] theorem closeSpan_frame (x : Session) (k lm dm : Nat) :
    (closeSpan s x k lm dm).1.ocu = none ∧ KeepsBesideSession s (closeSpan s x k lm dm).1 := by
  unfold closeSpan
  dsimp only
  split <;> simp

/-- A close that is taken ends the session, and no close opens one. -/
theorem closeSession_ocu (n : Int) : (closeSession n s).1.ocu = none ∨ (closeSession n s).1.ocu = s.ocu := by
  unfold closeSession
  repeat' split
  all_goals simp

@[simp] theorem closeSession_frame (n : Int) : KeepsBesideSession s (closeSession n s).1 := by
  unfold closeSession
  repeat' split
  all_goals simp

@[simp] theorem abandonSession_frame :
    (abandonSession s).1.ocu = none ∧ (∀ j, (abandonSession s).1.refSet j = s.refSet j) ∧
      KeepsBesideSession s (abandonSession s).1 := by
  unfold abandonSession
  split
  · next h => simp [h]
  · simp

/-! ### Reads (R18, R64, R88, R118) -/

@[simp] theorem readReference_state (k : Nat) : (readReference k s).1 = s := by
  unfold readReference
  split <;> rfl

@[simp] theorem readDrawer_state (d : Nat) : (readDrawer d s).1 = s := by
  unfold readDrawer
  split <;> rfl

@[simp] theorem readRecord_state (a : Nat) : (readRecord a s).1 = s := by
  unfold readRecord
  split <;> rfl

@[simp] theorem readCell_state (c : Nat) : (readCell c s).1 = s := by
  unfold readCell
  split <;> rfl

/-! ### Records (Sections 1, 5.3 and 7) -/

@[simp] theorem registerAsm_frame (a : Nat) (f : Option Nat) (nl nr : Option (Nat × Nat)) (m l w : Nat) :
    (registerAsm a f nl nr m l w s).1.ocu = s.ocu ∧ KeepsRfs s (registerAsm a f nl nr m l w s).1 ∧
      KeepsCrib s (registerAsm a f nl nr m l w s).1 ∧ KeepsOutside s (registerAsm a f nl nr m l w s).1 := by
  unfold registerAsm
  dsimp only
  repeat' split
  all_goals simp

@[simp] theorem retireAsm_frame (a : Nat) :
    (retireAsm a s).1.ocu = s.ocu ∧ KeepsRfs s (retireAsm a s).1 ∧ (retireAsm a s).1.drc.queue = s.drc.queue ∧
      (retireAsm a s).1.drc.driver = s.drc.driver ∧ KeepsCoc s (retireAsm a s).1 ∧ KeepsCtb s (retireAsm a s).1 ∧
      KeepsMode s (retireAsm a s).1 ∧ (retireAsm a s).1.pins = s.pins ∧ OnlyNotices s (retireAsm a s).1 := by
  unfold retireAsm
  dsimp only
  repeat' split
  all_goals simp

@[simp] theorem returnFromRegrind_frame (a : Nat) :
    (returnFromRegrind a s).1.ocu = s.ocu ∧ KeepsRfs s (returnFromRegrind a s).1 ∧
      KeepsCrib s (returnFromRegrind a s).1 ∧ KeepsOutside s (returnFromRegrind a s).1 := by
  unfold returnFromRegrind
  dsimp only
  repeat' split
  all_goals simp

@[simp] theorem setLife_frame (a m l w : Nat) :
    (setLife a m l w s).1.ocu = s.ocu ∧ KeepsRfs s (setLife a m l w s).1 ∧ KeepsCrib s (setLife a m l w s).1 ∧
      KeepsOutside s (setLife a m l w s).1 := by
  unfold setLife
  dsimp only
  repeat' split
  all_goals simp

@[simp] theorem lockRecord_frame (p : Port) (a : Nat) :
    (lockRecord p a s).1.ocu = s.ocu ∧ KeepsStores s (lockRecord p a s).1 ∧ KeepsCrib s (lockRecord p a s).1 ∧
      KeepsHob s (lockRecord p a s).1 ∧ KeepsOutside s (lockRecord p a s).1 := by
  unfold lockRecord
  repeat' split
  all_goals simp

@[simp] theorem unlockRecord_frame (p : Port) (a : Nat) :
    (unlockRecord p a s).1.ocu = s.ocu ∧ KeepsStores s (unlockRecord p a s).1 ∧ KeepsCrib s (unlockRecord p a s).1 ∧
      KeepsHob s (unlockRecord p a s).1 ∧ KeepsOutside s (unlockRecord p a s).1 := by
  unfold unlockRecord
  repeat' split
  all_goals simp

@[simp] theorem reportUse_frame (a c p n : Nat) :
    (s.reportUse a c p n).ocu = s.ocu ∧ KeepsRfs s (s.reportUse a c p n) ∧ KeepsDrc s (s.reportUse a c p n) ∧
      KeepsCoc s (s.reportUse a c p n) ∧ (∀ e, (s.reportUse a c p n).profile e = s.profile e) ∧
      (∀ e q, (s.reportUse a c p n).pocket e q = s.pocket e q) ∧ KeepsMode s (s.reportUse a c p n) ∧
      (s.reportUse a c p n).pins = s.pins ∧ OnlyNotices s (s.reportUse a c p n) := by
  unfold State.reportUse State.commitUse State.noticeWarning State.noticeExhausted
  dsimp only
  repeat' split
  all_goals simp

@[simp] theorem usage_frame (c p sec n : Nat) :
    (usage c p sec n s).1.ocu = s.ocu ∧ KeepsRfs s (usage c p sec n s).1 ∧ KeepsDrc s (usage c p sec n s).1 ∧
      KeepsCoc s (usage c p sec n s).1 ∧ (∀ e, (usage c p sec n s).1.profile e = s.profile e) ∧
      (∀ e q, (usage c p sec n s).1.pocket e q = s.pocket e q) ∧ KeepsMode s (usage c p sec n s).1 ∧
      (usage c p sec n s).1.pins = s.pins ∧ OnlyNotices s (usage c p sec n s).1 := by
  unfold usage
  dsimp only
  repeat' split
  all_goals simp

/-! ### Drawers and operations (Sections 4 and 5) -/

@[simp] theorem acceptOperation_frame (d : Nat) (o : Operation) : KeepsBesideDrawers s (s.acceptOperation d o).1 := by
  unfold State.acceptOperation State.requestRelease
  simp

@[simp] theorem stockAsm_frame (a d : Nat) : KeepsBesideDrawers s (stockAsm a d s).1 := by
  unfold stockAsm
  dsimp only
  repeat' split
  all_goals simp

@[simp] theorem withdrawAsm_frame (a : Nat) : KeepsBesideDrawers s (withdrawAsm a s).1 := by
  unfold withdrawAsm
  dsimp only
  repeat' split
  all_goals simp

@[simp] theorem returnAsm_frame (a d k : Nat) : KeepsBesideDrawers s (returnAsm a d k s).1 := by
  unfold returnAsm
  dsimp only
  repeat' split
  all_goals simp

@[simp] theorem acceptIssue_frame (a c p d : Nat) (b : Bool) : KeepsBesideDrawers s (s.acceptIssue a c p d b).1 := by
  unfold State.acceptIssue
  dsimp only
  split <;> simp

@[simp] theorem issueFrom_frame (a c p : Nat) (b : Bool) : KeepsBesideDrawers s (s.issueFrom a c p b).1 := by
  unfold State.issueFrom
  split <;> simp

@[simp] theorem issueAsm_frame (a c p : Nat) : KeepsBesideDrawers s (issueAsm a c p s).1 := by
  unfold issueAsm
  repeat' split
  all_goals simp

@[simp] theorem issuePick_frame (c p : Nat) : KeepsBesideDrawers s (issuePick c p s).1 := by
  unfold issuePick
  repeat' split
  all_goals simp

@[simp] theorem cancelDrawer_frame (d : Nat) : KeepsBesideDrawers s (cancelDrawer d s).1 := by
  unfold cancelDrawer
  repeat' split
  all_goals simp

@[simp] theorem clearJam_frame (d : Nat) :
    KeepsAtb s (clearJam d s).1 ∧ (clearJam d s).1.ocu = s.ocu ∧ KeepsStores s (clearJam d s).1 ∧
      KeepsCoc s (clearJam d s).1 ∧ KeepsCtb s (clearJam d s).1 ∧ KeepsHob s (clearJam d s).1 ∧
      KeepsOutside s (clearJam d s).1 := by
  unfold clearJam
  repeat' split
  all_goals simp

@[simp] theorem clearDriver_frame :
    KeepsAtb s (clearDriver s).1 ∧ (clearDriver s).1.ocu = s.ocu ∧ KeepsStores s (clearDriver s).1 ∧
      KeepsCoc s (clearDriver s).1 ∧ KeepsCtb s (clearDriver s).1 ∧ KeepsHob s (clearDriver s).1 ∧
      KeepsOutside s (clearDriver s).1 := by
  unfold clearDriver
  repeat' split
  all_goals simp

/-! ### Cells and handoff blocks (Sections 6 and 8) -/

@[simp] theorem writeCell_frame (c n u f o : Nat) (dt : Int) (lf au : Nat) :
    KeepsAtb s (writeCell c n u f o dt lf au s).1 ∧ (writeCell c n u f o dt lf au s).1.ocu = s.ocu ∧
      KeepsRfs s (writeCell c n u f o dt lf au s).1 ∧ KeepsDrc s (writeCell c n u f o dt lf au s).1 ∧
      KeepsCoc s (writeCell c n u f o dt lf au s).1 ∧
      (∀ e q, (writeCell c n u f o dt lf au s).1.pocket e q = s.pocket e q) ∧
      (writeCell c n u f o dt lf au s).1.picks = s.picks ∧ KeepsOutside s (writeCell c n u f o dt lf au s).1 := by
  unfold writeCell
  repeat' split
  all_goals simp [State.setProfile_pocket]

@[simp] theorem requestTool_frame (c p f : Nat) :
    KeepsAtb s (requestTool c p f s).1 ∧ (requestTool c p f s).1.ocu = s.ocu ∧
      KeepsStores s (requestTool c p f s).1 ∧ KeepsDrc s (requestTool c p f s).1 ∧
      KeepsCoc s (requestTool c p f s).1 ∧ (∀ e, (requestTool c p f s).1.profile e = s.profile e) ∧
      (∀ e q, (requestTool c p f s).1.pocket e q = s.pocket e q) ∧ KeepsHob s (requestTool c p f s).1 ∧
      KeepsMode s (requestTool c p f s).1 ∧ (requestTool c p f s).1.pins = s.pins ∧
      OnlyNotices s (requestTool c p f s).1 := by
  unfold requestTool
  dsimp only
  repeat' split
  all_goals simp

@[simp] theorem withdrawRequest_frame (c p : Nat) :
    KeepsAtb s (withdrawRequest c p s).1 ∧ (withdrawRequest c p s).1.ocu = s.ocu ∧
      KeepsStores s (withdrawRequest c p s).1 ∧ KeepsDrc s (withdrawRequest c p s).1 ∧
      KeepsCoc s (withdrawRequest c p s).1 ∧ (∀ e, (withdrawRequest c p s).1.profile e = s.profile e) ∧
      (∀ e q, (withdrawRequest c p s).1.pocket e q = s.pocket e q) ∧ KeepsHob s (withdrawRequest c p s).1 ∧
      KeepsMode s (withdrawRequest c p s).1 ∧ (withdrawRequest c p s).1.pins = s.pins ∧
      OnlyNotices s (withdrawRequest c p s).1 := by
  unfold withdrawRequest
  repeat' split
  all_goals simp

theorem serveSlot_eq (n : Nat) (h : Held) (b : Block) :
    (s.serveSlot n h b).1 = { s with hob := (s.serveSlot n h b).1.hob } := by
  unfold State.serveSlot State.retry
  split
  · rw [kickBuilder_eq]; rfl
  · rw [queueReadAhead_eq]; rfl

theorem serveFresh_eq (i : Ident) : (s.serveFresh i).1 = { s with hob := (s.serveFresh i).1.hob } := by
  have hfresh : ∀ x : State × Answer, x = (match s.findSlot fun x => decide (x = .free) with
      | some n => (s.takeSlot n i).retry i n 0
      | none => (s, ⟨.busy, false, .identity i, false⟩)) → x.1 = { s with hob := x.1.hob } := by
    rintro x rfl
    split
    · exact takeSlot_eq s _ i
    · rfl
  unfold State.serveFresh
  dsimp only
  split
  · split
    · rw [queueReadAhead_eq]; rfl
    · exact hfresh _ rfl
  · exact hfresh _ rfl

theorem handoff_eq (c st n : Nat) : (handoff c st n s).1 = { s with hob := (handoff c st n s).1.hob } := by
  unfold handoff
  split
  · rfl
  · split
    · rfl
    · split
      · rfl
      · dsimp only
        split
        · split
          · exact serveSlot_eq s _ _ _
          · rfl
          · exact serveFresh_eq s _
        · exact serveFresh_eq s _

@[simp] theorem handoff_frame (c st n : Nat) :
    KeepsAtb s (handoff c st n s).1 ∧ (handoff c st n s).1.ocu = s.ocu ∧ KeepsStores s (handoff c st n s).1 ∧
      KeepsCrib s (handoff c st n s).1 ∧ KeepsOutside s (handoff c st n s).1 := by
  obtain ⟨hatb, hocu, hrfs, hdrc, hcoc, hctb, hrst, hports, hmode, hpins⟩ := frame_of_hob (handoff_eq s c st n)
  exact ⟨hatb, hocu, ⟨hrfs, hrst⟩, ⟨hdrc, hcoc, hctb⟩, hports, hmode, hpins⟩

/-! ### The ports (Section 10) -/

@[simp] theorem readNotice_frame (p : Port) :
    KeepsAtb s (readNotice p s).1 ∧ (readNotice p s).1.ocu = s.ocu ∧ KeepsStores s (readNotice p s).1 ∧
      KeepsCrib s (readNotice p s).1 ∧ KeepsHob s (readNotice p s).1 ∧ KeepsMode s (readNotice p s).1 ∧
      (readNotice p s).1.pins = s.pins := by
  unfold readNotice
  repeat' split
  all_goals simp

@[simp] theorem foldl_expireLock_frame (l : List Nat) :
    (∀ k, (l.foldl State.expireLock s).refSet k = s.refSet k) ∧ KeepsBesideSession s (l.foldl State.expireLock s) := by
  induction l generalizing s with
  | nil => simp
  | cons a l ih => simpa using ih (s.expireLock a)

@[simp] theorem foldl_reportLeftOpen_frame (l : List Nat) :
    KeepsAtb s (l.foldl State.reportLeftOpen s) ∧ (l.foldl State.reportLeftOpen s).ocu = s.ocu ∧
      KeepsRfs s (l.foldl State.reportLeftOpen s) ∧ KeepsCoc s (l.foldl State.reportLeftOpen s) ∧
      KeepsCtb s (l.foldl State.reportLeftOpen s) ∧ KeepsHob s (l.foldl State.reportLeftOpen s) ∧
      KeepsRst s (l.foldl State.reportLeftOpen s) ∧ KeepsMode s (l.foldl State.reportLeftOpen s) ∧
      (l.foldl State.reportLeftOpen s).pins = s.pins ∧
      (l.foldl State.reportLeftOpen s).drc.queue = s.drc.queue ∧
      (l.foldl State.reportLeftOpen s).drc.driver = s.drc.driver ∧
      OnlyNotices s (l.foldl State.reportLeftOpen s) := by
  induction l generalizing s with
  | nil => simp
  | cons d l ih => simpa using ih (s.reportLeftOpen d)

@[simp] theorem foldl_freeSlot_frame (l : List Nat) :
    KeepsAtb s (l.foldl State.freeSlot s) ∧ (l.foldl State.freeSlot s).ocu = s.ocu ∧
      KeepsStores s (l.foldl State.freeSlot s) ∧ KeepsCrib s (l.foldl State.freeSlot s) ∧
      KeepsOutside s (l.foldl State.freeSlot s) := by
  induction l generalizing s with
  | nil => simp
  | cons n l ih => simpa using ih (s.freeSlot n)

/-- What a changed limit does leaves operations, cells, active set, release queue, driver and mode. -/
@[simp] theorem actOnLimit_frame (n : Nat) :
    (∀ k, (s.actOnLimit n).refSet k = s.refSet k) ∧ (s.actOnLimit n).rfs.active = s.rfs.active ∧
      KeepsCoc s (s.actOnLimit n) ∧ KeepsCtb s (s.actOnLimit n) ∧ (s.actOnLimit n).drc.queue = s.drc.queue ∧
      (s.actOnLimit n).drc.driver = s.drc.driver ∧ KeepsMode s (s.actOnLimit n) ∧ (s.actOnLimit n).pins = s.pins ∧
      OnlyNotices s (s.actOnLimit n) := by
  unfold State.actOnLimit
  repeat' split
  all_goals simp

@[simp] theorem setParameter_frame (p : Port) (n v : Nat) :
    (∀ k, (setParameter p n v s).1.refSet k = s.refSet k) ∧ (setParameter p n v s).1.rfs.active = s.rfs.active ∧
      KeepsCoc s (setParameter p n v s).1 ∧ KeepsCtb s (setParameter p n v s).1 ∧
      (setParameter p n v s).1.drc.queue = s.drc.queue ∧ (setParameter p n v s).1.drc.driver = s.drc.driver ∧
      (setParameter p n v s).1.phase = s.phase ∧ (setParameter p n v s).1.pending = s.pending ∧
      (setParameter p n v s).1.pins = s.pins ∧ OnlyNotices s (setParameter p n v s).1 := by
  unfold setParameter
  dsimp only
  repeat' split
  all_goals simp

end Sys2Proof.Machine
end

section
/-! PROOFS. What the requests at their blocks do at the ports: all but READ_NOTICE and RESTART only place notices, none
changes a keep, and RESTART alone answers with a reply that is kept. -/

namespace Sys2Proof.Machine

open Sys2Proof

/-! ### Notices of the requests -/

variable (s : State)

theorem closeMeasure_places (x : Session) (a k n : Nat) : Places s (closeMeasure s x a k n).1 := by
  unfold closeMeasure
  exact (finishSession_places _ _).after (by simp)

theorem closeZero_places (x : Session) (k : Nat) : Places s (closeZero s x k).1 := by
  unfold closeZero
  dsimp only
  split
  · exact finishSession_places s _
  · dsimp only
    exact (finishSession_places (State.sweep _ _) _).after (by simp only [sweep_frame, State.setRefSet_ports])

theorem closeSpan_places (x : Session) (k lm dm : Nat) : Places s (closeSpan s x k lm dm).1 := by
  unfold closeSpan
  dsimp only
  split
  · exact finishSession_places s _
  · exact finishSession_places s _
  · dsimp only
    exact (finishSession_places (State.sweep _ _) _).after (by simp only [sweep_frame, State.setRefSet_ports])

theorem closeSession_places (n : Int) : Places s (closeSession n s).1 := by
  rcases (closeSession_checked s n).cases with ⟨st, h⟩ | ⟨x, -, -, -, h⟩
  · rw [h]; exact .of_eq rfl
  · rw [h]
    split
    · exact closeMeasure_places s _ _ _ _
    · exact closeZero_places s _ _
    · exact closeSpan_places s _ _ _ _

theorem abandonSession_places : Places s (abandonSession s).1 := by
  rcases (abandonSession_checked s).cases with ⟨st, h⟩ | ⟨x, -, h⟩
  · rw [h]; exact .of_eq rfl
  · rw [h]; exact (finishSession_places _ _).after (by simp)

theorem retireAsm_places (a : Nat) : Places s (retireAsm a s).1 := by
  rcases (retireAsm_checked s a).cases with ⟨st, h⟩ | ⟨-, -, -, h⟩
  · rw [h]; exact .of_eq rfl
  · rw [h]
    dsimp only
    split
    · exact .of_eq (by simp)
    · exact (clearStock_places _ _).after (by simp)

/-- A notice to ports C and M. -/
theorem notify_both_places (n : Notice) : Places s ((s.notify .C n).notify .M n) :=
  (notify_places s .C n).trans (notify_places _ .M n)

theorem commitUse_ports (a : Nat) (r : AsmRecord) : (s.commitUse a r).ports = s.ports := by
  unfold State.commitUse
  dsimp only
  split
  · simp
  · split <;> simp

theorem reportUse_places (a c p n : Nat) : Places s (s.reportUse a c p n) := by
  have hwarn : ∀ {t : State} (b : Bool) (r : AsmRecord), Places s t →
      Places s (if b then t.noticeWarning a c p r else t) := fun b r h => by
    cases b
    · exact h
    · exact h.trans (notify_both_places _ _)
  have hexhaust : ∀ {t : State} (b : Bool) (r : AsmRecord), Places s t →
      Places s (if b then (t.noticeExhausted a c p r).autoRequest a c p else t) := fun b r h => by
    cases b
    · exact h
    · exact (h.trans (notify_both_places _ _)).trans (autoRequest_places _ a c p)
  unfold State.reportUse
  exact (hexhaust _ _ (hwarn _ _ (.of_eq (by simp)))).trans (.of_eq (commitUse_ports _ _ _))

theorem usage_places (c p sec n : Nat) : Places s (usage c p sec n s).1 := by
  rcases (usage_checked s c p sec n).cases with ⟨st, h⟩ | ⟨-, -, -, a, t, -, ht, h⟩
  · rw [h]; exact .of_eq rfl
  · rw [h, ht]
    dsimp only
    split
    · exact .of_eq rfl
    · exact reportUse_places s _ _ _ _

theorem acceptOperation_places (d : Nat) (o : Operation) : Places s (s.acceptOperation d o).1 :=
  (kickDriver_places _).after (by simp)

theorem takeOperation_places (d : Nat) (o : Operation) : Places s (s.takeOperation d o).1 :=
  (acceptOperation_places _ d o).after rfl

theorem acceptIssue_places (a c p d : Nat) (b : Bool) : Places s (s.acceptIssue a c p d b).1 := by
  unfold State.acceptIssue
  dsimp only
  split
  · exact .trans ⟨[(_, _)], by simp; rfl⟩ (acceptOperation_places _ _ _)
  · exact .trans ⟨[(_, _)], by simp; rfl⟩ (acceptOperation_places _ _ _)

theorem stockAsm_places (a d : Nat) : Places s (stockAsm a d s).1 := by
  rcases (stockAsm_checked s a d).cases with ⟨st, h⟩ | ⟨-, -, -, -, -, -, -, -, h⟩
  · rw [h]; exact .of_eq rfl
  · rw [h]; exact takeOperation_places s _ _

/-- An assembly names at most one drawer. -/
theorem stock_unique (s : State) (a : Nat) : ∃ d, ∀ e, (s.asm a).stock = some e → e = d :=
  ⟨(s.asm a).stock.getD 0, fun e h => by rw [h]; rfl⟩

/-- The sister rule chooses at most one assembly for a pick entry. -/
theorem sister_unique (s : State) (c p : Nat) : ∃ a, ∀ k, findPick s.picks c p = some k → k.state = .waiting →
    s.chooseSister k.family = some a ∨ s.chooseSister k.family = none := by
  cases hk : findPick s.picks c p with
  | none => exact ⟨0, fun k h => nomatch h⟩
  | some k =>
    refine ⟨(s.chooseSister k.family).getD 0, fun j h _ => ?_⟩
    cases h
    cases s.chooseSister k.family <;> simp

theorem withdrawAsm_places (a : Nat) : Places s (withdrawAsm a s).1 := by
  obtain ⟨d, hd⟩ := stock_unique s a
  rcases (withdrawAsm_checked s a d hd).cases with ⟨st, h⟩ | ⟨-, -, -, -, -, -, -, h⟩
  · rw [h]; exact .of_eq rfl
  · rw [h]; exact takeOperation_places s _ _

theorem returnAsm_places (a d k : Nat) : Places s (returnAsm a d k s).1 := by
  rcases (returnAsm_checked s a d k).cases with ⟨st, h⟩ | ⟨-, -, -, -, -, -, -, -, _, -, h⟩
  · rw [h]; exact .of_eq rfl
  · rw [h]; exact takeOperation_places s _ _

theorem issueAsm_places (a c p : Nat) : Places s (issueAsm a c p s).1 := by
  obtain ⟨d, hd⟩ := stock_unique s a
  rcases (issueAsm_checked s a c p d hd).cases with ⟨st, h⟩ | ⟨-, -, -, -, -, -, -, -, -, -, h⟩
  · rw [h]; exact .of_eq rfl
  · rw [h]; exact acceptIssue_places s _ _ _ _ _

theorem issuePick_places (c p : Nat) : Places s (issuePick c p s).1 := by
  obtain ⟨a, ha⟩ := sister_unique s c p
  obtain ⟨d, hd⟩ := stock_unique s a
  rcases (issuePick_checked s a c p d ha hd).cases with ⟨st, h⟩ | ⟨-, -, -, -, -, -, -, -, -, _, -, -, -, h⟩
  · rw [h]; exact .of_eq rfl
  · rw [h]; exact acceptIssue_places s _ _ _ _ _

theorem cancelDrawer_places (d : Nat) : Places s (cancelDrawer d s).1 := by
  rcases (cancelDrawer_checked s d).cases with ⟨st, h⟩ | ⟨-, ⟨-, h⟩ | ⟨-, h⟩ | ⟨-, h⟩⟩
  · rw [h]; exact .of_eq rfl
  · rw [h]; exact (rollback_places _ _ _).after (by simp)
  · rw [h]; exact (rollback_places _ _ _).after (by simp)
  · rw [h]; exact ((rollback_places _ _ _).after (by simp)).trans (kickDriver_places _)

theorem requestTool_places (c p f : Nat) : Places s (requestTool c p f s).1 := by
  rcases (requestTool_checked s c p f).cases with ⟨st, h⟩ | ⟨-, -, h⟩
  · rw [h]; exact .of_eq rfl
  · rw [h]; exact (notify_places _ _ _).after rfl

theorem withdrawRequest_places (c p : Nat) : Places s (withdrawRequest c p s).1 := by
  rcases (withdrawRequest_checked s c p).cases with ⟨st, h⟩ | ⟨k, -, -, h⟩
  · rw [h]; exact .of_eq rfl
  · rw [h]; exact (notify_places _ _ _).after rfl

theorem actOnLimit_places (n : Nat) : Places s (s.actOnLimit n) := by
  unfold State.actOnLimit
  split
  · exact foldl_places _ expireLock_places _
  · split
    · exact foldl_places _ reportLeftOpen_places _
    · exact .of_eq (by split <;> simp)

theorem setParameter_places (p : Port) (n v : Nat) : Places s (setParameter p n v s).1 := by
  rcases (setParameter_checked s p n v).cases with ⟨st, h⟩ | ⟨-, h⟩
  · rw [h]; exact .of_eq rfl
  · rw [h]
    dsimp only
    split
    · exact .of_eq rfl
    · exact ((actOnLimit_places (s.setParams (s.params.put n (paramStored n v))) n).after rfl).trans (.of_eq (by simp))

/-- A request that takes no notice and does not restart the part only places notices. -/
theorem handler_places (i : Instr) (hnotice : ∀ p, i ≠ .readNotice p) (hrestart : i ≠ .restart) :
    Places s (handler i s).1 := by
  cases i
  case sessionClose n => exact closeSession_places s n
  case sessionAbandon => exact abandonSession_places s
  case retire a => exact retireAsm_places s a
  case stock a d => exact stockAsm_places s a d
  case withdraw a => exact withdrawAsm_places s a
  case issue a c p => exact issueAsm_places s a c p
  case issuePick c p => exact issuePick_places s c p
  case returnTool a d k => exact returnAsm_places s a d k
  case cancelDrawer d => exact cancelDrawer_places s d
  case usage c p sec n => exact usage_places s c p sec n
  case requestTool c p f => exact requestTool_places s c p f
  case withdrawRequest c p => exact withdrawRequest_places s c p
  case setParameter p n v => exact setParameter_places s p n v
  case readNotice p => exact absurd rfl (hnotice p)
  case restart => exact absurd rfl hrestart
  all_goals exact .of_eq (by simp [handler])

/-! ### The kept reply of a RESTART (R187, R194) -/

@[simp] theorem answerWaiting_frame (p : Port) :
    KeepsAtb s (s.answerWaiting p) ∧ (s.answerWaiting p).ocu = s.ocu ∧ KeepsStores s (s.answerWaiting p) ∧
      KeepsCrib s (s.answerWaiting p) ∧ KeepsHob s (s.answerWaiting p) ∧ KeepsMode s (s.answerWaiting p) ∧
      (s.answerWaiting p).pins = s.pins := by
  unfold State.answerWaiting
  split <;> simp

/-- An answer that is not the kept one leaves every keep and every notice queue. -/
@[simp] theorem answer_port (p : Port) (tag : Byte) (a : Answer) (h : a.keep = false) (q : Port) :
    ((s.answer p tag a).port q).keep = (s.port q).keep ∧ ((s.answer p tag a).port q).notices = (s.port q).notices ∧
      ((s.answer p tag a).port q).overflow = (s.port q).overflow := by
  unfold State.answer State.hold
  split
  · simp
  · next hk =>
    rw [State.setPort_port]
    split
    · next e => subst e; simp [h, hk]
    · simp

@[simp] theorem answerWaiting_port (p q : Port) :
    ((s.answerWaiting p).port q).keep = (s.port q).keep ∧
      ((s.answerWaiting p).port q).notices = (s.port q).notices ∧
      ((s.answerWaiting p).port q).overflow = (s.port q).overflow := by
  unfold State.answerWaiting
  split
  · exact answer_port s p _ _ rfl q
  · simp

theorem loadBegin_port (c : Cause) (p : Port) : (s.loadBegin c).port p = State.loadedPort (s.port p) c := by
  cases p <;> rfl

/-- The load that ends a drain leaves every keep, and every notice queue empty. -/
theorem loadBegin_restart_port (p : Port) : ((s.loadBegin .restart).port p).keep = (s.port p).keep ∧
    ((s.loadBegin .restart).port p).notices = [] := by
  rw [loadBegin_port]
  exact ⟨rfl, rfl⟩

theorem endDrain_keep (p : Port) : (s.endDrain.port p).keep = (s.port p).keep := by
  unfold State.endDrain
  split
  · exact (loadBegin_restart_port s p).1
  · rfl

theorem endDrain_noticeLaw {s : State} (h : NoticeLaw s) : NoticeLaw s.endDrain := by
  unfold State.endDrain
  split
  · intro p
    simp [loadBegin_restart_port]
  · exact h

/-- No request changes a keep at its block. -/
theorem handler_keep (i : Instr) (q : Port) : ((handler i s).1.port q).keep = (s.port q).keep := by
  cases i
  case restart =>
    simp only [handler, restart]
    split
    · rfl
    · split
      · rfl
      · simp [endDrain_keep]
  case readNotice p =>
    simp only [handler, readNotice]
    split
    · rfl
    · rw [State.setPort_port]
      split
      · next h => subst h; rfl
      · rfl
  all_goals simp [handler]

/-- A refusal gives way to the next reply. -/
theorem Checked.answer_keep {s : State} {l : List (Bool × Status)} {x : State × Answer} {P : Prop} (h : Checked s l x P)
    (hp : P → x.2.keep = false) : x.2.keep = false := by
  rcases h.cases with ⟨st, h⟩ | h
  · rw [h]; rfl
  · exact hp h

/-- Every answer but that of an accepted RESTART gives way to the next reply. -/
theorem handler_answer_keep (i : Instr) (h : i ≠ .restart) : (handler i s).2.keep = false := by
  have hissue : ∀ a c p b, (s.issueFrom a c p b).2.keep = false := fun a c p b => by
    unfold State.issueFrom
    split <;> rfl
  have hfresh : ∀ j, (s.serveFresh j).2.keep = false := fun j => by
    unfold State.serveFresh
    dsimp only
    repeat' split
    all_goals rfl
  have hslot : ∀ n x b, (s.serveSlot n x b).2.keep = false := fun n x b => by
    unfold State.serveSlot
    split <;> rfl
  cases i
  case restart => exact absurd rfl h
  case issue a c p =>
    simp only [handler, issueAsm]
    repeat' split
    all_goals first | rfl | exact hissue _ _ _ _
  case issuePick c p =>
    simp only [handler, issuePick]
    repeat' split
    all_goals first | rfl | exact hissue _ _ _ _
  case handoff c st n =>
    simp only [handler, handoff]
    repeat' split
    all_goals first | rfl | exact hslot _ _ _ | exact hfresh _
  all_goals
    simp only [handler, measureOpen, addReading, closeSession, closeMeasure, closeZero, closeSpan, abandonSession, zeroOpen,
      spanOpen, selectReference, certifyReference, unlockReference, writeCurve, readReference, registerAsm, retireAsm,
      returnFromRegrind, stockAsm, withdrawAsm, returnAsm, cancelDrawer, clearJam, clearDriver, setLife, writeCell,
      readDrawer, lockRecord, unlockRecord, readRecord, usage, requestTool, withdrawRequest, readCell, readNotice,
      setParameter, State.acceptOperation]
    repeat' split
    all_goals rfl

end Sys2Proof.Machine
end

section
/-! PROOFS. The frame of every event: the transactions of the ports touch the ports alone, the events of the drawers leave the
session and the stores, those of the builder leave all but the Handoff Builder. -/

namespace Sys2Proof.Machine

open Sys2Proof

variable (s : State)

/-! ### Transactions (R189, R192 to R194) -/

/-- What an operation leaves that touches one port alone. -/
theorem frame_of_port {s t : State} {p : Port} (h : t = s.setPort p (t.port p)) :
    KeepsAtb s t ∧ t.ocu = s.ocu ∧ KeepsStores s t ∧ KeepsCrib s t ∧ KeepsHob s t ∧ KeepsMode s t ∧ t.pins = s.pins ∧
      ∀ q, q ≠ p → t.port q = s.port q := by
  refine ⟨keepsAtb_of ?_, ?_, ⟨keepsRfs_of ?_, keepsRst_of ?_⟩, ⟨keepsDrc_of ?_, keepsCoc_of ?_, keepsCtb_of ?_⟩,
    keepsHob_of ?_, ⟨?_, ?_, ?_⟩, ?_, fun q hq => ?_⟩
  case refine_13 => rw [h, State.setPort_port, if_neg hq]
  all_goals rw [h]; rfl

/-- An operation on one port behind another on the same port. -/
theorem port_trans {s t u : State} {p : Port} (h : t = s.setPort p (t.port p)) (h' : u = t.setPort p (u.port p)) :
    u = s.setPort p (u.port p) := by
  rw [h', h]
  cases p <;> rfl

theorem port_self (p : Port) : s = s.setPort p (s.port p) := by
  cases p <;> rfl

theorem setPort_self (p : Port) (x : PortState) : s.setPort p x = s.setPort p ((s.setPort p x).port p) := by
  simp [State.setPort_port]

theorem answer_eq (p : Port) (tag : Byte) (a : Answer) : s.answer p tag a = s.setPort p ((s.answer p tag a).port p) :=
  hold_eq s p _ _

theorem frameArrives_eq (p : Port) (f : Frame) : s.frameArrives p f = s.setPort p ((s.frameArrives p f).port p) := by
  unfold State.frameArrives
  split
  case h_10 => exact setPort_self s p _
  all_goals exact answer_eq s p _ _

/-- The reply that a read of the port shows: the held one, or NOT_READY with the tag of the waiting request or 00h (R194). -/
def PortState.shown (x : PortState) : Reply :=
  match x.buf with
  | .held r => r
  | .pending tag _ => ⟨.notReady, false, tag, .empty⟩
  | .empty => ⟨.notReady, false, 0, .empty⟩

/-- The bytes that data out carries in a read of `n + 1` bytes (R189, R194). -/
def readOut (draw : Nat) (r : Reply) (n : Nat) : List Byte :=
  0xFF :: ((replyFrame draw r ++ List.replicate (n - (replyFrame draw r).length) 0xFF).take n)

/-- A read of at least one byte: data out shows the reply, and a held reply whose last byte was clocked out is gone. -/
theorem readReply_succ (p : Port) (n : Nat) : s.readReply p (n + 1) = s.setPort p { s.port p with
    dataOut := readOut (s.draw p) (s.port p).shown n
    buf := match (s.port p).buf with
      | .held r => if (replyFrame (s.draw p) r).length ≤ n then .empty else .held r
      | b => b
    keep := match (s.port p).buf with
      | .held r => if (replyFrame (s.draw p) r).length ≤ n then false else (s.port p).keep
      | _ => (s.port p).keep } := by
  unfold State.readReply State.drive readOut PortState.shown
  rw [if_neg (Nat.succ_ne_zero n)]
  simp only [Nat.add_sub_cancel, Nat.lt_succ_iff]
  cases hb : (s.port p).buf with
  | held r =>
    dsimp only
    split
    · cases p <;> simp [State.setPort, State.port]
    · rw [← hb]
      rfl
  | pending tag i =>
    dsimp only
    rw [← hb]
    rfl
  | empty =>
    dsimp only
    rw [← hb]
    rfl

theorem readReply_zero (p : Port) : s.readReply p 0 = s := if_pos rfl

theorem readReply_eq (p : Port) (n : Nat) : s.readReply p n = s.setPort p ((s.readReply p n).port p) := by
  cases n with
  | zero => exact port_self s p
  | succ n => rw [readReply_succ]; exact setPort_self s p _

theorem endFrame_eq (p : Port) (l : List Byte) (b : Bool) : s.endFrame p l b = s.setPort p ((s.endFrame p l b).port p) := by
  unfold State.endFrame
  split
  · exact port_self s p
  · split
    · exact readReply_eq s p _
    · dsimp only
      split
      · exact setPort_self s p _
      · exact port_trans (setPort_self s p _) (frameArrives_eq _ p _)

theorem transact_eq (p : Port) (n : Nat) {t : State} (h : t = s.setPort p (t.port p)) :
    s.transact p n t = s.setPort p ((s.transact p n t).port p) := by
  unfold State.transact
  split
  · exact port_self s p
  · split
    · exact port_self s p
    · exact setPort_self s p _
  · exact h

/-- Of a port's interface only buffers, keep, data out and the count of replies change, and no keep begins. -/
def OnlyBuffers (x y : PortState) : Prop :=
  y.notices = x.notices ∧ y.overflow = x.overflow ∧ (x.keep = false → y.keep = false)

theorem onlyBuffers_refl (x : PortState) : OnlyBuffers x x := ⟨rfl, rfl, id⟩

theorem OnlyBuffers.trans {x y z : PortState} (h : OnlyBuffers x y) (h' : OnlyBuffers y z) : OnlyBuffers x z := by
  obtain ⟨hn, ho, hk⟩ := h
  obtain ⟨hn', ho', hk'⟩ := h'
  exact ⟨hn'.trans hn, ho'.trans ho, fun h => hk' (hk h)⟩

theorem drive_onlyBuffers (p : Port) (l : List Byte) : OnlyBuffers (s.port p) ((s.drive p l).port p) := by
  simp [OnlyBuffers, State.drive, State.setPort_port]

theorem answer_onlyBuffers (p : Port) (tag : Byte) (a : Answer) (h : a.keep = false) :
    OnlyBuffers (s.port p) ((s.answer p tag a).port p) := by
  obtain ⟨hkeep, hnotices, hoverflow⟩ := answer_port s p tag a h p
  exact ⟨hnotices, hoverflow, fun hk => hkeep.trans hk⟩

theorem frameArrives_onlyBuffers (p : Port) (f : Frame) : OnlyBuffers (s.port p) ((s.frameArrives p f).port p) := by
  unfold State.frameArrives
  split
  case h_10 => simp [OnlyBuffers, State.setPort_port]
  all_goals exact answer_onlyBuffers s p _ _ rfl

theorem readReply_onlyBuffers (p : Port) (n : Nat) : OnlyBuffers (s.port p) ((s.readReply p n).port p) := by
  cases n with
  | zero => exact onlyBuffers_refl _
  | succ n =>
    rw [readReply_succ, State.setPort_port, if_pos rfl]
    refine ⟨rfl, rfl, fun h => ?_⟩
    dsimp only
    split
    · split
      · rfl
      · exact h
    · exact h

theorem endFrame_onlyBuffers (p : Port) (l : List Byte) (b : Bool) :
    OnlyBuffers (s.port p) ((s.endFrame p l b).port p) := by
  unfold State.endFrame
  split
  · exact onlyBuffers_refl _
  · split
    · exact readReply_onlyBuffers s p _
    · dsimp only
      split
      · exact drive_onlyBuffers s p _
      · exact (drive_onlyBuffers s p _).trans (frameArrives_onlyBuffers _ p _)

theorem transact_onlyBuffers (p : Port) (n : Nat) {t : State} (h : OnlyBuffers (s.port p) (t.port p)) :
    OnlyBuffers (s.port p) ((s.transact p n t).port p) := by
  unfold State.transact
  split
  · exact onlyBuffers_refl _
  · split
    · exact onlyBuffers_refl _
    · exact drive_onlyBuffers s p _
  · exact h

/-- What holds of a transaction of either kind holds because it touches its port alone, and there no notice. -/
theorem transact_frame_eq (p : Port) (l : List Byte) (b : Bool) :
    event s (.requestFrameEnd p l b) = s.setPort p ((event s (.requestFrameEnd p l b)).port p) ∧
      OnlyBuffers (s.port p) ((event s (.requestFrameEnd p l b)).port p) :=
  ⟨transact_eq s p _ (endFrame_eq s p l b), transact_onlyBuffers s p _ (endFrame_onlyBuffers s p l b)⟩

theorem transact_read_eq (p : Port) (n : Nat) : event s (.replyRead p n) = s.setPort p ((event s (.replyRead p n)).port p) ∧
    OnlyBuffers (s.port p) ((event s (.replyRead p n)).port p) :=
  ⟨transact_eq s p _ (readReply_eq s p n), transact_onlyBuffers s p _ (readReply_onlyBuffers s p n)⟩

/-! ### Drawers (Section 4) -/

@[simp] theorem openEvent_frame (d : Nat) : KeepsBesideDrawers s (s.openEvent d) := by
  unfold State.openEvent
  dsimp only
  split <;> simp

/-- What stays when a drawer closes: the session, the Reference Store, the profiles, the mode, the pins, the release queue and
the driver. -/
@[simp] theorem closeEvent_frame (d : Nat) :
    (s.closeEvent d).ocu = s.ocu ∧ KeepsRfs s (s.closeEvent d) ∧ (∀ e, (s.closeEvent d).profile e = s.profile e) ∧
      KeepsMode s (s.closeEvent d) ∧ (s.closeEvent d).pins = s.pins ∧ (s.closeEvent d).drc.queue = s.drc.queue ∧
      (s.closeEvent d).drc.driver = s.drc.driver ∧ OnlyNotices s (s.closeEvent d) := by
  unfold State.closeEvent
  dsimp only
  split <;> simp

/-- What stays whenever a drawer's switch is seen. -/
@[simp] abbrev KeepsBesideSwitches (s t : State) : Prop :=
  t.ocu = s.ocu ∧ KeepsRfs s t ∧ (∀ e, t.profile e = s.profile e) ∧ KeepsMode s t ∧ OnlyNotices s t

@[simp] theorem setDrawer_besideSwitches (d : Nat) (r : Drawer) : KeepsBesideSwitches s (s.setDrawer d r) := by simp

@[simp] theorem seeOpen_frame (d : Nat) : KeepsBesideSwitches s (s.seeOpen d) := by
  unfold State.seeOpen State.whileLoading State.setOpenLevel
  dsimp only
  repeat' split
  all_goals simp

@[simp] theorem seeClose_frame (d : Nat) : KeepsBesideSwitches s (s.seeClose d) := by
  unfold State.seeClose State.whileLoading State.setOpenLevel
  dsimp only
  repeat' split
  all_goals simp

@[simp] theorem seePresence_frame (d : Nat) (b : Bool) : KeepsBesideSwitches s (s.seePresence d b) := by
  unfold State.seePresence State.whileLoading
  dsimp only
  repeat' split
  all_goals simp

@[simp] theorem elapsePulse_frame : KeepsBesideDrawers s s.elapsePulse := by
  unfold State.elapsePulse
  split <;> simp

@[simp] theorem assertSense_frame : KeepsBesideDrawers s s.assertSense := by
  unfold State.assertSense
  dsimp only
  split <;> simp

@[simp] theorem expireWait_frame (d : Nat) : KeepsBesideDrawers s (s.expireWait d) := by
  unfold State.expireWait
  simp

theorem seeOpen_places (d : Nat) : Places s (s.seeOpen d) := by
  unfold State.seeOpen State.whileLoading
  dsimp only
  split
  · split
    · exact .of_eq rfl
    · exact (openEvent_places _ d).after rfl
  · split <;> exact .of_eq rfl

theorem seeClose_places (d : Nat) : Places s (s.seeClose d) := by
  unfold State.seeClose State.whileLoading
  dsimp only
  split
  · split
    · exact (closeEvent_places _ d).after rfl
    · exact .of_eq rfl
  · split <;> exact .of_eq rfl

theorem seePresence_ports (d : Nat) (b : Bool) : (s.seePresence d b).ports = s.ports := by
  unfold State.seePresence State.whileLoading
  dsimp only
  split
  · rfl
  · split <;> rfl

theorem elapsePulse_places : Places s s.elapsePulse := by
  unfold State.elapsePulse
  split
  · exact ((failedAttempt_places _ _).after (by simp)).trans (kickDriver_places _)
  · exact .of_eq rfl

theorem assertSense_places : Places s s.assertSense := by
  unfold State.assertSense
  dsimp only
  split
  · exact ((overcurrentPulse_places _ _).after rfl).trans (kickDriver_places _)
  · exact .of_eq rfl

theorem expireWait_places (d : Nat) : Places s (s.expireWait d) := (kickDriver_places _).after rfl

/-! ### The builder (Section 8) -/

theorem formNext_eq : s.formNext = { s with hob := s.formNext.hob } := by
  unfold State.formNext
  split
  · split <;> rfl
  · rfl

theorem completeSlot_eq : s.completeSlot = { s with hob := s.completeSlot.hob } := by
  unfold State.completeSlot
  split
  · split
    · dsimp only
      rw [kickBuilder_eq]
      split
      · split <;> rfl
      · rfl
    · rfl
  · rfl

theorem completeReadAhead_eq : s.completeReadAhead = { s with hob := s.completeReadAhead.hob } := by
  unfold State.completeReadAhead
  split
  · split
    · dsimp only
      rw [kickBuilder_eq]
      split <;> rfl
    · rfl
  · rfl

/-! ### The Record Store and the phase (Section 9) -/

@[simp] theorem noteCommitted_frame (k : Nat) (v : View) :
    (s.noteCommitted k v).ocu = s.ocu ∧ KeepsStores s (s.noteCommitted k v) ∧ KeepsCrib s (s.noteCommitted k v) ∧
      KeepsHob s (s.noteCommitted k v) ∧ KeepsOutside s (s.noteCommitted k v) := by
  unfold State.noteCommitted
  split
  · split <;> simp
  · simp

/-- A completion writes the page, notes the committed used, queues a redirtied key again, and the engine goes on. -/
theorem completeCommit_cases : (s.rst.flight = none ∧ s.completeCommit = s) ∨ ∃ c q, s.rst.flight = some c ∧
    q = s.rst.queue ++ (if c.redirty = true ∧ c.key ∉ s.rst.queue then [c.key] else []) ∧
    s.completeCommit = ((((s.setPage c.key (.whole c.key c.snapshot)).noteCommitted c.key c.snapshot).setFlight
      none).setCommitQueue q).kickEngine.endDrain := by
  unfold State.completeCommit
  cases h : s.rst.flight with
  | none => exact .inl ⟨rfl, rfl⟩
  | some c =>
    have hq : (((s.setPage c.key (.whole c.key c.snapshot)).noteCommitted c.key c.snapshot).setFlight none).rst.queue =
        s.rst.queue := by simp
    refine .inr ⟨c, _, rfl, rfl, ?_⟩
    dsimp only
    rw [hq]
    split
    · rfl
    · rw [List.append_nil, ← hq]
      rfl

@[simp] theorem interruptCommit_frame (o : PageOutcome) :
    KeepsAtb s (s.interruptCommit o) ∧ (s.interruptCommit o).ocu = s.ocu ∧ KeepsRfs s (s.interruptCommit o) ∧
      KeepsCrib s (s.interruptCommit o) ∧ KeepsHob s (s.interruptCommit o) ∧ KeepsOutside s (s.interruptCommit o) ∧
      (s.interruptCommit o).rst.queue = [] ∧ (s.interruptCommit o).rst.flight = none := by
  unfold State.interruptCommit
  dsimp only
  split
  · simp
  · split <;> simp

theorem enterReset_port (p : Port) : s.enterReset.port p = { s.port p with dataOut := [0xFF] } := by
  cases p <;> rfl

@[simp] theorem enterReset_frame :
    KeepsAtb s s.enterReset ∧ s.enterReset.ocu = s.ocu ∧ KeepsStores s s.enterReset ∧ KeepsCrib s s.enterReset ∧
      KeepsHob s s.enterReset ∧ s.enterReset.params = s.params ∧ s.enterReset.phase = .held ∧
      s.enterReset.pending = s.pending ∧ s.enterReset.pins = s.pins := by
  refine ⟨keepsAtb_of ?_, ?_, ⟨keepsRfs_of ?_, keepsRst_of ?_⟩, ⟨keepsDrc_of ?_, keepsCoc_of ?_, keepsCtb_of ?_⟩,
    keepsHob_of ?_, ?_, ?_, ?_, ?_⟩ <;> rfl

/-! ### The end of the load (R184 to R186) -/

/-- What no cross-check touches: the session, the reference sets, release queue and driver, operations, profiles, pick list,
Handoff Builder, Record Store, and all that is no block. -/
@[simp] abbrev KeepsBesideChecks (s t : State) : Prop :=
  t.ocu = s.ocu ∧ (∀ k, t.refSet k = s.refSet k) ∧ t.drc.queue = s.drc.queue ∧ t.drc.driver = s.drc.driver ∧
    KeepsCoc s t ∧ (∀ c, t.profile c = s.profile c) ∧ t.picks = s.picks ∧ KeepsHob s t ∧ KeepsRst s t ∧ KeepsOutside s t

@[simp] theorem checkReferences_frame : KeepsBesideChecks s s.checkReferences ∧ KeepsRfs s s.checkReferences ∧
    KeepsDrc s s.checkReferences ∧ KeepsCtb s s.checkReferences := by
  refine ⟨⟨rfl, fun _ => rfl, rfl, rfl, keepsCoc_of rfl, fun _ => rfl, rfl, keepsHob_of rfl, keepsRst_of rfl,
    keepsPorts_of rfl, ⟨rfl, rfl, rfl⟩, rfl⟩, keepsRfs_of rfl, keepsDrc_of rfl, keepsCtb_of rfl⟩

@[simp] theorem checkActive_frame : KeepsBesideChecks s s.checkActive ∧ KeepsAtb s s.checkActive ∧
    KeepsDrc s s.checkActive ∧ KeepsCtb s s.checkActive := by
  unfold State.checkActive
  repeat' split
  all_goals simp

@[simp] theorem placeBinding_frame (a : Nat) : KeepsBesideChecks s (s.placeBinding a) ∧ KeepsRfs s (s.placeBinding a) ∧
    KeepsDrc s (s.placeBinding a) := by
  unfold State.placeBinding
  dsimp only
  repeat' split
  all_goals simp [State.setPocket_profile]

@[simp] theorem foldl_placeBinding_frame (l : List Nat) : KeepsBesideChecks s (l.foldl State.placeBinding s) ∧
    KeepsRfs s (l.foldl State.placeBinding s) ∧ KeepsDrc s (l.foldl State.placeBinding s) := by
  induction l generalizing s with
  | nil => simp
  | cons a l ih => simpa using ih (s.placeBinding a)

@[simp] theorem placeBindings_frame : KeepsBesideChecks s s.placeBindings ∧ KeepsRfs s s.placeBindings ∧
    KeepsDrc s s.placeBindings := by
  unfold State.placeBindings
  exact foldl_placeBinding_frame s _

/-- A drawer's state follows its open level, and the mark of a CLOSED one its presence (R89). -/
@[simp] theorem settleDrawers_frame : KeepsBesideChecks s s.settleDrawers ∧ KeepsAtb s s.settleDrawers ∧
    KeepsRfs s s.settleDrawers ∧ KeepsCtb s s.settleDrawers := by
  refine ⟨⟨rfl, fun _ => rfl, rfl, rfl, keepsCoc_of rfl, fun _ => rfl, rfl, keepsHob_of rfl, keepsRst_of rfl,
    keepsPorts_of rfl, ⟨rfl, rfl, rfl⟩, rfl⟩, keepsAtb_of rfl, keepsRfs_of rfl, keepsCtb_of rfl⟩

@[simp] theorem checkDrawerStock_frame (d : Nat) : KeepsBesideChecks s (s.checkDrawerStock d) ∧
    KeepsAtb s (s.checkDrawerStock d) ∧ KeepsRfs s (s.checkDrawerStock d) ∧ KeepsCtb s (s.checkDrawerStock d) := by
  unfold State.checkDrawerStock
  repeat' split
  all_goals simp

@[simp] theorem checkAsmStock_frame (a : Nat) : KeepsBesideChecks s (s.checkAsmStock a) ∧
    KeepsRfs s (s.checkAsmStock a) ∧ KeepsCtb s (s.checkAsmStock a) := by
  unfold State.checkAsmStock
  repeat' split
  all_goals simp

@[simp] theorem foldl_checkDrawerStock_frame (l : List Nat) : KeepsBesideChecks s (l.foldl State.checkDrawerStock s) ∧
    KeepsAtb s (l.foldl State.checkDrawerStock s) ∧ KeepsRfs s (l.foldl State.checkDrawerStock s) ∧
    KeepsCtb s (l.foldl State.checkDrawerStock s) := by
  induction l generalizing s with
  | nil => simp
  | cons d l ih => simpa using ih (s.checkDrawerStock d)

@[simp] theorem foldl_checkAsmStock_frame (l : List Nat) : KeepsBesideChecks s (l.foldl State.checkAsmStock s) ∧
    KeepsRfs s (l.foldl State.checkAsmStock s) ∧ KeepsCtb s (l.foldl State.checkAsmStock s) := by
  induction l generalizing s with
  | nil => simp
  | cons a l ih => simpa using ih (s.checkAsmStock a)

@[simp] theorem checkStock_frame : KeepsBesideChecks s s.checkStock ∧ KeepsRfs s s.checkStock ∧ KeepsCtb s s.checkStock := by
  unfold State.checkStock
  simp

/-- The state behind the cross-checks of the load, in their order (R184). -/
def State.crossChecked (s : State) : State := s.checkReferences.checkActive.placeBindings.settleDrawers.checkStock

/-- The keys of the records that a cross-check changed. -/
def State.checkedKeys (s : State) : List Nat :=
  s.changedKeys s.checkReferences ++ s.checkReferences.changedKeys s.checkReferences.checkActive ++
    s.checkReferences.checkActive.changedKeys s.checkReferences.checkActive.placeBindings ++
    s.checkReferences.checkActive.placeBindings.changedKeys s.checkReferences.checkActive.placeBindings.settleDrawers ++
    s.checkReferences.checkActive.placeBindings.settleDrawers.changedKeys s.crossChecked

/-- The keys that the end of the load queues, in ascending order (R186). -/
def State.loadKeys (s : State) : List Nat :=
  (List.range 598).filter fun k => decide (k ∈ s.failedKeys) || decide (k ∈ s.checkedKeys)

/-- STARTED as the load's end forms it (Table 9.5). -/
def State.loadNotice (s : State) (c : Cause) : Notice := .started (State.startedNotice c s.failedKeys s.loadKeys)

@[simp] theorem crossChecked_frame : KeepsBesideChecks s s.crossChecked := by
  unfold State.crossChecked
  simp

/-- STARTED to each port, port C's kept reply kept no longer, and normal operation (R186, R194). -/
def State.announce (s : State) (n : Notice) : State :=
  ((((s.notify .P n).notify .C n).notify .M n).setPort .C
    { (((s.notify .P n).notify .C n).notify .M n).port .C with keep := false }).setPhase .running

@[simp] theorem notify_port (p : Port) (n : Notice) (q : Port) :
    (s.notify p n).port q = if p = q then (s.port q).place n else s.port q := by
  rw [notify_eq, State.setPort_port]
  by_cases e : q = p
  · subst e
    unfold PortState.place
    by_cases h : (s.port q).notices.length < 16
    · simp [h]
    · simp [h, Nat.not_lt.mp h]
  · rw [if_neg e, if_neg (Ne.symm e)]

theorem announce_def (n : Notice) : ((((s.notify .P n).notify .C n).notify .M n).setPort .C
    { (((s.notify .P n).notify .C n).notify .M n).port .C with keep := false }).setPhase .running = s.announce n := rfl

/-- The end of the load: the cross-checks, the keys queued and the first of them taken, and the part announced. -/
theorem loadEnd_eq (c : Cause) :
    s.loadEnd c = (s.crossChecked.setCommitQueue s.loadKeys).kickEngine.announce (s.loadNotice c) := by
  unfold State.loadEnd State.loadNotice State.loadKeys State.checkedKeys State.crossChecked
  dsimp only
  simp only [announce_def]

@[simp] theorem announce_frame (n : Notice) : KeepsAtb s (s.announce n) ∧ (s.announce n).ocu = s.ocu ∧
    KeepsStores s (s.announce n) ∧ KeepsCrib s (s.announce n) ∧ KeepsHob s (s.announce n) ∧
    (s.announce n).params = s.params ∧ (s.announce n).phase = .running ∧ (s.announce n).pending = s.pending ∧
    (s.announce n).pins = s.pins := by
  unfold State.announce
  simp

/-- STARTED reaches each port, and port C's kept reply is kept no longer (R186, R194). -/
theorem announce_port (n : Notice) (p : Port) :
    (s.announce n).port p = { (s.port p).place n with keep := if p = .C then false else (s.port p).keep } := by
  have hkeep : ∀ x : PortState, (x.place n).keep = x.keep := fun x => by
    unfold PortState.place
    split <;> rfl
  unfold State.announce
  show (State.setPort _ .C _).port p = _
  rw [State.setPort_port]
  cases p
  · rw [if_neg (by decide), if_neg (by decide), ← hkeep (s.port .P) ]
    simp
  · simp
  · rw [if_neg (by decide), if_neg (by decide), ← hkeep (s.port .M)]
    simp

/-- Keys queued, the first of them taken, and the part announced: what stays. -/
theorem announced_frame (k : List Nat) (n : Notice) :
    KeepsAtb s ((s.setCommitQueue k).kickEngine.announce n) ∧ ((s.setCommitQueue k).kickEngine.announce n).ocu = s.ocu ∧
    KeepsRfs s ((s.setCommitQueue k).kickEngine.announce n) ∧ KeepsDrc s ((s.setCommitQueue k).kickEngine.announce n) ∧
    KeepsCoc s ((s.setCommitQueue k).kickEngine.announce n) ∧ KeepsCtb s ((s.setCommitQueue k).kickEngine.announce n) ∧
    KeepsHob s ((s.setCommitQueue k).kickEngine.announce n) ∧
    ((s.setCommitQueue k).kickEngine.announce n).rst = (s.setCommitQueue k).kickEngine.rst ∧
    ((s.setCommitQueue k).kickEngine.announce n).params = s.params ∧
    ((s.setCommitQueue k).kickEngine.announce n).phase = .running ∧
    ((s.setCommitQueue k).kickEngine.announce n).pending = s.pending ∧
    ((s.setCommitQueue k).kickEngine.announce n).pins = s.pins ∧
    ∀ p, ((s.setCommitQueue k).kickEngine.announce n).port p = (s.announce n).port p := by
  refine ⟨?_, ?_, ?_, ?_, ?_, ?_, ?_, ?_, ?_, ?_, ?_, ?_, fun p => ?_⟩
  iterate 12 simp
  rw [announce_port, announce_port]
  simp

/-- What the end of the load leaves beyond the cross-checks. -/
theorem loadEnd_frame (c : Cause) : KeepsAtb s.crossChecked (s.loadEnd c) ∧ (s.loadEnd c).ocu = s.crossChecked.ocu ∧
    KeepsRfs s.crossChecked (s.loadEnd c) ∧ KeepsDrc s.crossChecked (s.loadEnd c) ∧
    KeepsCoc s.crossChecked (s.loadEnd c) ∧
    KeepsCtb s.crossChecked (s.loadEnd c) ∧ KeepsHob s.crossChecked (s.loadEnd c) ∧
    (s.loadEnd c).rst = (s.crossChecked.setCommitQueue s.loadKeys).kickEngine.rst ∧
    (s.loadEnd c).params = s.crossChecked.params ∧ (s.loadEnd c).phase = .running ∧
    (s.loadEnd c).pending = s.crossChecked.pending ∧ (s.loadEnd c).pins = s.crossChecked.pins ∧
    ∀ p, (s.loadEnd c).port p = (s.crossChecked.announce (s.loadNotice c)).port p := by
  rw [loadEnd_eq]
  exact announced_frame _ _ _

theorem loadEnd_port (c : Cause) (p : Port) : (s.loadEnd c).port p =
    { (s.port p).place (s.loadNotice c) with keep := if p = .C then false else (s.port p).keep } := by
  obtain ⟨-, -, -, -, -, -, -, -, -, -, -, -, hport⟩ := loadEnd_frame (s := s) c
  rw [hport, announce_port]
  simp

end Sys2Proof.Machine
end

section
/-! PROOFS. Every step keeps the bounds of the lists of the part: notices, the keep of a RESTART reply, readings and pick
entries. -/

namespace Sys2Proof.Machine

open Sys2Proof

variable {s t : State}

/-! ### Notices (R197) -/

theorem answer_notices (s : State) (p : Port) (tag : Byte) (a : Answer) (q : Port) :
    ((s.answer p tag a).port q).notices = (s.port q).notices := by
  unfold State.answer State.hold
  split
  · rfl
  · rw [State.setPort_port]
    split
    · next e => subst e; rfl
    · rfl

theorem noticeLaw_of_notices (h : ∀ p, (t.port p).notices = (s.port p).notices) (hs : NoticeLaw s) : NoticeLaw t :=
  fun p => by rw [h]; exact hs p

theorem handler_noticeLaw (i : Instr) (hs : NoticeLaw s) : NoticeLaw (handler i s).1 := by
  by_cases hrestart : i = .restart
  · subst hrestart
    simp only [handler, restart]
    split
    · exact hs
    · split
      · exact hs
      · exact endDrain_noticeLaw (noticeLaw_of_notices (fun p => by simp) hs)
  · by_cases hnotice : ∃ p, i = .readNotice p
    · obtain ⟨p, rfl⟩ := hnotice
      intro q
      simp only [handler, readNotice]
      split
      · exact hs q
      · next n l h =>
        rw [State.setPort_port]
        split
        · have := hs p
          rw [h, List.length_cons] at this
          exact Nat.le_of_succ_le this
        · exact hs q
    · exact (handler_places s i (fun p h => hnotice ⟨p, h⟩) hrestart).noticeLaw hs

theorem loadBegin_noticeLaw (s : State) (c : Cause) : NoticeLaw (s.loadBegin c) := fun p => by
  rw [loadBegin_port]
  cases c <;> exact Nat.zero_le _

theorem enterReset_noticeLaw (hs : NoticeLaw s) : NoticeLaw s.enterReset :=
  noticeLaw_of_notices (fun p => by rw [enterReset_port]) hs

/-- What touches one port's buffers alone keeps the bound of 16 notices a port. -/
theorem OnlyBuffers.noticeLaw {p : Port} (h : t = s.setPort p (t.port p)) (hb : OnlyBuffers (s.port p) (t.port p))
    (hs : NoticeLaw s) : NoticeLaw t := by
  obtain ⟨-, -, -, -, -, -, -, hq⟩ := frame_of_port h
  refine noticeLaw_of_notices (fun q => ?_) hs
  by_cases e : q = p
  · subst e
    exact hb.1
  · rw [hq q e]

theorem place_length {x : PortState} (n : Notice) (h : x.notices.length ≤ 16) : (x.place n).notices.length ≤ 16 := by
  unfold PortState.place
  split
  · next hlt =>
    rw [List.length_append]
    exact hlt
  · exact h

@[simp] theorem setResetInput_frame (s : State) (b : Bool) :
    KeepsAtb s (s.setResetInput b) ∧ (s.setResetInput b).ocu = s.ocu ∧ KeepsStores s (s.setResetInput b) ∧
      KeepsCrib s (s.setResetInput b) ∧ KeepsHob s (s.setResetInput b) ∧ KeepsPorts s (s.setResetInput b) ∧
      KeepsMode s (s.setResetInput b) := by
  unfold State.setResetInput
  simp

/-- The reset input asserted: a part without power or held already takes the level alone (R182). -/
theorem assertReset_cases (s : State) (o : PageOutcome) :
    ((s.phase = .off ∨ s.phase = .held) ∧ s.assertReset o = s.setResetInput true) ∨
      (s.phase ≠ .off ∧ s.phase ≠ .held ∧ s.assertReset o = ((s.setResetInput true).interruptCommit o).enterReset) := by
  unfold State.assertReset
  cases h : s.phase <;> simp

/-- LOAD_END ends the load in progress, and is nothing where there is none. -/
theorem finishLoad_cases (s : State) : (∃ c, s.phase = .load c ∧ s.finishLoad = s.loadEnd c) ∨
    ((∀ c, s.phase ≠ .load c) ∧ s.finishLoad = s) := by
  unfold State.finishLoad
  cases h : s.phase <;> simp

/-- Every event keeps the bound of 16 notices a port. -/
theorem event_noticeLaw (i : Instr) (hs : NoticeLaw s) : NoticeLaw (event s i) := by
  cases i
  case requestFrameEnd p l b => exact (transact_frame_eq s p l b).2.noticeLaw (transact_frame_eq s p l b).1 hs
  case replyRead p n => exact (transact_read_eq s p n).2.noticeLaw (transact_read_eq s p n).1 hs
  case openSeen d => exact (seeOpen_places s d).noticeLaw hs
  case closeSeen d => exact (seeClose_places s d).noticeLaw hs
  case presenceLevelChange d b => exact noticeLaw_of_ports (seePresence_ports s d b) hs
  case pulseWidthElapsed => exact keeps_ite hs fun _ => (elapsePulse_places s).noticeLaw hs
  case overcurrent => exact (assertSense_places s).noticeLaw hs
  case waitExpiry d => exact keeps_ite hs fun _ => (expireWait_places s d).noticeLaw hs
  case openTimeExpiry d => exact keeps_ite hs fun _ => (reportLeftOpen_places s d).noticeLaw hs
  case lockExpiry a => exact keeps_ite hs fun _ => (expireLock_places s a).noticeLaw hs
  case discardExpiry n => exact keeps_ite hs fun _ => noticeLaw_of_ports rfl hs
  case entryFormation => exact keeps_ite hs fun _ => noticeLaw_of_ports (by rw [formNext_eq]) hs
  case slotBuildCompletion => exact keeps_ite hs fun _ => noticeLaw_of_ports (by rw [completeSlot_eq]) hs
  case readAheadBuildCompletion => exact keeps_ite hs fun _ => noticeLaw_of_ports (by rw [completeReadAhead_eq]) hs
  case commitCompletion =>
    refine keeps_ite hs fun _ => ?_
    rcases completeCommit_cases s with ⟨-, h⟩ | ⟨c, q, -, -, h⟩
    · rw [h]; exact hs
    · rw [h]; exact endDrain_noticeLaw (noticeLaw_of_ports (by simp) hs)
  case powerOn => exact keeps_ite hs fun _ => keeps_ite (loadBegin_noticeLaw s _) fun _ => enterReset_noticeLaw hs
  case powerLoss o =>
    exact keeps_ite (noticeLaw_of_ports (by simp) hs) fun _ => hs
  case resetInputAsserted o =>
    show NoticeLaw (s.assertReset o)
    rcases assertReset_cases s o with ⟨-, h⟩ | ⟨-, -, h⟩
    · rw [h]; exact noticeLaw_of_ports rfl hs
    · rw [h]
      exact enterReset_noticeLaw (noticeLaw_of_ports (by simp) hs)
  case resetInputReleased =>
    exact keeps_ite (noticeLaw_of_ports rfl hs) fun _ => loadBegin_noticeLaw _ _
  case loadEnd =>
    rcases finishLoad_cases s with ⟨c, -, h⟩ | ⟨-, h⟩
    · show NoticeLaw s.finishLoad
      rw [h]
      intro p
      rw [loadEnd_port]
      exact place_length _ (hs p)
    · show NoticeLaw s.finishLoad
      rw [h]; exact hs
  all_goals exact hs

end Sys2Proof.Machine
end

section
/-! PROOFS. Every step keeps the keep of a RESTART reply at port C, and off while the part is in normal operation. -/

namespace Sys2Proof.Machine

open Sys2Proof

variable {s t : State}

/-! ### The keep of a RESTART reply (R194) -/

theorem keepLaw_of_keep (hk : ∀ p, (t.port p).keep = (s.port p).keep) (hphase : t.phase = .running → s.phase = .running)
    (hs : KeepLaw s) : KeepLaw t := by
  obtain ⟨hp, hm, hc⟩ := hs
  exact ⟨by rw [hk, hp], by rw [hk, hm], fun h => by rw [hk, hc (hphase h)]⟩

/-- Where every keep is clear the law holds. -/
theorem keepLaw_of_clear (h : ∀ p, (t.port p).keep = false) : KeepLaw t := ⟨h .P, h .M, fun _ => h .C⟩

theorem keepLaw_answer (p : Port) (tag : Byte) (a : Answer) (ha : a.keep = false) (hs : KeepLaw s) :
    KeepLaw (s.answer p tag a) :=
  keepLaw_of_keep (fun q => (answer_port s p tag a ha q).1) (fun h => by simpa using h) hs

/-- No answer at one port touches the keep of another. -/
theorem answer_keep_other (s : State) (p : Port) (tag : Byte) (a : Answer) {q : Port} (h : q ≠ p) :
    ((s.answer p tag a).port q).keep = (s.port q).keep := by
  unfold State.answer State.hold
  split
  · rfl
  · rw [State.setPort_port, if_neg h]

theorem loadBegin_phase (s : State) (c : Cause) : (s.loadBegin c).phase = .load c := rfl

/-- An accepted RESTART, whose reply is kept, leaves normal operation (R187). -/
theorem restart_phase (s : State) (h : (restart s).2.keep = true) : (restart s).1.phase ≠ .running := by
  unfold restart at h ⊢
  split
  · next hocu => rw [if_pos hocu] at h; cases h
  · next hocu =>
    rw [if_neg hocu] at h
    split
    · next hd => rw [hd] at h; cases h
    · show State.phase (State.endDrain _) ≠ .running
      unfold State.endDrain
      split
      · rw [loadBegin_phase]; exact Phase.noConfusion
      · simp

/-- A request that is served keeps the law of the kept reply. -/
theorem serve_keepLaw {p : Port} {i : Instr} (hi : requestPort i = some p) (hs : KeepLaw s) :
    KeepLaw (s.serve p i (handler i)) := by
  have htake : ∀ tag, s.phase = .running → KeepLaw (s.take p i tag (handler i)) := by
    intro tag hrun
    have hkeep : ∀ q, ((handler i (s.touchNamed p i)).1.port q).keep = (s.port q).keep := fun q => by
      rw [handler_keep]; simp
    obtain ⟨hp, hm, hc⟩ := hs
    have hclear : KeepLaw (handler i (s.touchNamed p i)).1 :=
      ⟨by rw [hkeep, hp], by rw [hkeep, hm], fun _ => by rw [hkeep, hc hrun]⟩
    unfold State.take
    by_cases hr : i = .restart
    · subst hr
      cases hi
      cases ha : (handler .restart (s.touchNamed .C .restart)).2.keep with
      | false => exact keepLaw_answer _ _ _ ha hclear
      | true =>
        have hphase := restart_phase _ ha
        refine ⟨?_, ?_, fun h => absurd ?_ hphase⟩
        · rw [answer_keep_other _ _ _ _ (by decide)]; exact hclear.1
        · rw [answer_keep_other _ _ _ _ (by decide)]; exact hclear.2.1
        · simpa [handler] using h
    · exact keepLaw_answer _ _ _ (handler_answer_keep _ i hr) hclear
  unfold State.serve
  split
  · next hrun =>
    split
    · exact keeps_ite hs fun _ => htake _ hrun
    · exact keeps_ite (keepLaw_answer _ _ _ rfl hs) fun _ => htake _ hrun
  · exact keepLaw_answer _ _ _ rfl hs
  · exact keepLaw_answer _ _ _ rfl hs
  · exact hs
  · exact hs

/-- What only places notices keeps the law of the kept reply. -/
theorem keepLaw_of_frame (hn : OnlyNotices s t) (hm : KeepsMode s t) (hs : KeepLaw s) : KeepLaw t :=
  keepLaw_of_keep hn.2.1 (fun h => hm.2.1 ▸ h) hs

theorem loadBegin_keepLaw (c : Cause) (hs : KeepLaw s) : KeepLaw (s.loadBegin c) := by
  cases c with
  | restart => exact keepLaw_of_keep (fun p => (loadBegin_restart_port s p).1) (fun h => nomatch h) hs
  | powerOn => exact keepLaw_of_clear fun p => by rw [loadBegin_port]; rfl
  | resetInput => exact keepLaw_of_clear fun p => by rw [loadBegin_port]; rfl

theorem enterReset_keepLaw (hs : KeepLaw s) : KeepLaw s.enterReset :=
  keepLaw_of_keep (fun p => by rw [enterReset_port]) (fun h => nomatch h) hs

theorem endDrain_keepLaw (hs : KeepLaw s) : KeepLaw s.endDrain := keeps_ite hs fun _ => loadBegin_keepLaw _ hs

theorem loadEnd_keepLaw (c : Cause) (hs : KeepLaw s) : KeepLaw (s.loadEnd c) := by
  obtain ⟨hp, hm, -⟩ := hs
  exact ⟨by rw [loadEnd_port]; exact hp, by rw [loadEnd_port]; exact hm, fun _ => by rw [loadEnd_port]; rfl⟩

theorem OnlyBuffers.keepLaw {p : Port} (h : t = s.setPort p (t.port p)) (hb : OnlyBuffers (s.port p) (t.port p))
    (hs : KeepLaw s) : KeepLaw t := by
  obtain ⟨-, -, -, -, -, ⟨-, hphase, -⟩, -, hq⟩ := frame_of_port h
  have hkeep : ∀ q, (s.port q).keep = false → (t.port q).keep = false := fun q hk => by
    by_cases e : q = p
    · subst e; exact hb.2.2 hk
    · rw [hq q e]; exact hk
  obtain ⟨hp, hm, hc⟩ := hs
  exact ⟨hkeep _ hp, hkeep _ hm, fun hrun => hkeep _ (hc (hphase ▸ hrun))⟩

/-- Every event keeps the law of the kept reply. -/
theorem event_keepLaw (i : Instr) (hs : KeepLaw s) : KeepLaw (event s i) := by
  cases i
  case requestFrameEnd p l b => exact (transact_frame_eq s p l b).2.keepLaw (transact_frame_eq s p l b).1 hs
  case replyRead p n => exact (transact_read_eq s p n).2.keepLaw (transact_read_eq s p n).1 hs
  case openSeen d => exact keepLaw_of_frame (t := s.seeOpen d) (by simp) (by simp) hs
  case closeSeen d => exact keepLaw_of_frame (t := s.seeClose d) (by simp) (by simp) hs
  case presenceLevelChange d b => exact keepLaw_of_frame (t := s.seePresence d b) (by simp) (by simp) hs
  case pulseWidthElapsed => exact keeps_ite hs fun _ => keepLaw_of_frame (by simp) (by simp) hs
  case overcurrent => exact keepLaw_of_frame (t := s.assertSense) (by simp) (by simp) hs
  case waitExpiry d => exact keeps_ite hs fun _ => keepLaw_of_frame (by simp) (by simp) hs
  case openTimeExpiry d => exact keeps_ite hs fun _ => keepLaw_of_frame (by simp) (by simp) hs
  case lockExpiry a => exact keeps_ite hs fun _ => keepLaw_of_frame (by simp) (by simp) hs
  case discardExpiry n => exact keeps_ite hs fun _ => hs
  case entryFormation =>
    exact keeps_ite hs fun _ => keepLaw_of_keep (fun p => by rw [formNext_eq]; rfl) (fun h => by rwa [formNext_eq] at h) hs
  case slotBuildCompletion =>
    exact keeps_ite hs fun _ => keepLaw_of_keep (fun p => by rw [completeSlot_eq]; rfl)
      (fun h => by rwa [completeSlot_eq] at h) hs
  case readAheadBuildCompletion =>
    exact keeps_ite hs fun _ => keepLaw_of_keep (fun p => by rw [completeReadAhead_eq]; rfl)
      (fun h => by rwa [completeReadAhead_eq] at h) hs
  case commitCompletion =>
    refine keeps_ite hs fun _ => ?_
    rcases completeCommit_cases s with ⟨-, h⟩ | ⟨c, q, -, -, h⟩
    · rw [h]; exact hs
    · rw [h]; exact endDrain_keepLaw (keepLaw_of_keep (fun p => by simp) (fun h => by simpa using h) hs)
  case powerOn => exact keeps_ite hs fun _ => keeps_ite (loadBegin_keepLaw _ hs) fun _ => enterReset_keepLaw hs
  case powerLoss o =>
    exact keeps_ite (keepLaw_of_keep (fun p => by simp) (fun h => nomatch h) hs) fun _ => hs
  case resetInputAsserted o =>
    show KeepLaw (s.assertReset o)
    rcases assertReset_cases s o with ⟨-, h⟩ | ⟨-, -, h⟩
    · rw [h]; exact keepLaw_of_keep (fun p => rfl) id hs
    · rw [h]
      exact enterReset_keepLaw (keepLaw_of_keep (fun p => by simp) (fun h => by simpa using h) hs)
  case resetInputReleased =>
    exact keeps_ite (keepLaw_of_keep (fun p => rfl) id hs) fun _ =>
      loadBegin_keepLaw _ (keepLaw_of_keep (s := s) (fun p => rfl) id hs)
  case loadEnd =>
    show KeepLaw s.finishLoad
    rcases finishLoad_cases s with ⟨c, -, h⟩ | ⟨-, h⟩
    · rw [h]; exact loadEnd_keepLaw c hs
    · rw [h]; exact hs
  all_goals exact hs

theorem tick_keepLaw (hs : KeepLaw s) : KeepLaw s.tick :=
  keeps_ite hs fun _ => keepLaw_of_keep (s := s) (fun _ => rfl) id hs

/-- Every step keeps the law of the kept reply. -/
theorem step_keepLaw (h : step s = .next t) (hs : KeepLaw s) : KeepLaw t :=
  step_keeps (L := KeepLaw) (fun _ _ h => h) (fun _ => tick_keepLaw) (fun _ _ _ hi => serve_keepLaw hi)
    (fun _ i _ => event_keepLaw i) h hs

/-! ### The bound of a notice queue (R197) -/

/-- Every step keeps the bound of 16 notices a port. -/
theorem step_noticeLaw (h : step s = .next t) (hs : NoticeLaw s) : NoticeLaw t :=
  step_keeps (L := NoticeLaw) (fun _ _ h => h) (fun _ hs => keeps_ite hs fun _ => noticeLaw_of_ports rfl hs)
    (fun _ p i _ => serve_keeps (fun s tag a => noticeLaw_of_notices (answer_notices s p tag a))
      (fun s => noticeLaw_of_notices fun q => by simp) fun _ _ => handler_noticeLaw i)
    (fun _ i _ => event_noticeLaw i) h hs

end Sys2Proof.Machine
end

section
/-! PROOFS. Every step keeps the bounds of the reading list and of the pick list; with the laws of the notices and of the kept
reply these are the list laws. -/

namespace Sys2Proof.Machine

open Sys2Proof

variable {s t : State}

/-! ### The reading list (R25, R31) -/

theorem readingLaw_of_ocu (h : t.ocu = none ∨ t.ocu = s.ocu) (hs : ReadingLaw s) : ReadingLaw t := fun x hx => by
  rcases h with h | h
  · rw [h] at hx; cases hx
  · exact hs x (h ▸ hx)

/-- A session that opens has an empty reading list. -/
theorem readingLaw_opened {x : Session} (hx : t.ocu = some x) (hl : x.readings = []) : ReadingLaw t := fun y hy => by
  rw [hx] at hy
  cases hy
  rw [hl]
  exact ⟨Nat.zero_le _, fun r hr => nomatch hr⟩

/-- An expired lock ends the session or leaves it. -/
theorem expireLock_ocu (s : State) (a : Nat) : (s.expireLock a).ocu = none ∨ (s.expireLock a).ocu = s.ocu := by
  unfold State.expireLock
  split
  · exact .inr rfl
  · dsimp only
    split
    · split <;> simp
    · simp

theorem foldl_expireLock_ocu (l : List Nat) (s : State) :
    (l.foldl State.expireLock s).ocu = none ∨ (l.foldl State.expireLock s).ocu = s.ocu := by
  induction l generalizing s with
  | nil => exact .inr rfl
  | cons a l ih =>
    rcases ih (s.expireLock a) with h | h
    · exact .inl h
    · rcases expireLock_ocu s a with h' | h'
      · exact .inl (h.trans h')
      · exact .inr (h.trans h')

theorem setParameter_ocu (p : Port) (n v : Nat) (s : State) :
    (setParameter p n v s).1.ocu = none ∨ (setParameter p n v s).1.ocu = s.ocu := by
  rcases (setParameter_checked s p n v).cases with ⟨st, h⟩ | ⟨-, h⟩
  · rw [h]; exact .inr rfl
  · rw [h]
    dsimp only
    split
    · exact .inr rfl
    · rw [(dirty_frame _ _).2.1]
      unfold State.actOnLimit
      split
      · simpa using foldl_expireLock_ocu _ (s.setParams _)
      · split
        · simp
        · split <;> simp

/-- Only the four requests that open a session or read leave a session other than it was. -/
theorem handler_ocu (i : Instr) (s : State) (hm : ∀ a, i ≠ .measureOpen a) (hr : ∀ z x, i ≠ .reading z x)
    (hz : ∀ k, i ≠ .zeroOpen k) (hs : ∀ k l d, i ≠ .spanOpen k l d) :
    (handler i s).1.ocu = none ∨ (handler i s).1.ocu = s.ocu := by
  cases i
  case measureOpen a => exact absurd rfl (hm a)
  case reading z x => exact absurd rfl (hr z x)
  case zeroOpen k => exact absurd rfl (hz k)
  case spanOpen k l d => exact absurd rfl (hs k l d)
  case sessionClose n => exact closeSession_ocu s n
  case sessionAbandon =>
    rcases (abandonSession_checked s).cases with ⟨st, h⟩ | ⟨x, -, h⟩
    · exact .inr (by simp only [handler, h])
    · exact .inl (by simp [handler, h])
  case restart =>
    simp only [handler, restart]
    split
    · exact .inr rfl
    · split
      · exact .inr rfl
      · unfold State.endDrain
        split
        · exact .inl rfl
        · exact .inr (by simp)
  case setParameter p n v => exact setParameter_ocu p n v s
  all_goals exact .inr (by simp [handler])

theorem handler_readingLaw (i : Instr) (hs : ReadingLaw s) : ReadingLaw (handler i s).1 := by
  by_cases hm : ∃ a, i = .measureOpen a
  · obtain ⟨a, rfl⟩ := hm
    rcases (measureOpen_checked s a).cases with ⟨st, h⟩ | ⟨-, -, -, pr, k, -, -, h⟩
    · exact readingLaw_of_ocu (.inr (by simp only [handler, h])) hs
    · exact readingLaw_opened (x := ⟨.measure a k, []⟩) (by simp [handler, h]) rfl
  · by_cases hr : ∃ z x, i = .reading z x
    · obtain ⟨z, x, rfl⟩ := hr
      rcases (addReading_checked s z x).cases with ⟨st, h⟩ | ⟨n, hn, hz, hx, hlen, h⟩
      · exact readingLaw_of_ocu (.inr (by simp only [handler, h])) hs
      · intro y hy
        obtain ⟨-, hrange⟩ := hs n hn
        simp only [handler, h, State.setSession_ocu, Option.some.injEq] at hy
        subst hy
        refine ⟨by simp only [List.length_append, List.length_singleton]; omega, fun r hr => ?_⟩
        rcases List.mem_append.mp hr with hr | hr
        · exact hrange r hr
        · rw [List.mem_singleton] at hr
          subst hr
          exact ⟨hz, hx⟩
    · by_cases hz : ∃ k, i = .zeroOpen k
      · obtain ⟨k, rfl⟩ := hz
        rcases (zeroOpen_checked s k).cases with ⟨st, h⟩ | ⟨-, -, -, h⟩
        · exact readingLaw_of_ocu (.inr (by simp only [handler, h])) hs
        · exact readingLaw_opened (x := ⟨.zero k, []⟩) (by simp [handler, h]) rfl
      · by_cases hp : ∃ k l d, i = .spanOpen k l d
        · obtain ⟨k, l, d, rfl⟩ := hp
          rcases (spanOpen_checked s k l d).cases with ⟨st, h⟩ | ⟨-, -, -, h⟩
          · exact readingLaw_of_ocu (.inr (by simp only [handler, h])) hs
          · exact readingLaw_opened (x := ⟨.span k l d, []⟩) (by simp [handler, h]) rfl
        · exact readingLaw_of_ocu (handler_ocu i s (fun a h => hm ⟨a, h⟩) (fun z x h => hr ⟨z, x, h⟩)
            (fun k h => hz ⟨k, h⟩) fun k l d h => hp ⟨k, l, d, h⟩) hs

/-- An event ends the session or leaves it. -/
theorem event_ocu (s : State) (i : Instr) : (event s i).ocu = none ∨ (event s i).ocu = s.ocu := by
  have hif : ∀ (c : Bool) (x y : State), x.ocu = none ∨ x.ocu = s.ocu → y.ocu = none ∨ y.ocu = s.ocu →
      (if c then x else y).ocu = none ∨ (if c then x else y).ocu = s.ocu := fun c x y hx hy => by
    cases c
    · exact hy
    · exact hx
  have hself : s.ocu = none ∨ s.ocu = s.ocu := .inr rfl
  cases i
  case requestFrameEnd p l b => exact .inr (frame_of_port (transact_frame_eq s p l b).1).2.1
  case replyRead p n => exact .inr (frame_of_port (transact_read_eq s p n).1).2.1
  case openSeen d => exact .inr (seeOpen_frame s d).1
  case closeSeen d => exact .inr (seeClose_frame s d).1
  case presenceLevelChange d b => exact .inr (seePresence_frame s d b).1
  case pulseWidthElapsed => exact hif _ _ _ (.inr (by simp)) hself
  case overcurrent => exact .inr (assertSense_frame s).1
  case waitExpiry d => exact hif _ _ _ (.inr (by simp)) hself
  case openTimeExpiry d => exact hif _ _ _ (.inr (by simp)) hself
  case lockExpiry a => exact hif _ _ _ (expireLock_ocu s a) hself
  case discardExpiry n => exact hif _ _ _ (.inr rfl) hself
  case entryFormation => exact hif _ _ _ (.inr (by rw [formNext_eq])) hself
  case slotBuildCompletion => exact hif _ _ _ (.inr (by rw [completeSlot_eq])) hself
  case readAheadBuildCompletion => exact hif _ _ _ (.inr (by rw [completeReadAhead_eq])) hself
  case commitCompletion =>
    refine hif _ _ _ ?_ hself
    rcases completeCommit_cases s with ⟨-, h⟩ | ⟨c, q, -, -, h⟩
    · rw [h]; exact hself
    · rw [h]
      unfold State.endDrain
      split
      · exact .inl rfl
      · exact .inr (by simp)
  case powerOn =>
    show (s.powerOn).ocu = none ∨ (s.powerOn).ocu = s.ocu
    unfold State.powerOn
    split
    · split
      · exact .inr (by simp)
      · exact .inl rfl
    · exact hself
  case powerLoss o =>
    show (s.powerLoss o).ocu = none ∨ (s.powerLoss o).ocu = s.ocu
    unfold State.powerLoss
    split
    · exact hself
    · exact .inr (by simp)
  case resetInputAsserted o =>
    show (s.assertReset o).ocu = none ∨ (s.assertReset o).ocu = s.ocu
    rcases assertReset_cases s o with ⟨-, h⟩ | ⟨-, -, h⟩
    · rw [h]; exact hself
    · rw [h]; exact .inr (by simp)
  case resetInputReleased =>
    show (s.releaseReset).ocu = none ∨ (s.releaseReset).ocu = s.ocu
    unfold State.releaseReset
    split
    · exact .inl rfl
    · exact hself
  case loadEnd =>
    show s.finishLoad.ocu = none ∨ s.finishLoad.ocu = s.ocu
    rcases finishLoad_cases s with ⟨c, -, h⟩ | ⟨-, h⟩
    · rw [h]
      obtain ⟨-, hocu, -⟩ := loadEnd_frame (s := s) c
      exact .inr (hocu.trans (by simp))
    · rw [h]; exact hself
  all_goals exact hself

/-- Every step keeps the bound of the reading list. -/
theorem step_readingLaw (h : step s = .next t) (hs : ReadingLaw s) : ReadingLaw t :=
  step_keeps (L := ReadingLaw) (fun _ _ h => h) (fun _ hs => keeps_ite hs fun _ => readingLaw_of_ocu (.inr rfl) hs)
    (fun _ p i _ => serve_keeps (fun s tag a => readingLaw_of_ocu (.inr (answer_frame s p tag a).2.1))
      (fun s => readingLaw_of_ocu (.inr (touchNamed_frame s p i).1)) fun _ _ => handler_readingLaw i)
    (fun s i _ => readingLaw_of_ocu (event_ocu s i)) h hs

end Sys2Proof.Machine
end

section
/-! PROOFS. What drawers and operations do is said once for every law: a law on assemblies, the session, operations, cells,
handoff blocks and the Record Store is kept by it, once the ends of operations, the report of an opening and a dirtying keep
it. -/

namespace Sys2Proof.Machine

open Sys2Proof

/-- The parts that a law of the crib may read are the same: all but drawers, driver, curve, ports and pins. -/
def SameCrib (s t : State) : Prop :=
  t.atb = s.atb ∧ t.ocu = s.ocu ∧ t.coc = s.coc ∧ t.ctb = s.ctb ∧ t.hob = s.hob ∧ t.rst = s.rst ∧ t.phase = s.phase

/-- A law that the ends of operations, the report of an opening and a dirtying keep. -/
structure DrawerLaw (L : State → Prop) : Prop where
  /-- The law reads these parts alone. -/
  frame : ∀ {s t : State}, SameCrib s t → L s → L t
  /-- The rollback of an operation keeps it (R111). -/
  rollback : ∀ (s : State) (d : Nat) (x : OpOutcome), L s → L (s.rollback d x)
  /-- The close of an operation keeps it (R72). -/
  close : ∀ (s : State) (d : Nat) (o : Operation) (b : Bool), s.op d = some o → L s → L (s.closeOp d o b)
  /-- The report of an opening to the held operation keeps it (R93). -/
  reported : ∀ (s : State) (d : Nat) (b : Bool), L s → L (s.reportOpened d b)
  /-- A dirtying keeps it (R178). -/
  dirty : ∀ (s : State) (k : Nat), L s → L (s.dirty k)

namespace DrawerLaw

variable {L : State → Prop} (hL : DrawerLaw L)

include hL

theorem foldl_rollback (l : List Nat) (x : OpOutcome) {s : State} (hs : L s) :
    L (l.foldl (fun v d => State.rollback v d x) s) := by
  induction l generalizing s with
  | nil => exact hs
  | cons d l ih => exact ih (hL.rollback _ d x hs)

theorem driverFault (d : Nat) {s : State} (hs : L s) : L (s.driverFault d) := by
  unfold State.driverFault
  exact hL.foldl_rollback _ _ (hL.frame (by simp [SameCrib]) hs)

theorem failedAttempt (d : Nat) {s : State} (hs : L s) : L (s.failedAttempt d) := by
  unfold State.failedAttempt
  dsimp only
  split
  · exact hL.driverFault d hs
  · split
    · exact hL.rollback _ _ _ (hL.frame (by simp [SameCrib]) hs)
    · split <;> exact hL.frame (by simp [SameCrib]) hs

theorem overcurrentPulse (d : Nat) {s : State} (hs : L s) : L (s.overcurrentPulse d) := by
  unfold State.overcurrentPulse
  exact hL.failedAttempt d (hL.frame (by simp [SameCrib]) hs)

theorem runDriver (n : Nat) {s : State} (hs : L s) : L (State.runDriver n s) := by
  induction n generalizing s with
  | zero => exact hs
  | succ n ih =>
    unfold State.runDriver
    split
    · split
      · exact hs
      · next d q _ =>
        have hbegin : L ((s.setReleaseQueue q).beginPulse d) := hL.frame (by simp [SameCrib]) hs
        dsimp only
        split
        · exact ih (hL.overcurrentPulse d hbegin)
        · exact hbegin
    · exact hs

theorem kickDriver {s : State} (hs : L s) : L s.kickDriver := hL.runDriver _ hs

theorem acceptOperation (d : Nat) (o : Operation) {s : State} (hs : L s) : L (s.acceptOperation d o).1 := by
  unfold State.acceptOperation State.requestRelease
  exact hL.kickDriver (hL.frame (by simp [SameCrib]) hs)

theorem cancelDrawer (d : Nat) {s : State} (hs : L s) : L (Machine.cancelDrawer d s).1 := by
  rcases (cancelDrawer_checked s d).cases with ⟨st, h⟩ | ⟨-, ⟨-, h⟩ | ⟨-, h⟩ | ⟨-, h⟩⟩
  · rw [h]; exact hs
  · rw [h]; exact hL.rollback _ _ _ (hL.frame (by simp [SameCrib]) hs)
  · rw [h]; exact hL.rollback _ _ _ (hL.frame (by simp [SameCrib]) hs)
  · rw [h]; exact hL.kickDriver (hL.rollback _ _ _ (hL.frame (by simp [SameCrib]) hs))

/-! ### The events of drawers and driver -/

theorem elapsePulse {s : State} (hs : L s) : L s.elapsePulse := by
  unfold State.elapsePulse
  split
  · exact hL.kickDriver (hL.failedAttempt _ (hL.frame (by simp [SameCrib]) hs))
  · exact hs

theorem assertSense {s : State} (hs : L s) : L s.assertSense := by
  have hpins : L (s.setPins { s.pins with sense := .asserted }) := hL.frame (s := s) (by simp [SameCrib]) hs
  unfold State.assertSense
  dsimp only
  split
  · exact hL.kickDriver (hL.overcurrentPulse _ hpins)
  · exact hpins

theorem expireWait (d : Nat) {s : State} (hs : L s) : L (s.expireWait d) :=
  hL.kickDriver (hL.frame (by simp [SameCrib]) hs)

theorem openEvent (d : Nat) {s : State} (hs : L s) : L (s.openEvent d) := by
  unfold State.openEvent
  dsimp only
  split
  case h_6 => exact hL.kickDriver (hL.reported _ _ _ (hL.frame (by simp [SameCrib]) hs))
  case h_3 => exact hL.reported _ _ _ (hL.frame (by simp [SameCrib]) hs)
  case h_4 => exact hL.reported _ _ _ (hL.frame (by simp [SameCrib]) hs)
  case h_5 => exact hL.reported _ _ _ (hL.frame (by simp [SameCrib]) hs)
  all_goals exact hL.frame (by simp [SameCrib]) hs

theorem commitDrawer (d : Nat) (old : Drawer) {s : State} (hs : L s) : L (s.commitDrawer d old) := by
  unfold State.commitDrawer
  split
  · exact hs
  · exact hL.dirty _ _ hs

theorem closeEvent (d : Nat) {s : State} (hs : L s) : L (s.closeEvent d) := by
  unfold State.closeEvent
  dsimp only
  split
  · exact hL.close _ _ _ _ ‹_› (hL.frame (by simp [SameCrib]) hs)
  · exact hL.commitDrawer _ _ (hL.frame (by simp [SameCrib]) hs)

theorem setDrawer (d : Nat) (r : Drawer) {s : State} (hs : L s) : L (s.setDrawer d r) := hL.frame (s := s) (by simp [SameCrib]) hs

omit hL in
theorem whileLoading {s t : State} (hs : L s) (ht : L t) : L (s.whileLoading t) := by
  unfold State.whileLoading
  split
  · exact ht
  · exact hs

theorem seeOpen (d : Nat) {s : State} (hs : L s) : L (s.seeOpen d) := by
  have hlevel : L (s.setOpenLevel d true) := hL.setDrawer _ _ hs
  unfold State.seeOpen
  exact keeps_ite (whileLoading hs hlevel) fun _ => keeps_ite (hL.openEvent d hlevel) fun _ => hs

theorem seeClose (d : Nat) {s : State} (hs : L s) : L (s.seeClose d) := by
  have hlevel : L (s.setOpenLevel d false) := hL.setDrawer _ _ hs
  unfold State.seeClose
  exact keeps_ite (whileLoading hs hlevel) fun _ => keeps_ite hs fun _ => hL.closeEvent d hlevel

theorem seePresence (d : Nat) (b : Bool) {s : State} (hs : L s) : L (s.seePresence d b) := by
  unfold State.seePresence
  exact keeps_ite (whileLoading hs (hL.setDrawer _ _ hs)) fun _ => hL.setDrawer _ _ hs

end DrawerLaw

/-- A law on the assembly table, the cell table, the Handoff Builder and the Record Store that the ends of operations and a
dirtying keep. -/
structure CribLaw (L : State → Prop) : Prop where
  /-- The law reads these four parts alone. -/
  frame : ∀ {s t : State}, t.atb = s.atb → t.ctb = s.ctb → t.hob = s.hob → t.rst = s.rst → L s → L t
  /-- The undo of an issue keeps it (R107). -/
  undo : ∀ (s : State) (a c p : Nat) (link : Bool), L s → L (s.undoIssue a c p link)
  /-- The close of an operation keeps it (R72). -/
  close : ∀ (s : State) (d : Nat) (o : Operation) (b : Bool), L s → L (s.closeOp d o b)
  /-- A dirtying keeps it (R178). -/
  dirty : ∀ (s : State) (k : Nat), L s → L (s.dirty k)

namespace CribLaw

variable {L : State → Prop} (hL : CribLaw L)

include hL

theorem rollback (d : Nat) (x : OpOutcome) {s : State} (hs : L s) : L (s.rollback d x) := by
  unfold State.rollback
  split
  · exact hs
  · next o _ =>
    dsimp only
    split
    · next c p link picked _ =>
      exact hL.frame (s := s.undoIssue o.asm c p link) (by simp only [finishOp_frame]) (by simp only [finishOp_frame])
        (by simp only [finishOp_frame]) (by simp only [finishOp_frame]) (hL.undo s _ _ _ _ hs)
    · exact hL.frame (by simp) (by simp) (by simp) (by simp) hs

theorem drawerLaw : DrawerLaw L where
  frame := fun ⟨hatb, _, _, hctb, hhob, hrst, _⟩ => hL.frame hatb hctb hhob hrst
  rollback _ d x := hL.rollback d x
  close _ d o b _ := hL.close _ d o b
  reported _ _ _ := hL.frame (by simp) (by simp) (by simp) (by simp)
  dirty := hL.dirty

theorem acceptOperation (d : Nat) (o : Operation) {s : State} (hs : L s) : L (s.acceptOperation d o).1 :=
  hL.drawerLaw.acceptOperation d o hs

theorem takeOperation (d : Nat) (o : Operation) {s : State} (hs : L s) : L (s.takeOperation d o).1 := by
  unfold State.takeOperation
  exact hL.acceptOperation d o (hL.frame (by simp) (by simp) (by simp) (by simp) hs)

theorem stockAsm (a d : Nat) {s : State} (hs : L s) : L (Machine.stockAsm a d s).1 := by
  rcases (stockAsm_checked s a d).cases with ⟨st, h⟩ | ⟨-, -, -, -, -, -, -, -, h⟩
  · rw [h]; exact hs
  · rw [h]; exact hL.takeOperation _ _ hs

theorem withdrawAsm (a : Nat) {s : State} (hs : L s) : L (Machine.withdrawAsm a s).1 := by
  obtain ⟨d, hd⟩ := stock_unique s a
  rcases (withdrawAsm_checked s a d hd).cases with ⟨st, h⟩ | ⟨-, -, -, -, -, -, -, h⟩
  · rw [h]; exact hs
  · rw [h]; exact hL.takeOperation _ _ hs

theorem returnAsm (a d k : Nat) {s : State} (hs : L s) : L (Machine.returnAsm a d k s).1 := by
  rcases (returnAsm_checked s a d k).cases with ⟨st, h⟩ | ⟨-, -, -, -, -, -, -, -, _, -, h⟩
  · rw [h]; exact hs
  · rw [h]; exact hL.takeOperation _ _ hs

omit hL in
/-- The requests that accept an issue keep what the acceptance keeps. -/
theorem issueAsm (hissue : ∀ (s : State) (a c p d : Nat) (b : Bool), L s → L (s.acceptIssue a c p d b).1) (a c p : Nat)
    {s : State} (hs : L s) : L (Machine.issueAsm a c p s).1 := by
  obtain ⟨d, hd⟩ := stock_unique s a
  rcases (issueAsm_checked s a c p d hd).cases with ⟨st, h⟩ | ⟨-, -, -, -, -, -, -, -, -, -, h⟩
  · rw [h]; exact hs
  · rw [h]; exact hissue _ _ _ _ _ _ hs

omit hL in
theorem issuePick (hissue : ∀ (s : State) (a c p d : Nat) (b : Bool), L s → L (s.acceptIssue a c p d b).1) (c p : Nat)
    {s : State} (hs : L s) : L (Machine.issuePick c p s).1 := by
  obtain ⟨a, ha⟩ := sister_unique s c p
  obtain ⟨d, hd⟩ := stock_unique s a
  rcases (issuePick_checked s a c p d ha hd).cases with ⟨st, h⟩ | ⟨-, -, -, -, -, -, -, -, -, _, -, -, -, h⟩
  · rw [h]; exact hs
  · rw [h]; exact hissue _ _ _ _ _ _ hs

end CribLaw

end Sys2Proof.Machine
end

section
/-! PROOFS. Every step keeps the bounds of the pick list; with the laws of the notices, of the kept reply and of the reading
list these are the list laws. -/

namespace Sys2Proof.Machine

open Sys2Proof

variable {s t : State}

/-! ### Pick lists (R122) -/

/-- At most 32 entries, at most one for a cell and pocket. -/
def PicksLawful (l : List Pick) : Prop := l.length ≤ 32 ∧ (l.map fun k => (k.cell, k.pocket)).Nodup

theorem movePick_names (l : List Pick) (c p : Nat) (st : PickState) :
    (movePick l c p st).map (fun k => (k.cell, k.pocket)) = l.map fun k => (k.cell, k.pocket) := by
  unfold movePick
  rw [List.map_map]
  refine List.map_congr_left fun k _ => ?_
  dsimp only [Function.comp]
  split <;> rfl

theorem PicksLawful.move {l : List Pick} (h : PicksLawful l) (c p : Nat) (st : PickState) :
    PicksLawful (movePick l c p st) := by
  obtain ⟨hlen, hnodup⟩ := h
  exact ⟨by simpa [movePick] using hlen, by rw [movePick_names]; exact hnodup⟩

theorem PicksLawful.remove {l : List Pick} (h : PicksLawful l) (c p : Nat) : PicksLawful (removePick l c p) := by
  obtain ⟨hlen, hnodup⟩ := h
  exact ⟨(List.length_filter_le _ _).trans hlen, hnodup.sublist (List.filter_sublist.map _)⟩

/-- An entry joins a list that has room and none for its cell and pocket. -/
theorem PicksLawful.append {l : List Pick} (h : PicksLawful l) (hlen : l.length < 32) {k : Pick}
    (hk : findPick l k.cell k.pocket = none) : PicksLawful (l ++ [k]) := by
  obtain ⟨-, hnodup⟩ := h
  refine ⟨by simp only [List.length_append, List.length_singleton]; omega, ?_⟩
  rw [List.map_append, List.nodup_append]
  refine ⟨hnodup, List.nodup_singleton _, fun x hx y hy => ?_⟩
  obtain ⟨j, hj, rfl⟩ := List.mem_map.mp hx
  obtain rfl := List.mem_singleton.mp hy
  have hnames := List.find?_eq_none.mp hk j hj
  intro e
  obtain ⟨hc, hp⟩ := Prod.mk.inj e
  exact hnames (by simp [Pick.names, hc, hp])

theorem pickLaw_of_picks (h : t.picks = s.picks) (hs : PickLaw s) : PickLaw t := by
  unfold PickLaw
  rw [h]
  exact hs

theorem pickLaw_of_lawful (h : PicksLawful t.picks) : PickLaw t := h

theorem undoIssue_pickLaw (a c p : Nat) (link : Bool) (hs : PickLaw s) : PickLaw (s.undoIssue a c p link) := by
  refine pickLaw_of_lawful ?_
  obtain ⟨-, -, -, -, -, -, -, -, hpicks, -⟩ := undoIssue_frame s a c p link
  rw [hpicks]
  split
  · exact PicksLawful.move hs c p .waiting
  · exact hs

/-- The close of an operation moves or removes the entry of its pocket (R106, R109). -/
theorem closeOp_pickLaw (d : Nat) (o : Operation) (b : Bool) (hs : PickLaw s) : PickLaw (s.closeOp d o b) := by
  unfold State.closeOp
  split
  · unfold State.closeStock
    dsimp only
    split
    · split <;> exact pickLaw_of_picks (by simp) hs
    · exact pickLaw_of_picks (by simp) hs
  · unfold State.closeWithdraw
    dsimp only
    split <;> exact pickLaw_of_picks (by simp) hs
  · next c p link _ _ =>
    unfold State.closeIssue
    dsimp only
    split
    · exact pickLaw_of_picks (s := s.undoIssue o.asm c p link) (by simp only [finishOp_frame])
        (undoIssue_pickLaw _ _ _ _ hs)
    · split
      · exact pickLaw_of_lawful (by simpa using PicksLawful.remove hs _ _)
      · exact pickLaw_of_picks (by simp) hs
  · unfold State.closeReturn
    dsimp only
    split
    · split
      · split
        · split
          · exact pickLaw_of_lawful (by simpa using PicksLawful.move hs _ _ _)
          · exact pickLaw_of_picks (by simp) hs
        · exact pickLaw_of_picks (by simp) hs
      · exact pickLaw_of_picks (by simp) hs
    · exact pickLaw_of_picks (by simp) hs

theorem pickLaw_crib : CribLaw PickLaw where
  frame _ hctb _ _ := pickLaw_of_picks (by simp only [State.picks, hctb])
  undo _ a c p link := undoIssue_pickLaw a c p link
  close _ d o b := closeOp_pickLaw d o b
  dirty _ _ := pickLaw_of_picks (by simp)

theorem acceptIssue_pickLaw (s : State) (a c p d : Nat) (b : Bool) (hs : PickLaw s) :
    PickLaw (s.acceptIssue a c p d b).1 := by
  unfold State.acceptIssue
  dsimp only
  refine pickLaw_crib.acceptOperation _ _ (pickLaw_of_lawful ?_)
  split
  · simpa using PicksLawful.move hs _ _ _
  · exact pickLaw_of_picks (by simp) hs

theorem autoRequest_pickLaw (a c p : Nat) (hs : PickLaw s) : PickLaw (s.autoRequest a c p) := by
  unfold State.autoRequest
  split
  · exact hs
  · split
    · next hauto =>
      split
      · next hlen =>
        simp only [Bool.and_eq_true, Option.isNone_iff_eq_none] at hauto
        exact pickLaw_of_lawful (by simpa using PicksLawful.append hs hlen hauto.2)
      · exact pickLaw_of_picks (by simp) hs
    · exact hs

theorem reportUse_pickLaw (a c p n : Nat) (hs : PickLaw s) : PickLaw (s.reportUse a c p n) := by
  have hcommit : ∀ {t : State} (r : AsmRecord), PickLaw t → PickLaw (t.commitUse a r) := fun r ht => by
    unfold State.commitUse
    dsimp only
    split
    · exact pickLaw_of_picks (by simp) ht
    · split
      · exact pickLaw_of_picks (by simp) ht
      · exact ht
  have hwarn : PickLaw (if ((s.asm a).addUse n).warnNow then
      (s.changeAsm a ((s.asm a).worn n)).noticeWarning a c p ((s.asm a).addUse n)
      else s.changeAsm a ((s.asm a).worn n)) := by
    split <;> exact pickLaw_of_picks (by simp [State.noticeWarning]) hs
  unfold State.reportUse
  dsimp only
  refine hcommit _ ?_
  split
  · exact autoRequest_pickLaw _ _ _ (pickLaw_of_picks (by simp [State.noticeExhausted]) hwarn)
  · exact hwarn

theorem loadBegin_pickLaw (s : State) (c : Cause) : PickLaw (s.loadBegin c) := ⟨Nat.zero_le _, List.nodup_nil⟩

theorem endDrain_pickLaw (hs : PickLaw s) : PickLaw s.endDrain := keeps_ite hs fun _ => loadBegin_pickLaw s _

theorem handler_pickLaw (i : Instr) (hs : PickLaw s) : PickLaw (handler i s).1 := by
  cases i
  case usage c p sec n =>
    rcases (usage_checked s c p sec n).cases with ⟨st, h⟩ | ⟨-, -, -, a, t, -, ht, h⟩
    · exact pickLaw_of_picks (by simp only [handler, h]) hs
    · simp only [handler, h, ht]
      split
      · exact hs
      · exact reportUse_pickLaw _ _ _ _ hs
  case stock a d => exact pickLaw_crib.stockAsm a d hs
  case withdraw a => exact pickLaw_crib.withdrawAsm a hs
  case returnTool a d k => exact pickLaw_crib.returnAsm a d k hs
  case issue a c p => exact CribLaw.issueAsm acceptIssue_pickLaw a c p hs
  case issuePick c p => exact CribLaw.issuePick acceptIssue_pickLaw c p hs
  case cancelDrawer d => exact pickLaw_crib.drawerLaw.cancelDrawer d hs
  case requestTool c p f =>
    rcases (requestTool_checked s c p f).cases with ⟨st, h⟩ | ⟨hfind, hlen, h⟩
    · exact pickLaw_of_picks (by simp only [handler, h]) hs
    · exact pickLaw_of_lawful (by simpa [handler, h] using PicksLawful.append hs hlen hfind)
  case withdrawRequest c p =>
    rcases (withdrawRequest_checked s c p).cases with ⟨st, h⟩ | ⟨k, -, -, h⟩
    · exact pickLaw_of_picks (by simp only [handler, h]) hs
    · exact pickLaw_of_lawful (by simpa [handler, h] using PicksLawful.remove hs c p)
  case restart =>
    simp only [handler, restart]
    split
    · exact hs
    · split
      · exact hs
      · exact endDrain_pickLaw (pickLaw_of_picks (by simp) hs)
  all_goals exact pickLaw_of_picks (by simp [handler]) hs

theorem event_pickLaw (i : Instr) (hs : PickLaw s) : PickLaw (event s i) := by
  cases i
  case requestFrameEnd p l b =>
    obtain ⟨-, -, -, ⟨-, -, -, -, -, hpicks⟩, -⟩ := frame_of_port (transact_frame_eq s p l b).1
    exact pickLaw_of_picks hpicks hs
  case replyRead p n =>
    obtain ⟨-, -, -, ⟨-, -, -, -, -, hpicks⟩, -⟩ := frame_of_port (transact_read_eq s p n).1
    exact pickLaw_of_picks hpicks hs
  case openSeen d => exact pickLaw_crib.drawerLaw.seeOpen d hs
  case closeSeen d => exact pickLaw_crib.drawerLaw.seeClose d hs
  case presenceLevelChange d b => exact pickLaw_crib.drawerLaw.seePresence d b hs
  case pulseWidthElapsed => exact keeps_ite hs fun _ => pickLaw_crib.drawerLaw.elapsePulse hs
  case overcurrent => exact pickLaw_crib.drawerLaw.assertSense hs
  case waitExpiry d => exact keeps_ite hs fun _ => pickLaw_crib.drawerLaw.expireWait d hs
  case openTimeExpiry d => exact keeps_ite hs fun _ => pickLaw_of_picks (by simp) hs
  case lockExpiry a => exact keeps_ite hs fun _ => pickLaw_of_picks (by simp) hs
  case discardExpiry n => exact keeps_ite hs fun _ => hs
  case entryFormation => exact keeps_ite hs fun _ => pickLaw_of_picks (by rw [formNext_eq]; rfl) hs
  case slotBuildCompletion => exact keeps_ite hs fun _ => pickLaw_of_picks (by rw [completeSlot_eq]; rfl) hs
  case readAheadBuildCompletion => exact keeps_ite hs fun _ => pickLaw_of_picks (by rw [completeReadAhead_eq]; rfl) hs
  case commitCompletion =>
    refine keeps_ite hs fun _ => ?_
    rcases completeCommit_cases s with ⟨-, h⟩ | ⟨c, q, -, -, h⟩
    · rw [h]; exact hs
    · rw [h]; exact endDrain_pickLaw (pickLaw_of_picks (by simp) hs)
  case powerOn =>
    exact keeps_ite hs fun _ => keeps_ite (loadBegin_pickLaw s _) fun _ => pickLaw_of_picks (by simp) hs
  case powerLoss o => exact keeps_ite (pickLaw_of_picks (by simp) hs) fun _ => hs
  case resetInputAsserted o =>
    show PickLaw (s.assertReset o)
    rcases assertReset_cases s o with ⟨-, h⟩ | ⟨-, -, h⟩
    · rw [h]; exact hs
    · rw [h]; exact pickLaw_of_picks (by simp) hs
  case resetInputReleased => exact keeps_ite (pickLaw_of_picks rfl hs) fun _ => loadBegin_pickLaw _ _
  case loadEnd =>
    show PickLaw s.finishLoad
    rcases finishLoad_cases s with ⟨c, -, h⟩ | ⟨-, h⟩
    · rw [h]
      obtain ⟨-, -, -, -, -, ⟨-, -, -, hpicks⟩, -⟩ := loadEnd_frame (s := s) c
      exact pickLaw_of_picks (hpicks.trans (by simp)) hs
    · rw [h]; exact hs
  all_goals exact hs

/-- Every step keeps the bounds of the pick list. -/
theorem step_pickLaw (h : step s = .next t) (hs : PickLaw s) : PickLaw t :=
  step_keeps (L := PickLaw) (fun _ _ h => h) (fun _ hs => keeps_ite hs fun _ => pickLaw_of_picks rfl hs)
    (fun _ p i _ => serve_keeps (fun s tag a => pickLaw_of_picks (by simp))
      (fun s => pickLaw_of_picks (by simp)) fun _ _ => handler_pickLaw i)
    (fun _ i _ => event_pickLaw i) h hs

/-- Settles O56, by the law of each list: what a request, an event and a millisecond leave of the notice queues, the kept
reply, the reading list and the pick list. -/
theorem everyStepKeepsTheListLaws : Obligations.EveryStepKeepsTheListLaws := fun _ _ h =>
  ⟨step_noticeLaw h, step_keepLaw h, step_readingLaw h, step_pickLaw h⟩

end Sys2Proof.Machine
end

section
/-! PROOFS. What speaks of the used of the assembly records, of the Record Store and of the Handoff Builder alone is kept by
requests and events, once a written record, a dirtying and a signal keep it. -/

namespace Sys2Proof.Machine

open Sys2Proof

/-- The record of `s` is written with a `used` that is its own or within the saturation value. -/
def UsedKept (old new : AsmRecord) : Prop := new.used = old.used ∨ new.used ≤ usedMax

/-- A law on the assembly table, the Record Store and the Handoff Builder that a written record, a dirtying and a signal
keep. -/
structure RecordLaw (L : State → Prop) : Prop where
  /-- The law reads these three parts alone. -/
  frame : ∀ {s t : State}, t.atb = s.atb → t.hob = s.hob → t.rst = s.rst → L s → L t
  /-- A written record whose used is the old one or in range keeps it (R138). -/
  asm : ∀ (s : State) (a : Nat) (r : AsmRecord), UsedKept (s.asm a) r → L s → L (s.setAsm a r)
  /-- Records changed alike, their used kept, keep it. -/
  map : ∀ (s : State) (f : AsmRecord → AsmRecord), (∀ r, (f r).used = r.used) → L s → L { s with atb := tmap f s.atb }
  /-- A signal keeps it (R167). -/
  disturb : ∀ (s : State) (g : Signal), L s → L (s.disturb g)
  /-- A slot freed keeps it (R169). -/
  freeSlot : ∀ (s : State) (n : Nat), L s → L (s.freeSlot n)
  /-- A dirtying keeps it (R178). -/
  dirty : ∀ (s : State) (k : Nat), L s → L (s.dirty k)
  /-- The dirtying of a sweep keeps it (R58). -/
  sweepDirty : ∀ (s : State) (k : Nat), L s → L (s.sweepDirty k)
  /-- The dirtying of the set behind a sweep keeps it (R58). -/
  requeueDirty : ∀ (s : State) (k : Nat), L s → L (s.requeueDirty k)

theorem usedKept_enter (r : AsmRecord) (st : AsmState) : UsedKept r (r.enter st) := .inl rfl

theorem usedKept_closed (r : AsmRecord) (k temp n : Nat) (m : Measured) : UsedKept r (closedRecord r k temp n m) := by
  cases m <;> exact .inl rfl

theorem usedKept_restored (r : AsmRecord) : UsedKept r r.restorePrior := by
  unfold AsmRecord.restorePrior
  split <;> exact .inl rfl

theorem usedKept_returned (r : AsmRecord) (k : Condition) (d : Nat) : UsedKept r (r.returned k d) := by
  refine .inl ?_
  show r.applyStaged.used = r.used
  unfold AsmRecord.applyStaged
  split <;> rfl

theorem usedKept_worn (r : AsmRecord) (n : Nat) : UsedKept r (r.worn n) := by
  refine .inr ?_
  unfold AsmRecord.worn
  dsimp only
  split <;> exact Nat.min_le_left _ _

theorem usedKept_withLife (r : AsmRecord) (m : LifeMode) (l w : Nat) : UsedKept r (r.withLife m l w) := .inl rfl

/-- The events of the builder (Section 8) and those that end a commit or begin or end a load (Section 9). -/
def storeEvent : Instr → Bool
  | .entryFormation | .slotBuildCompletion | .readAheadBuildCompletion => true
  | .commitCompletion | .powerOn | .powerLoss _ | .resetInputAsserted _ | .resetInputReleased | .loadEnd => true
  | _ => false

namespace RecordLaw

variable {L : State → Prop} (hL : RecordLaw L)

include hL

/-! ### Records and operations -/

theorem signalPocket (x : Option (Nat × Nat)) {s : State} (hs : L s) : L (s.signalPocket x) := by
  unfold State.signalPocket
  split
  · exact hL.disturb _ _ hs
  · exact hs

theorem changeAsm (a : Nat) (r : AsmRecord) {s : State} (hr : UsedKept (s.asm a) r) (hs : L s) : L (s.changeAsm a r) := by
  have hwrite := hL.asm s a r hr hs
  unfold State.changeAsm
  exact keeps_ite hwrite fun _ => keeps_ite (hL.signalPocket _ (hL.signalPocket _ hwrite)) fun _ => hL.signalPocket _ hwrite

theorem commitChange (a : Nat) (old : AsmRecord) {s : State} (hs : L s) : L (s.commitChange a old) := by
  unfold State.commitChange
  exact keeps_ite hs fun _ => hL.dirty _ _ hs

theorem commitDrawer (d : Nat) (old : Drawer) {s : State} (hs : L s) : L (s.commitDrawer d old) := by
  unfold State.commitDrawer
  exact keeps_ite (hL.dirty _ _ hs) fun _ => hs

theorem undoIssue (a c p : Nat) (link : Bool) {s : State} (hs : L s) : L (s.undoIssue a c p link) := by
  have hchange := hL.changeAsm a _ (usedKept_enter (s.asm a) .ready) hs
  unfold State.undoIssue
  dsimp only
  split <;> exact hL.frame (by simp) (by simp) (by simp) hchange

theorem finishOp (d : Nat) (o : Operation) (x : OpOutcome) (y z : Option Bool) {s : State} (hs : L s) :
    L (s.finishOp d o x y z) := hL.frame (by simp) (by simp) (by simp) hs

theorem closeOp (d : Nat) (o : Operation) (b : Bool) {s : State} (hs : L s) : L (s.closeOp d o b) := by
  unfold State.closeOp
  split
  · unfold State.closeStock
    dsimp only
    split
    · split
      · have hchange : L (s.changeAsm o.asm { s.asm o.asm with stock := some d }) := hL.changeAsm _ _ (.inl rfl) hs
        exact hL.finishOp _ _ _ _ _ (hL.commitDrawer _ _ (hL.commitChange _ _ (hL.frame (by simp) (by simp) (by simp) hchange)))
      · exact hL.finishOp _ _ _ _ _ (hL.commitDrawer _ _ (hL.frame (by simp) (by simp) (by simp) hs))
    · exact hL.finishOp _ _ _ _ _ hs
  · unfold State.closeWithdraw
    dsimp only
    split
    · exact hL.finishOp _ _ _ _ _ hs
    · have hchange : L (s.changeAsm o.asm { s.asm o.asm with stock := none }) := hL.changeAsm _ _ (.inl rfl) hs
      exact hL.finishOp _ _ _ _ _ (hL.commitDrawer _ _ (hL.commitChange _ _ (hL.frame (by simp) (by simp) (by simp) hchange)))
  · unfold State.closeIssue
    dsimp only
    split
    · exact hL.finishOp _ _ _ _ _ (hL.undoIssue _ _ _ _ hs)
    · next c p link _ _ _ =>
      have hchange : L (s.changeAsm o.asm { (s.asm o.asm).enter .issued with binding := some (c, p) }) :=
        hL.changeAsm _ _ (.inl rfl) hs
      refine hL.finishOp _ _ _ _ _ (hL.commitDrawer _ _ (hL.commitChange _ _ ?_))
      split <;> exact hL.frame (by simp) (by simp) (by simp) hchange
  · next k _ =>
    unfold State.closeReturn
    dsimp only
    split
    · have hchange : L (s.changeAsm o.asm ((s.asm o.asm).returned k d)) := hL.changeAsm _ _ (usedKept_returned _ _ _) hs
      refine hL.finishOp _ _ _ _ _ (hL.commitDrawer _ _ (hL.commitChange _ _ ?_))
      repeat' split
      all_goals exact hL.frame (by simp) (by simp) (by simp) hchange
    · exact hL.finishOp _ _ _ _ _ hs

theorem crib : CribLaw L where
  frame hatb _ hhob hrst := hL.frame hatb hhob hrst
  undo _ a c p link := hL.undoIssue a c p link
  close _ d o b := hL.closeOp d o b
  dirty := hL.dirty

/-! ### Sessions -/

theorem applyStagedCurve {s : State} (hs : L s) : L s.applyStagedCurve := by
  unfold State.applyStagedCurve
  split
  · next c _ =>
    have hcurve : L ((s.setCurve c).setStagedCurve none) := hL.frame (s := s) rfl rfl rfl hs
    exact hL.frame (by simp) (by simp) (by simp) (hL.dirty _ curveKey hcurve)
  · exact hs

theorem finishSession (d : SessionDone) {s : State} (hs : L s) : L (s.finishSession d) :=
  hL.applyStagedCurve (hL.frame (by simp) (by simp) (by simp) hs)

theorem returnSubject (x : Session) {s : State} (hs : L s) : L (s.returnSubject x) := by
  unfold State.returnSubject
  split
  · exact hL.changeAsm _ _ (usedKept_restored _) hs
  · exact hs

theorem releaseSubject (x : Session) {s : State} (hs : L s) : L (s.releaseSubject x) := by
  unfold State.releaseSubject
  split
  · exact hL.asm _ _ _ (.inl rfl) hs
  · exact hs

theorem foldl_sweepDirty (l : List Nat) {s : State} (hs : L s) : L (l.foldl State.sweepDirty s) := by
  induction l generalizing s with
  | nil => exact hs
  | cons k l ih => exact ih (hL.sweepDirty _ _ hs)

theorem sweep (k : Nat) {s : State} (hs : L s) : L (s.sweep k) := by
  have hmap := hL.map s (fun r => if r.measuredWith k then r.clearMark else r) (fun r => by split <;> rfl) hs
  unfold State.sweep
  dsimp only
  refine hL.requeueDirty _ _ (hL.foldl_sweepDirty _ ?_)
  exact keeps_ite hmap fun _ => hL.disturb _ _ hmap

theorem setRefSet (k : Nat) (r : RefSet) {s : State} (hs : L s) : L (s.setRefSet k r) := hL.frame (s := s) rfl rfl rfl hs

theorem closeSession (n : Int) {s : State} (hs : L s) : L (Machine.closeSession n s).1 := by
  rcases (closeSession_checked s n).cases with ⟨st, h⟩ | ⟨x, -, -, -, h⟩
  · rw [h]; exact hs
  · rw [h]
    split
    · unfold closeMeasure
      exact hL.finishSession _ (hL.releaseSubject _ (hL.dirty _ _ (hL.changeAsm _ _ (usedKept_closed _ _ _ _ _) hs)))
    · unfold closeZero
      dsimp only
      split
      · exact hL.finishSession _ hs
      · dsimp only
        exact hL.finishSession _ (hL.sweep _ (hL.setRefSet _ _ hs))
    · unfold closeSpan
      dsimp only
      split
      · exact hL.finishSession _ hs
      · exact hL.finishSession _ hs
      · dsimp only
        exact hL.finishSession _ (hL.sweep _ (hL.setRefSet _ _ hs))

theorem abandonSession {s : State} (hs : L s) : L (Machine.abandonSession s).1 := by
  rcases (abandonSession_checked s).cases with ⟨st, h⟩ | ⟨x, -, h⟩
  · rw [h]; exact hs
  · rw [h]; exact hL.finishSession _ (hL.releaseSubject _ (hL.returnSubject _ hs))

theorem expireLock (a : Nat) {s : State} (hs : L s) : L (s.expireLock a) := by
  unfold State.expireLock
  split
  · exact hs
  · have hunlock : ∀ p n, L ((s.setAsm a (s.asm a).unlocked).notify p n) := fun p n =>
      hL.frame (by simp) (by simp) (by simp) (hL.asm s a (s.asm a).unlocked (.inl rfl) hs)
    dsimp only
    split
    · split
      · exact hL.finishSession _ (hL.changeAsm _ _ (usedKept_restored _) (hunlock _ _))
      · exact hunlock _ _
    · exact hunlock _ _

/-! ### Requests -/

theorem foldl_expireLock (l : List Nat) {s : State} (hs : L s) : L (l.foldl State.expireLock s) := by
  induction l generalizing s with
  | nil => exact hs
  | cons a l ih => exact ih (hL.expireLock a hs)

theorem foldl_reportLeftOpen (l : List Nat) {s : State} (hs : L s) : L (l.foldl State.reportLeftOpen s) := by
  induction l generalizing s with
  | nil => exact hs
  | cons d l ih => exact ih (hL.frame (by simp) (by simp) (by simp) hs)

theorem foldl_freeSlot (l : List Nat) {s : State} (hs : L s) : L (l.foldl State.freeSlot s) := by
  induction l generalizing s with
  | nil => exact hs
  | cons n l ih => exact ih (hL.freeSlot _ _ hs)

theorem setParameter (p : Port) (n v : Nat) {s : State} (hs : L s) : L (Machine.setParameter p n v s).1 := by
  rcases (setParameter_checked s p n v).cases with ⟨st, h⟩ | ⟨-, h⟩
  · rw [h]; exact hs
  · have hparams : L (s.setParams (s.params.put n (paramStored n v))) := hL.frame (s := s) rfl rfl rfl hs
    rw [h]
    refine keeps_ite (hL.dirty _ _ ?_) fun _ => hs
    unfold State.actOnLimit
    exact keeps_ite (keeps_ite (keeps_ite hparams fun _ => hL.foldl_freeSlot _ hparams)
      fun _ => hL.foldl_reportLeftOpen _ hparams) fun _ => hL.foldl_expireLock _ hparams

theorem reportUse (a c p n : Nat) {s : State} (hs : L s) : L (s.reportUse a c p n) := by
  have hchange := hL.changeAsm a _ (usedKept_worn (s.asm a) n) hs
  have hcommit : ∀ {t : State} (r : AsmRecord), L t → L (t.commitUse a r) := fun r ht => by
    unfold State.commitUse
    exact keeps_ite (keeps_ite ht fun _ => hL.dirty _ _ ht) fun _ => hL.dirty _ _ ht
  unfold State.reportUse
  dsimp only
  refine hcommit _ (hL.frame (s := s.changeAsm a ((s.asm a).worn n)) ?_ ?_ ?_ hchange)
  all_goals
    repeat' split
    all_goals simp [State.noticeWarning, State.noticeExhausted]

theorem acceptIssue (s : State) (a c p d : Nat) (b : Bool) (hs : L s) : L (s.acceptIssue a c p d b).1 := by
  have hchange : ∀ o, L ((s.setOp d o).changeAsm a ((s.asm a).enter .issuing)) := fun o =>
    hL.changeAsm _ _ (.inl rfl) (hL.frame (s := s) rfl rfl rfl hs)
  unfold State.acceptIssue
  dsimp only
  refine hL.crib.acceptOperation _ _ (hL.frame ?_ ?_ ?_ (hchange (some ⟨.issue c p (findPick s.picks c p).isSome b, a, none⟩)))
  all_goals split <;> simp

/-- Every request but RESTART and HANDOFF keeps the law. -/
theorem handler (i : Instr) (hi : i ≠ .restart) (hh : ∀ c p n, i ≠ .handoff c p n) {s : State} (hs : L s) : L (Machine.handler i s).1 := by
  cases i
  case measureOpen a =>
    rcases (measureOpen_checked s a).cases with ⟨st, h⟩ | ⟨-, -, -, pr, k, -, -, h⟩
    · simp only [Machine.handler, h]; exact hs
    · simp only [Machine.handler, h]; exact hL.changeAsm _ _ (.inl rfl) (hL.frame (s := s) rfl rfl rfl hs)
  case sessionClose n => exact hL.closeSession n hs
  case sessionAbandon => exact hL.abandonSession hs
  case selectReference k =>
    rcases (selectReference_checked s k).cases with ⟨st, h⟩ | ⟨-, -, -, h⟩
    · simp only [Machine.handler, h]; exact hs
    · simp only [Machine.handler, h]; exact keeps_ite (hL.dirty _ _ (hL.frame (s := s) rfl rfl rfl hs)) fun _ => hs
  case certifyReference k =>
    rcases (certifyReference_checked s k).cases with ⟨st, h⟩ | ⟨-, -, -, h⟩
    · simp only [Machine.handler, h]; exact hs
    · simp only [Machine.handler, h]; exact hL.dirty _ _ (hL.frame (s := s) rfl rfl rfl hs)
  case unlockReference k =>
    rcases (unlockReference_checked s k).cases with ⟨st, h⟩ | ⟨-, -, -, h⟩
    · simp only [Machine.handler, h]; exact hs
    · simp only [Machine.handler, h]; exact hL.dirty _ _ (hL.frame (s := s) rfl rfl rfl hs)
  case writeCurve l =>
    rcases (writeCurve_checked s l).cases with ⟨st, h⟩ | ⟨-, c, b, -, h⟩
    · simp only [Machine.handler, h]; exact hs
    · simp only [Machine.handler, h]
      exact keeps_ite (keeps_ite (hL.dirty _ _ (hL.frame (s := s) rfl rfl rfl hs)) fun _ => hs)
        fun _ => hL.frame (s := s) rfl rfl rfl hs
  case register a f nl nr m l w =>
    rcases (registerAsm_checked s a f nl nr m l w).cases with ⟨st, h⟩ | ⟨-, -, x, -, h⟩
    · simp only [Machine.handler, h]; exact hs
    · simp only [Machine.handler, h]; exact hL.dirty _ _ (hL.changeAsm _ _ (.inr (Nat.zero_le _)) hs)
  case retire a =>
    rcases (retireAsm_checked s a).cases with ⟨st, h⟩ | ⟨-, -, -, h⟩
    · simp only [Machine.handler, h]; exact hs
    · have hdirty := hL.dirty _ a (hL.changeAsm a (s.asm a).retired (.inl rfl) hs)
      simp only [Machine.handler, h]
      split
      · exact hdirty
      · unfold State.clearStock
        dsimp only
        refine hL.commitDrawer _ _ ?_
        split <;> exact hL.frame (by simp) (by simp) (by simp) hdirty
  case returnFromRegrind a =>
    rcases (returnFromRegrind_checked s a).cases with ⟨st, h⟩ | ⟨-, -, -, -, h⟩
    · simp only [Machine.handler, h]; exact hs
    · simp only [Machine.handler, h]; exact hL.dirty _ _ (hL.changeAsm _ _ (.inr (Nat.zero_le _)) hs)
  case setLife a m l w =>
    rcases (setLife_checked s a m l w).cases with ⟨st, h⟩ | ⟨-, x, r, b, -, hr, -, h⟩
    · simp only [Machine.handler, h]; exact hs
    · simp only [Machine.handler, h]
      refine hL.commitChange _ _ (hL.changeAsm _ _ ?_ hs)
      rw [hr]
      split
      · exact .inl rfl
      · exact usedKept_withLife _ _ _ _
  case usage c p sec n =>
    rcases (usage_checked s c p sec n).cases with ⟨st, h⟩ | ⟨-, -, -, a, t, -, ht, h⟩
    · simp only [Machine.handler, h]; exact hs
    · simp only [Machine.handler, h, ht]
      exact keeps_ite (hL.reportUse _ _ _ _ hs) fun _ => hs
  case stock a d => exact hL.crib.stockAsm a d hs
  case withdraw a => exact hL.crib.withdrawAsm a hs
  case returnTool a d k => exact hL.crib.returnAsm a d k hs
  case issue a c p => exact CribLaw.issueAsm hL.acceptIssue a c p hs
  case issuePick c p => exact CribLaw.issuePick hL.acceptIssue c p hs
  case cancelDrawer d => exact hL.crib.drawerLaw.cancelDrawer d hs
  case writeCell c n u f o dt lf au =>
    rcases (writeCell_checked s c n u f o lf au dt).cases with ⟨st, h⟩ | ⟨-, pr, -, h⟩
    · simp only [Machine.handler, h]; exact hs
    · simp only [Machine.handler, h]; exact hL.dirty _ _ (hL.disturb _ _ (hL.frame (s := s) rfl rfl rfl hs))
  case lock p a =>
    rcases lockRecord_cases s p a with ⟨st, b, h, -, -⟩ | ⟨-, -, h⟩
    · simp only [Machine.handler, h]; exact hs
    · simp only [Machine.handler, h]; exact hL.asm _ _ _ (.inl rfl) hs
  case unlock p a =>
    rcases (unlockRecord_checked s p a).cases with ⟨st, h⟩ | ⟨-, -, -, h⟩
    · simp only [Machine.handler, h]; exact hs
    · simp only [Machine.handler, h]; exact hL.asm _ _ _ (.inl rfl) hs
  case setParameter p n v => exact hL.setParameter p n v hs
  case restart => exact absurd rfl hi
  case handoff c p n => exact absurd rfl (hh c p n)
  all_goals exact hL.frame (by simp [Machine.handler]) (by simp [Machine.handler]) (by simp [Machine.handler]) hs

theorem touch (p : Port) (a : Nat) {s : State} (hs : L s) : L (s.touch p a) := by
  unfold State.touch
  exact keeps_ite hs fun _ => hL.asm _ _ _ (.inl rfl) hs

theorem touchNamed (p : Port) (i : Instr) {s : State} (hs : L s) : L (s.touchNamed p i) := by
  unfold State.touchNamed
  split
  · exact hL.touch _ _ hs
  · exact hs

theorem answer (p : Port) (tag : Byte) (a : Answer) {s : State} (hs : L s) : L (s.answer p tag a) :=
  hL.frame (by simp) (by simp) (by simp) hs

/-- The cross-checks of the load keep the law (R184, R185). -/
theorem crossChecked {s : State} (hs : L s) : L s.crossChecked := by
  have hplace : ∀ (l : List Nat) {t : State}, L t → L (l.foldl State.placeBinding t) := fun l => by
    induction l with
    | nil => exact fun h => h
    | cons a l ih =>
      intro t ht
      refine ih ?_
      unfold State.placeBinding
      dsimp only
      split
      · split
        · split
          · exact hL.frame (s := t) rfl rfl rfl ht
          · exact hL.asm _ _ _ (.inl rfl) ht
        · exact hL.asm _ _ _ (.inl rfl) ht
      · exact ht
  have hstock : ∀ (l : List Nat) {t : State}, L t → L (l.foldl State.checkAsmStock t) := fun l => by
    induction l with
    | nil => exact fun h => h
    | cons a l ih =>
      intro t ht
      refine ih ?_
      unfold State.checkAsmStock
      split
      · split
        · exact ht
        · exact hL.frame (by simp) (by simp) (by simp) (hL.asm t a { t.asm a with stock := none } (.inl rfl) ht)
      · exact ht
  have hrefs : L s.checkReferences :=
    hL.map s (fun r => if s.namesInvalid r then r.clearMark else r) (fun r => by split <;> rfl) hs
  have hactive : L s.checkReferences.checkActive := hL.frame (by simp) (by simp) (by simp) hrefs
  have hplaced : L s.checkReferences.checkActive.placeBindings := hplace _ hactive
  unfold State.crossChecked State.checkStock
  exact hstock _ (hL.frame (s := s.checkReferences.checkActive.placeBindings) (by simp) (by simp) (by simp) hplaced)

/-- Every event but those of the builder and the store keeps the law. -/
theorem event (i : Instr) (hi : storeEvent i = false) {s : State} (hs : L s) : L (Machine.event s i) := by
  cases i
  case requestFrameEnd p l b =>
    obtain ⟨⟨hatb, -⟩, -, ⟨-, hrst, -⟩, -, ⟨hhob, -⟩, -⟩ := frame_of_port (transact_frame_eq s p l b).1
    exact hL.frame hatb hhob hrst hs
  case replyRead p n =>
    obtain ⟨⟨hatb, -⟩, -, ⟨-, hrst, -⟩, -, ⟨hhob, -⟩, -⟩ := frame_of_port (transact_read_eq s p n).1
    exact hL.frame hatb hhob hrst hs
  case openSeen d => exact hL.crib.drawerLaw.seeOpen d hs
  case closeSeen d => exact hL.crib.drawerLaw.seeClose d hs
  case presenceLevelChange d b => exact hL.crib.drawerLaw.seePresence d b hs
  case pulseWidthElapsed => exact keeps_ite hs fun _ => hL.crib.drawerLaw.elapsePulse hs
  case overcurrent => exact hL.crib.drawerLaw.assertSense hs
  case waitExpiry d => exact keeps_ite hs fun _ => hL.crib.drawerLaw.expireWait d hs
  case openTimeExpiry d => exact keeps_ite hs fun _ => hL.frame (by simp) (by simp) (by simp) hs
  case lockExpiry a => exact keeps_ite hs fun _ => hL.expireLock a hs
  case discardExpiry n => exact keeps_ite hs fun _ => hL.freeSlot _ _ hs
  case entryFormation => cases hi
  case slotBuildCompletion => cases hi
  case readAheadBuildCompletion => cases hi
  case commitCompletion => cases hi
  case powerOn => cases hi
  case powerLoss o => cases hi
  case resetInputAsserted o => cases hi
  case resetInputReleased => cases hi
  case loadEnd => cases hi
  case mntInputChange b => exact hL.frame (s := s) rfl rfl rfl hs
  case overcurrentSenseReleased => exact hL.frame (s := s) rfl rfl rfl hs
  all_goals exact hs

end RecordLaw

end Sys2Proof.Machine
end

section
/-! PROOFS. Every step keeps the commit queue lawful, used within its saturation value, and the active set certified. -/

namespace Sys2Proof.Machine

open Sys2Proof

variable {s t : State}

/-! ### The commit queue (R178 to R180) -/

/-- The keys wait once each, and none waits whose commit in flight is redirtied. -/
def CommitSound (s : State) : Prop :=
  s.rst.queue.Nodup ∧ ∀ c, s.rst.flight = some c → c.redirty = true → c.key ∉ s.rst.queue

/-- The queue is sound and an idle engine leaves no key waiting: the commit law but for the load. -/
def CommitWell (s : State) : Prop := CommitSound s ∧ (s.rst.flight = none → s.rst.queue = [])

theorem commitLaw_iff : CommitLaw s ↔ CommitWell s ∧ ∀ x, s.phase = .load x → s.rst.queue = [] ∧ s.rst.flight = none := by
  unfold CommitLaw CommitWell CommitSound
  tauto

theorem commitWell_of_rst (h : t.rst = s.rst) (hs : CommitWell s) : CommitWell t := by
  unfold CommitWell CommitSound
  rw [h]
  exact hs

/-- An engine kicked leaves no key waiting while it is idle (R179). -/
theorem kickEngine_commitWell (hs : CommitSound s) : CommitWell s.kickEngine := by
  obtain ⟨hnodup, hredirty⟩ := hs
  unfold State.kickEngine
  split
  · next k q hf hq =>
    rw [hq] at hnodup
    refine ⟨⟨(List.nodup_cons.mp hnodup).2, fun c hc hr => ?_⟩, fun h => nomatch h⟩
    cases hc
    cases hr
  · next h =>
    refine ⟨⟨hnodup, hredirty⟩, fun hf => ?_⟩
    cases hq : s.rst.queue with
    | nil => rfl
    | cons k q => exact (h k q hf hq).elim

theorem commitSound_append (hs : CommitSound s) {k : Nat} (hk : k ∉ s.rst.queue)
    (hflight : ∀ c, s.rst.flight = some c → c.key ≠ k) : CommitSound (s.setCommitQueue (s.rst.queue ++ [k])) := by
  obtain ⟨hnodup, hredirty⟩ := hs
  refine ⟨List.nodup_append.mpr ⟨hnodup, List.nodup_singleton k, fun x hx y hy => ?_⟩, fun c hc hr hmem => ?_⟩
  · rw [List.mem_singleton] at hy
    subst hy
    exact fun e => hk (e ▸ hx)
  · rcases List.mem_append.mp hmem with hmem | hmem
    · exact hredirty c hc hr hmem
    · exact hflight c hc (List.mem_singleton.mp hmem)

theorem enqueueKey_commitSound (k : Nat) (hs : CommitSound s) : CommitSound (s.enqueueKey k) := by
  unfold State.enqueueKey
  split
  · exact hs
  · next hk =>
    split
    · next f hf =>
      split
      · next hfk =>
        refine ⟨hs.1, fun c hc _ => ?_⟩
        cases hc
        exact hfk ▸ hk
      · next hfk => exact commitSound_append hs hk fun c hc e => hfk (by rw [hf] at hc; cases hc; exact e)
    · next hf => exact commitSound_append hs hk fun c hc => by rw [hf] at hc; cases hc

theorem dirty_commitWell (k : Nat) (hs : CommitSound s) : CommitWell (s.dirty k) :=
  kickEngine_commitWell (enqueueKey_commitSound k hs)

theorem sweepDirty_commitWell (k : Nat) (hs : CommitWell s) : CommitWell (s.sweepDirty k) := by
  unfold State.sweepDirty
  split
  · next f hf =>
    split
    · next hk =>
      have hclear : CommitSound (s.setFlight (some { f with redirty := false })) :=
        ⟨hs.1.1, fun c hc hr => by cases hc; cases hr⟩
      dsimp only
      split
      · exact ⟨hclear, fun h => nomatch h⟩
      · next hmem =>
        refine ⟨⟨?_, fun c hc hr => by cases hc; cases hr⟩, fun h => nomatch h⟩
        exact List.nodup_append.mpr ⟨hs.1.1, List.nodup_singleton k, fun x hx y hy e =>
          hmem (by rw [List.mem_singleton] at hy; rw [← hy, ← e]; exact hx)⟩
    · exact dirty_commitWell k hs.1
  · exact dirty_commitWell k hs.1

theorem requeueDirty_commitWell (k : Nat) (hs : CommitWell s) : CommitWell (s.requeueDirty k) := by
  obtain ⟨⟨hnodup, hredirty⟩, -⟩ := hs
  exact dirty_commitWell k ⟨hnodup.erase _, fun c hc hr hmem => hredirty c hc hr (List.mem_of_mem_erase hmem)⟩

theorem commitWell_record : RecordLaw CommitWell where
  frame _ _ hrst := commitWell_of_rst hrst
  asm _ _ _ _ := commitWell_of_rst rfl
  map _ _ _ := commitWell_of_rst rfl
  disturb _ _ := commitWell_of_rst (by simp)
  freeSlot _ _ := commitWell_of_rst rfl
  dirty _ k hs := dirty_commitWell k hs.1
  sweepDirty _ k := sweepDirty_commitWell k
  requeueDirty _ k := requeueDirty_commitWell k

/-- A part with nothing to commit meets the commit law. -/
theorem commitLaw_of_empty (hq : s.rst.queue = []) (hf : s.rst.flight = none) : CommitLaw s := by
  refine ⟨by rw [hq]; exact List.nodup_nil, fun _ => hq, fun c hc => ?_, fun _ _ => ⟨hq, hf⟩⟩
  rw [hf] at hc
  cases hc

theorem commitLaw_of_phase (hw : CommitWell t) (hphase : ∀ x, t.phase = .load x → False) : CommitLaw t :=
  commitLaw_iff.mpr ⟨hw, fun x hx => (hphase x hx).elim⟩

theorem commitLaw_of_frame (hrst : t.rst = s.rst) (hphase : t.phase = s.phase) (hs : CommitLaw s) : CommitLaw t := by
  unfold CommitLaw
  rw [hrst, hphase]
  exact hs

theorem loadBegin_commitLaw (s : State) (c : Cause) : CommitLaw (s.loadBegin c) := commitLaw_of_empty rfl rfl

/-- The end of a drain finds nothing to commit (R188). -/
theorem endDrain_commitLaw (hs : CommitLaw s) : CommitLaw s.endDrain := keeps_ite hs fun _ => loadBegin_commitLaw s _

/-- Every request but RESTART leaves the phase. -/
theorem handler_phase (i : Instr) (hi : i ≠ .restart) (s : State) : (handler i s).1.phase = s.phase := by
  cases i
  case restart => exact absurd rfl hi
  all_goals simp [handler]

theorem handler_commitLaw (i : Instr) (hrun : s.phase = .running) (hs : CommitLaw s) : CommitLaw (handler i s).1 := by
  by_cases hi : i = .restart
  · subst hi
    simp only [handler, restart]
    split
    · exact hs
    · split
      · exact hs
      · exact endDrain_commitLaw (commitLaw_of_phase (commitWell_of_rst (by simp) (commitLaw_iff.mp hs).1)
          fun x hx => nomatch hx)
  · refine commitLaw_of_phase ?_ fun x hx => by rw [handler_phase i hi, hrun] at hx; cases hx
    by_cases hh : ∃ c p n, i = .handoff c p n
    · obtain ⟨c, p, n, rfl⟩ := hh
      exact commitWell_of_rst (by simp [handler]) (commitLaw_iff.mp hs).1
    · exact commitWell_record.handler i hi (fun c p n h => hh ⟨c, p, n, h⟩) (commitLaw_iff.mp hs).1

/-- The commit that ends leaves the queue with the key redirtied behind it, and the engine takes the next (R180). -/
theorem completeCommit_commitLaw (hact : s.phase.active = true) (hs : CommitLaw s) : CommitLaw s.completeCommit := by
  rcases completeCommit_cases s with ⟨-, h⟩ | ⟨c, q, hflight, hq, h⟩
  · rw [h]; exact hs
  · rw [h]
    refine endDrain_commitLaw (commitLaw_of_phase (kickEngine_commitWell ⟨?_, fun x hx => ?_⟩) fun x hx => ?_)
    · show q.Nodup
      rw [hq]
      split
      · next hr =>
        exact List.nodup_append.mpr ⟨hs.1, List.nodup_singleton _, fun x hx y hy e =>
          hr.2 (by rw [List.mem_singleton] at hy; rw [← hy, ← e]; exact hx)⟩
      · rw [List.append_nil]; exact hs.1
    · simp at hx
    · simp only [kickEngine_frame, State.setCommitQueue_phase, State.setFlight_phase, noteCommitted_frame,
        State.setPage_phase] at hx
      rw [hx] at hact
      cases hact

/-- While the blocks act, what leaves the phase and keeps the queue well keeps the law. -/
theorem commitLaw_of_active (hact : s.phase.active = true) (hphase : t.phase = s.phase) (ht : CommitWell t) :
    CommitLaw t := commitLaw_of_phase ht fun x hx => by
  rw [← hphase, hx] at hact
  cases hact

theorem interruptCommit_commitLaw (s : State) (o : PageOutcome) : CommitLaw (s.interruptCommit o) := by
  obtain ⟨-, -, -, -, -, -, hq, hf⟩ := interruptCommit_frame s o
  exact commitLaw_of_empty hq hf

/-- A switch seen open or a presence seen commits nothing. -/
theorem seeOpen_rst (s : State) (d : Nat) : (s.seeOpen d).rst = s.rst := by
  unfold State.seeOpen State.whileLoading State.setOpenLevel
  dsimp only
  repeat' split
  all_goals simp

theorem seePresence_rst (s : State) (d : Nat) (b : Bool) : (s.seePresence d b).rst = s.rst := by
  unfold State.seePresence State.whileLoading
  dsimp only
  repeat' split
  all_goals rfl

/-- Keys queued once each while the engine is idle, the first of them taken and the part announced. -/
theorem announced_commitLaw {k : List Nat} (n : Notice) (hf : s.rst.flight = none) (hk : k.Nodup) :
    CommitLaw ((s.setCommitQueue k).kickEngine.announce n) := by
  obtain ⟨-, -, -, -, -, -, -, hrst, -, hphase, -⟩ := announced_frame s k n
  refine commitLaw_of_phase (commitWell_of_rst hrst (kickEngine_commitWell ⟨hk, fun c hc => ?_⟩)) fun x hx => ?_
  · rw [State.setCommitQueue_rst, hf] at hc
    cases hc
  · rw [hphase] at hx
    cases hx

/-- The end of the load queues each key once (R186). -/
theorem loadEnd_commitLaw (c : Cause) (hload : s.phase = .load c) (hs : CommitLaw s) : CommitLaw (s.loadEnd c) := by
  have hf : s.crossChecked.rst.flight = none := by
    obtain ⟨-, -, -, -, -, -, -, -, ⟨hrst, -⟩, -⟩ := crossChecked_frame s
    rw [hrst]
    exact (hs.2.2.2 c hload).2
  rw [loadEnd_eq]
  exact announced_commitLaw _ hf (List.nodup_range.filter _)

/-- Every event keeps the commit law. -/
theorem event_commitLaw (i : Instr) (hs : CommitLaw s) : CommitLaw (event s i) := by
  have hwell := (commitLaw_iff.mp hs).1
  cases i
  case requestFrameEnd p l b =>
    obtain ⟨-, -, ⟨-, hrst, -⟩, -, -, ⟨-, hphase, -⟩, -⟩ := frame_of_port (transact_frame_eq s p l b).1
    exact commitLaw_of_frame hrst hphase hs
  case replyRead p n =>
    obtain ⟨-, -, ⟨-, hrst, -⟩, -, -, ⟨-, hphase, -⟩, -⟩ := frame_of_port (transact_read_eq s p n).1
    exact commitLaw_of_frame hrst hphase hs
  case openSeen d => exact commitLaw_of_frame (t := s.seeOpen d) (seeOpen_rst s d) (by simp) hs
  case closeSeen d =>
    show CommitLaw (s.seeClose d)
    by_cases hact : s.phase.active = true
    · exact commitLaw_of_active hact (by simp) (commitWell_record.crib.drawerLaw.seeClose d hwell)
    · refine commitLaw_of_frame ?_ (by simp) hs
      unfold State.seeClose State.whileLoading
      rw [if_neg hact]
      split <;> rfl
  case presenceLevelChange d b => exact commitLaw_of_frame (t := s.seePresence d b) (seePresence_rst s d b) (by simp) hs
  case pulseWidthElapsed => exact keeps_ite hs fun _ => commitLaw_of_frame (by simp) (by simp) hs
  case overcurrent => exact commitLaw_of_frame (t := s.assertSense) (by simp) (by simp) hs
  case waitExpiry d => exact keeps_ite hs fun _ => commitLaw_of_frame (by simp) (by simp) hs
  case openTimeExpiry d => exact keeps_ite hs fun _ => commitLaw_of_frame (by simp) (by simp) hs
  case lockExpiry a =>
    refine keeps_ite hs fun h => ?_
    rw [Bool.and_eq_true] at h
    exact commitLaw_of_active h.1 (by simp) (commitWell_record.expireLock a hwell)
  case discardExpiry n => exact keeps_ite hs fun _ => hs
  case entryFormation =>
    exact keeps_ite hs fun _ => commitLaw_of_frame (by rw [formNext_eq]) (by rw [formNext_eq]) hs
  case slotBuildCompletion =>
    exact keeps_ite hs fun _ => commitLaw_of_frame (by rw [completeSlot_eq]) (by rw [completeSlot_eq]) hs
  case readAheadBuildCompletion =>
    exact keeps_ite hs fun _ => commitLaw_of_frame (by rw [completeReadAhead_eq]) (by rw [completeReadAhead_eq]) hs
  case commitCompletion => exact keeps_ite hs fun hact => completeCommit_commitLaw hact hs
  case powerOn =>
    refine keeps_ite hs fun hoff => keeps_ite (loadBegin_commitLaw s _) fun _ => ?_
    exact commitLaw_of_phase (commitWell_of_rst (by simp) hwell) fun x hx => nomatch hx
  case powerLoss o =>
    refine keeps_ite (commitLaw_of_phase (commitWell_of_rst rfl (commitLaw_iff.mp (interruptCommit_commitLaw s o)).1) ?_)
      fun _ => hs
    exact fun x hx => nomatch hx
  case resetInputAsserted o =>
    show CommitLaw (s.assertReset o)
    rcases assertReset_cases s o with ⟨-, h⟩ | ⟨-, -, h⟩
    · rw [h]; exact commitLaw_of_frame (s := s) rfl rfl hs
    · have hi := (commitLaw_iff.mp (interruptCommit_commitLaw (s.setResetInput true) o)).1
      rw [h]
      exact commitLaw_of_phase (commitWell_of_rst (by simp) hi) fun x hx => nomatch hx
  case resetInputReleased =>
    exact keeps_ite (commitLaw_of_frame (s := s) rfl rfl hs) fun _ => loadBegin_commitLaw _ _
  case loadEnd =>
    show CommitLaw s.finishLoad
    rcases finishLoad_cases s with ⟨c, hload, h⟩ | ⟨-, h⟩
    · rw [h]; exact loadEnd_commitLaw c hload hs
    · rw [h]; exact hs
  case mntInputChange b => exact commitLaw_of_frame (s := s) rfl rfl hs
  case overcurrentSenseReleased => exact commitLaw_of_frame (s := s) rfl rfl hs
  all_goals exact hs

/-- Every step keeps the commit law. -/
theorem step_commitLaw (h : step s = .next t) (hs : CommitLaw s) : CommitLaw t :=
  step_keeps (L := CommitLaw) (fun _ _ h => h) (fun s hs => keeps_ite hs fun _ => commitLaw_of_frame (s := s) rfl rfl hs)
    (fun _ p i _ => serve_keeps (fun s tag a => commitLaw_of_frame (by simp) (by simp))
      (fun s => commitLaw_of_frame (by simp) (by simp)) fun _ hrun => handler_commitLaw i hrun)
    (fun _ i _ => event_commitLaw i) h hs

end Sys2Proof.Machine
end

section
/-! PROOFS. Every step keeps used within its saturation value, in the records, on the pages and in flight. -/

namespace Sys2Proof.Machine

open Sys2Proof

variable {s t : State}

/-! ### What a dirtying leaves in flight -/

/-- The pages stay, and what is in flight was in flight or is a view of what stands. -/
def FlightFrom (s t : State) : Prop :=
  t.rst.pages = s.rst.pages ∧ ∀ c, t.rst.flight = some c →
    (∃ f, s.rst.flight = some f ∧ f.snapshot = c.snapshot) ∨ ∃ k, c.snapshot = s.viewOf k

theorem flightFrom_of_flight (hp : t.rst.pages = s.rst.pages) (hf : t.rst.flight = s.rst.flight) : FlightFrom s t :=
  ⟨hp, fun c hc => .inl ⟨c, hf ▸ hc, rfl⟩⟩

theorem FlightFrom.trans {u : State} (h : FlightFrom s t) (h' : FlightFrom t u) (hview : ∀ k, t.viewOf k = s.viewOf k) :
    FlightFrom s u := by
  obtain ⟨hp, hf⟩ := h
  obtain ⟨hp', hf'⟩ := h'
  refine ⟨hp'.trans hp, fun c hc => ?_⟩
  rcases hf' c hc with ⟨f, hf', he⟩ | ⟨k, hk⟩
  · rw [← he]; exact hf f hf'
  · exact .inr ⟨k, hk.trans (hview k)⟩

theorem kickEngine_flightFrom (s : State) : FlightFrom s s.kickEngine := by
  unfold State.kickEngine
  split
  · next k q _ _ => exact ⟨rfl, fun c hc => .inr ⟨k, by cases hc; rfl⟩⟩
  · exact flightFrom_of_flight rfl rfl

theorem enqueueKey_flightFrom (s : State) (k : Nat) : FlightFrom s (s.enqueueKey k) := by
  unfold State.enqueueKey
  split
  · exact flightFrom_of_flight rfl rfl
  · split
    · next f hf =>
      split
      · exact ⟨rfl, fun c hc => .inl ⟨f, hf, by cases hc; rfl⟩⟩
      · exact flightFrom_of_flight rfl rfl
    · exact flightFrom_of_flight rfl rfl

/-- A table changed element by element, read: beyond its end stands the default. -/
theorem tget_tmap_ite {α : Type} {n : Nat} (f : α → α) (d : α) (v : Vector α n) (j : Nat) :
    tget d (tmap f v) j = if j < n then f (tget d v j) else d := by
  by_cases h : j < n
  · simp [tget, tmap, List.getD_eq_getElem?_getD, h]
  · simp [tget, tmap, List.getD_eq_getElem?_getD, h]

/-- The views of the records do not read the Record Store. -/
theorem viewOf_of_rst (h : t = { s with rst := t.rst }) (k : Nat) : t.viewOf k = s.viewOf k := by
  rw [h]; rfl

theorem dirty_flightFrom (s : State) (k : Nat) : FlightFrom s (s.dirty k) :=
  (enqueueKey_flightFrom s k).trans (kickEngine_flightFrom _) fun _ => viewOf_of_rst (enqueueKey_eq s k) _

theorem sweepDirty_flightFrom (s : State) (k : Nat) : FlightFrom s (s.sweepDirty k) := by
  unfold State.sweepDirty
  split
  · next f hf =>
    split
    · dsimp only
      split <;> exact ⟨rfl, fun c hc => .inl ⟨f, hf, by cases hc; rfl⟩⟩
    · exact dirty_flightFrom s k
  · exact dirty_flightFrom s k

theorem requeueDirty_flightFrom (s : State) (k : Nat) : FlightFrom s (s.requeueDirty k) :=
  (flightFrom_of_flight (t := s.setCommitQueue (s.rst.queue.erase k)) rfl rfl).trans (dirty_flightFrom _ k) fun _ => rfl

/-! ### The law -/

/-- The view of a record in range is in range. -/
theorem viewOf_used (ha : ∀ a, (s.asm a).used ≤ usedMax) {k : Nat} {r : AsmRecord} (h : s.viewOf k = .asm r) :
    r.used ≤ usedMax := by
  unfold State.viewOf at h
  split at h
  · cases h
    exact ha k
  · repeat' split at h
    all_goals cases h

theorem usedLaw_of_flightFrom (hasm : ∀ a, t.asm a = s.asm a) (hf : FlightFrom s t) (hs : UsedLaw s) : UsedLaw t := by
  obtain ⟨ha, hp, hfl⟩ := hs
  obtain ⟨hpages, hflight⟩ := hf
  refine ⟨fun a => hasm a ▸ ha a, fun k j r x h => hp k j r x ?_, fun c r hc hr => ?_⟩
  · rw [← h]
    simp only [State.page, hpages]
  · rcases hflight c hc with ⟨f, hf, he⟩ | ⟨k, hk⟩
    · exact hfl f r hf (he.trans hr)
    · exact viewOf_used ha (hk.symm.trans hr)

theorem usedLaw_of_rst (hasm : ∀ a, (t.asm a).used ≤ usedMax) (hrst : t.rst = s.rst) (hs : UsedLaw s) : UsedLaw t := by
  obtain ⟨-, hp, hf⟩ := hs
  exact ⟨hasm, fun k j r x h => hp k j r x (by simpa only [State.page, hrst] using h), fun c r hc => hf c r (hrst ▸ hc)⟩

theorem usedLaw_record : RecordLaw UsedLaw where
  frame hatb _ hrst hs := usedLaw_of_rst (fun a => by simpa only [State.asm, hatb] using hs.1 a) hrst hs
  asm s a r hr hs := by
    refine usedLaw_of_rst (s := s) (fun b => ?_) rfl hs
    rw [State.setAsm_asm]
    split
    · rcases hr with hr | hr
      · rw [hr]; exact hs.1 a
      · exact hr
    · exact hs.1 b
  map s f hf hs := by
    refine usedLaw_of_rst (s := s) (fun a => ?_) rfl hs
    show (tget (blankRecord .vacant) (tmap f s.atb) a).used ≤ usedMax
    rw [tget_tmap_ite]
    split
    · rw [hf]; exact hs.1 a
    · exact Nat.zero_le _
  disturb s g hs := usedLaw_of_rst (fun a => by simpa using hs.1 a) (by simp) hs
  freeSlot s n hs := hs
  dirty s k hs := usedLaw_of_flightFrom (by simp) (dirty_flightFrom s k) hs
  sweepDirty s k hs := usedLaw_of_flightFrom (by simp) (sweepDirty_flightFrom s k) hs
  requeueDirty s k hs := usedLaw_of_flightFrom (by simp) (requeueDirty_flightFrom s k) hs

/-- What the load reads from a page is in range (R183). -/
theorem readPage_used (hp : ∀ k j r x, s.page k = .written j (.asm r) x → r.used ≤ usedMax) (k : Nat) :
    (s.readPage k).asm.used ≤ usedMax := by
  unfold State.readPage Page.read
  split
  · exact Nat.zero_le _
  · next j v c h =>
    split
    · cases v with
      | asm r => exact hp k j r c h
      | _ => exact Nat.zero_le _
    · exact Nat.zero_le _
  · exact Nat.zero_le _

theorem loadBegin_rst (s : State) (c : Cause) : (s.loadBegin c).rst = ⟨s.rst.pages, [], none⟩ := rfl

theorem loadBegin_usedLaw (c : Cause) (hs : UsedLaw s) : UsedLaw (s.loadBegin c) := by
  obtain ⟨-, hp, -⟩ := hs
  refine ⟨fun a => ?_, fun k j r x h => hp k j r x ?_, fun c r hc => ?_⟩
  rotate_left
  · simpa only [State.page, loadBegin_rst] using h
  · rw [loadBegin_rst] at hc; cases hc
  show (tget (blankRecord .vacant) (tgen 512 fun a => (s.readPage a).asm) a).used ≤ usedMax
  rw [tget_tgen]
  split
  · exact readPage_used hp a
  · exact Nat.zero_le _

theorem endDrain_usedLaw (hs : UsedLaw s) : UsedLaw s.endDrain := keeps_ite hs fun _ => loadBegin_usedLaw _ hs

/-- A page written by a commit in flight is in range. -/
theorem setPage_usedLaw (k : Nat) (p : Page) (h : ∀ j r x, p = .written j (.asm r) x → r.used ≤ usedMax)
    (hs : UsedLaw s) : UsedLaw (s.setPage k p) := by
  obtain ⟨ha, hp, hf⟩ := hs
  refine ⟨ha, fun i j r x hi => ?_, hf⟩
  rw [State.setPage_page] at hi
  split at hi
  · exact h j r x hi
  · exact hp i j r x hi

theorem setFlight_none_usedLaw (hs : UsedLaw s) : UsedLaw (s.setFlight none) := by
  obtain ⟨ha, hp, -⟩ := hs
  exact ⟨ha, hp, fun c r hc => nomatch hc⟩

theorem setCommitQueue_usedLaw (q : List Nat) (hs : UsedLaw s) : UsedLaw (s.setCommitQueue q) := hs

theorem kickEngine_usedLaw (hs : UsedLaw s) : UsedLaw s.kickEngine :=
  usedLaw_of_flightFrom (by simp) (kickEngine_flightFrom s) hs

theorem noteCommitted_usedLaw (k : Nat) (v : View) (hs : UsedLaw s) : UsedLaw (s.noteCommitted k v) := by
  unfold State.noteCommitted
  split
  · exact keeps_ite hs fun _ => usedLaw_record.asm _ _ _ (.inl rfl) hs
  · exact hs

theorem completeCommit_usedLaw (hs : UsedLaw s) : UsedLaw s.completeCommit := by
  rcases completeCommit_cases s with ⟨-, h⟩ | ⟨c, q, hc, -, h⟩
  · rw [h]; exact hs
  · rw [h]
    refine endDrain_usedLaw (kickEngine_usedLaw (setCommitQueue_usedLaw _ (setFlight_none_usedLaw
      (noteCommitted_usedLaw _ _ (setPage_usedLaw _ _ (fun j r x hw => ?_) hs)))))
    obtain ⟨-, hr, -⟩ := Page.written.inj hw
    exact hs.2.2 c r hc hr

theorem interruptCommit_usedLaw (o : PageOutcome) (hs : UsedLaw s) : UsedLaw (s.interruptCommit o) := by
  have hidle : UsedLaw ((s.setFlight none).setCommitQueue []) := setCommitQueue_usedLaw _ (setFlight_none_usedLaw hs)
  unfold State.interruptCommit
  dsimp only
  split
  · exact hidle
  · next c hc =>
    split
    · exact hidle
    · exact setPage_usedLaw _ _ (fun j r x hw => hs.2.2 c r hc (Page.written.inj hw).2.1) hidle
    · exact setPage_usedLaw _ _ (fun j r x hw => nomatch hw) hidle

theorem announced_usedLaw (k : List Nat) (n : Notice) (hs : UsedLaw s) :
    UsedLaw ((s.setCommitQueue k).kickEngine.announce n) :=
  usedLaw_record.frame (by simp) (by simp) (by simp) (kickEngine_usedLaw (setCommitQueue_usedLaw k hs))

theorem loadEnd_usedLaw (c : Cause) (hs : UsedLaw s) : UsedLaw (s.loadEnd c) := by
  rw [loadEnd_eq]
  exact announced_usedLaw _ _ (usedLaw_record.crossChecked hs)

theorem handler_usedLaw (i : Instr) (hs : UsedLaw s) : UsedLaw (handler i s).1 := by
  by_cases hi : i = .restart
  · subst hi
    simp only [handler, restart]
    split
    · exact hs
    · split
      · exact hs
      · exact endDrain_usedLaw (usedLaw_record.frame (by simp) (by simp) (by simp) hs)
  · by_cases hh : ∃ c p n, i = .handoff c p n
    · obtain ⟨c, p, n, rfl⟩ := hh
      exact usedLaw_of_rst (fun a => by simpa [handler] using hs.1 a) (by simp [handler]) hs
    · exact usedLaw_record.handler i hi (fun c p n h => hh ⟨c, p, n, h⟩) hs

theorem event_usedLaw (i : Instr) (hs : UsedLaw s) : UsedLaw (event s i) := by
  cases i
  case entryFormation =>
    exact keeps_ite hs fun _ => usedLaw_of_rst (fun a => by rw [formNext_eq]; exact hs.1 a) (by rw [formNext_eq]) hs
  case slotBuildCompletion =>
    exact keeps_ite hs fun _ => usedLaw_of_rst (fun a => by rw [completeSlot_eq]; exact hs.1 a) (by rw [completeSlot_eq]) hs
  case readAheadBuildCompletion =>
    exact keeps_ite hs fun _ => usedLaw_of_rst (fun a => by rw [completeReadAhead_eq]; exact hs.1 a)
      (by rw [completeReadAhead_eq]) hs
  case commitCompletion => exact keeps_ite hs fun _ => completeCommit_usedLaw hs
  case powerOn =>
    exact keeps_ite hs fun _ => keeps_ite (loadBegin_usedLaw _ hs) fun _ => usedLaw_record.frame (by simp) (by simp) (by simp) hs
  case powerLoss o =>
    exact keeps_ite (usedLaw_record.frame (s := s.interruptCommit o) rfl rfl rfl (interruptCommit_usedLaw o hs)) fun _ => hs
  case resetInputAsserted o =>
    have hpin : UsedLaw (s.setResetInput true) := usedLaw_record.frame (s := s) rfl rfl rfl hs
    show UsedLaw (s.assertReset o)
    rcases assertReset_cases s o with ⟨-, h⟩ | ⟨-, -, h⟩
    · rw [h]; exact hpin
    · rw [h]; exact usedLaw_record.frame (by simp) (by simp) (by simp) (interruptCommit_usedLaw o hpin)
  case resetInputReleased =>
    have hpin : UsedLaw (s.setResetInput false) := usedLaw_record.frame (s := s) rfl rfl rfl hs
    exact keeps_ite hpin fun _ => loadBegin_usedLaw _ hpin
  case loadEnd =>
    show UsedLaw s.finishLoad
    rcases finishLoad_cases s with ⟨c, -, h⟩ | ⟨-, h⟩
    · rw [h]; exact loadEnd_usedLaw c hs
    · rw [h]; exact hs
  all_goals exact usedLaw_record.event _ rfl hs

theorem tick_usedLaw (s : State) (hs : UsedLaw s) : UsedLaw { s.advance with pending := s.advance.dueExpiries } :=
  usedLaw_of_rst (s := { s with atb := tmap AsmRecord.tick s.atb })
    (usedLaw_record.map s AsmRecord.tick (fun r => by unfold AsmRecord.tick; split <;> rfl) hs).1 rfl
    (usedLaw_record.map s AsmRecord.tick (fun r => by unfold AsmRecord.tick; split <;> rfl) hs)

/-- Every step keeps used within its saturation value (R138). -/
theorem step_usedLaw (h : step s = .next t) (hs : UsedLaw s) : UsedLaw t :=
  step_keeps (L := UsedLaw) (fun _ _ h => h) (fun s hs => keeps_ite hs fun _ => tick_usedLaw s hs)
    (fun _ p i _ => serve_keeps (fun _ tag a => usedLaw_record.answer p tag a)
      (fun _ => usedLaw_record.touchNamed p i) fun _ _ => handler_usedLaw i)
    (fun _ i _ => event_usedLaw i) h hs

end Sys2Proof.Machine
end

section
/-! PROOFS. While the blocks act, every step keeps the active set certified. -/

namespace Sys2Proof.Machine

open Sys2Proof

variable {s t : State}

theorem activeLaw_of_frame (hset : ∀ k, t.refSet k = s.refSet k) (hactive : t.rfs.active = s.rfs.active)
    (hphase : t.phase.active = true → s.phase.active = true) (hs : ActiveLaw s) : ActiveLaw t := fun hp k hk => by
  rw [hset]
  exact hs (hphase hp) k (hactive ▸ hk)

/-- Where no block acts the law says nothing. -/
theorem activeLaw_of_phase (h : t.phase.active = false) : ActiveLaw t := fun hp => by rw [h] at hp; cases hp

/-- A set written with its certified mark kept keeps the law. -/
theorem setRefSet_activeLaw (k : Nat) (r : RefSet) (hr : (s.refSet k).certified = true → r.certified = true)
    (hs : ActiveLaw s) : ActiveLaw (s.setRefSet k r) := fun hp j hj => by
  rw [State.setRefSet_refSet]
  have hcert := hs hp j hj
  split
  · next h =>
    obtain ⟨rfl, -⟩ := h
    exact hr hcert
  · exact hcert

theorem withZeros_certified (a b : Nat) (r : RefSet) : (r.withZeros a b).certified = r.certified := by
  cases r <;> rfl

theorem withScales_certified (a b c d : Nat) (r : RefSet) : (r.withScales a b c d).certified = r.certified := rfl

theorem withCertified_certified (r : RefSet) (h : r.isSpanned = true) : (r.withCertified true).certified = true := by
  cases r
  case spanned => rfl
  all_goals cases h

theorem dirty_activeLaw (k : Nat) (hs : ActiveLaw s) : ActiveLaw (s.dirty k) :=
  activeLaw_of_frame (by simp) (by simp) (by simp) hs

theorem loadBegin_activeLaw (s : State) (c : Cause) : ActiveLaw (s.loadBegin c) := activeLaw_of_phase rfl

theorem endDrain_activeLaw (hs : ActiveLaw s) : ActiveLaw s.endDrain := keeps_ite hs fun _ => loadBegin_activeLaw s _

theorem closeSession_activeLaw (n : Int) (hs : ActiveLaw s) : ActiveLaw (closeSession n s).1 := by
  rcases (closeSession_checked s n).cases with ⟨st, h⟩ | ⟨x, -, -, -, h⟩
  · rw [h]; exact hs
  · rw [h]
    split
    · exact activeLaw_of_frame (by simp) (by simp) (by simp) hs
    · next k _ =>
      unfold closeZero
      split
      · exact activeLaw_of_frame (by simp) (by simp) (by simp) hs
      · next a b _ _ =>
        have hset := setRefSet_activeLaw k ((s.refSet k).withZeros a b) (by rw [withZeros_certified]; exact id) hs
        exact activeLaw_of_frame (by simp) (by simp) (by simp) hset
    · next k lm dm _ =>
      unfold closeSpan
      dsimp only
      split
      · exact activeLaw_of_frame (by simp) (by simp) (by simp) hs
      · exact activeLaw_of_frame (by simp) (by simp) (by simp) hs
      · next sl sr _ _ =>
        have hset := setRefSet_activeLaw k ((s.refSet k).withScales sl sr lm dm) id hs
        exact activeLaw_of_frame (by simp) (by simp) (by simp) hset

theorem handler_activeLaw (i : Instr) (hrun : s.phase = .running) (hs : ActiveLaw s) : ActiveLaw (handler i s).1 := by
  cases i
  case sessionClose n => exact closeSession_activeLaw n hs
  case selectReference k =>
    rcases (selectReference_checked s k).cases with ⟨st, h⟩ | ⟨-, -, hcert, h⟩
    · simp only [handler, h]; exact hs
    · simp only [handler, h]
      refine keeps_ite (dirty_activeLaw _ fun hp j hj => ?_) fun _ => hs
      cases hj
      exact hcert
  case certifyReference k =>
    rcases (certifyReference_checked s k).cases with ⟨st, h⟩ | ⟨-, hspan, -, h⟩
    · simp only [handler, h]; exact hs
    · simp only [handler, h]
      exact dirty_activeLaw _ (setRefSet_activeLaw _ _ (fun _ => withCertified_certified _ hspan) hs)
  case unlockReference k =>
    rcases (unlockReference_checked s k).cases with ⟨st, h⟩ | ⟨-, -, hne, h⟩
    · simp only [handler, h]; exact hs
    · simp only [handler, h]
      refine dirty_activeLaw _ fun hp j hj => ?_
      rw [State.setRefSet_refSet, if_neg fun e : k = j ∧ k < 4 => hne (e.1 ▸ hj)]
      exact hs hp j hj
  case restart =>
    simp only [handler, restart]
    split
    · exact hs
    · split
      · exact hs
      · exact endDrain_activeLaw (activeLaw_of_frame (by simp) (by simp) (fun _ => by rw [hrun]; rfl) hs)
  all_goals exact activeLaw_of_frame (by simp [handler]) (by simp [handler]) (by simp [handler]) hs

/-- An active set that is not certified becomes none at the end of the load (R66). -/
theorem crossChecked_active (s : State) (k : Nat) (hk : s.crossChecked.rfs.active = some k) :
    (s.crossChecked.refSet k).certified = true := by
  have hrfs : s.crossChecked.rfs = s.checkReferences.checkActive.rfs := by
    unfold State.crossChecked
    simp only [checkStock_frame, settleDrawers_frame, placeBindings_frame]
  have hset : s.crossChecked.refSet k = s.checkReferences.checkActive.refSet k := by simp only [State.refSet, hrfs]
  rw [hrfs] at hk
  rw [hset]
  unfold State.checkActive at hk ⊢
  split
  · next j hj =>
    rw [hj] at hk
    split
    · next hc =>
      dsimp only at hk
      rw [if_pos hc, hj] at hk
      cases hk
      exact hc
    · next hc =>
      dsimp only at hk
      rw [if_neg hc] at hk
      cases hk
  · next hj =>
    rw [hj] at hk
    dsimp only at hk
    rw [hj] at hk
    cases hk

theorem loadEnd_activeLaw (s : State) (c : Cause) : ActiveLaw (s.loadEnd c) := fun _ k hk => by
  obtain ⟨-, -, ⟨hrfs, hset⟩, -⟩ := loadEnd_frame (s := s) c
  rw [hset]
  exact crossChecked_active s k (hrfs ▸ hk)

theorem event_activeLaw (i : Instr) (hs : ActiveLaw s) : ActiveLaw (event s i) := by
  cases i
  case requestFrameEnd p l b =>
    obtain ⟨-, -, ⟨⟨hrfs, hset⟩, -⟩, -, -, ⟨-, hphase, -⟩, -⟩ := frame_of_port (transact_frame_eq s p l b).1
    exact activeLaw_of_frame hset (by rw [hrfs]) (fun h => hphase ▸ h) hs
  case replyRead p n =>
    obtain ⟨-, -, ⟨⟨hrfs, hset⟩, -⟩, -, -, ⟨-, hphase, -⟩, -⟩ := frame_of_port (transact_read_eq s p n).1
    exact activeLaw_of_frame hset (by rw [hrfs]) (fun h => hphase ▸ h) hs
  case openSeen d => exact activeLaw_of_frame (t := s.seeOpen d) (by simp) (by simp) (by simp) hs
  case closeSeen d => exact activeLaw_of_frame (t := s.seeClose d) (by simp) (by simp) (by simp) hs
  case presenceLevelChange d b => exact activeLaw_of_frame (t := s.seePresence d b) (by simp) (by simp) (by simp) hs
  case pulseWidthElapsed => exact keeps_ite hs fun _ => activeLaw_of_frame (by simp) (by simp) (by simp) hs
  case overcurrent => exact activeLaw_of_frame (t := s.assertSense) (by simp) (by simp) (by simp) hs
  case waitExpiry d => exact keeps_ite hs fun _ => activeLaw_of_frame (by simp) (by simp) (by simp) hs
  case openTimeExpiry d => exact keeps_ite hs fun _ => activeLaw_of_frame (by simp) (by simp) (by simp) hs
  case lockExpiry a => exact keeps_ite hs fun _ => activeLaw_of_frame (by simp) (by simp) (by simp) hs
  case discardExpiry n => exact keeps_ite hs fun _ => hs
  case entryFormation =>
    exact keeps_ite hs fun _ => activeLaw_of_frame (fun k => by rw [formNext_eq]; rfl) (by rw [formNext_eq])
      (by rw [formNext_eq]; exact id) hs
  case slotBuildCompletion =>
    exact keeps_ite hs fun _ => activeLaw_of_frame (fun k => by rw [completeSlot_eq]; rfl) (by rw [completeSlot_eq])
      (by rw [completeSlot_eq]; exact id) hs
  case readAheadBuildCompletion =>
    exact keeps_ite hs fun _ => activeLaw_of_frame (fun k => by rw [completeReadAhead_eq]; rfl)
      (by rw [completeReadAhead_eq]) (by rw [completeReadAhead_eq]; exact id) hs
  case commitCompletion =>
    refine keeps_ite hs fun _ => ?_
    rcases completeCommit_cases s with ⟨-, h⟩ | ⟨c, q, -, -, h⟩
    · rw [h]; exact hs
    · rw [h]; exact endDrain_activeLaw (activeLaw_of_frame (by simp) (by simp) (by simp) hs)
  case powerOn => exact keeps_ite hs fun _ => keeps_ite (loadBegin_activeLaw s _) fun _ => activeLaw_of_phase rfl
  case powerLoss o => exact keeps_ite (activeLaw_of_phase rfl) fun _ => hs
  case resetInputAsserted o =>
    show ActiveLaw (s.assertReset o)
    rcases assertReset_cases s o with ⟨-, h⟩ | ⟨-, -, h⟩
    · rw [h]; exact activeLaw_of_frame (s := s) (fun _ => rfl) rfl id hs
    · rw [h]; exact activeLaw_of_phase rfl
  case resetInputReleased =>
    exact keeps_ite (activeLaw_of_frame (s := s) (fun _ => rfl) rfl id hs) fun _ => loadBegin_activeLaw _ _
  case loadEnd =>
    show ActiveLaw s.finishLoad
    rcases finishLoad_cases s with ⟨c, -, h⟩ | ⟨-, h⟩
    · rw [h]; exact loadEnd_activeLaw s c
    · rw [h]; exact hs
  case mntInputChange b => exact activeLaw_of_frame (s := s) (fun _ => rfl) rfl id hs
  case overcurrentSenseReleased => exact activeLaw_of_frame (s := s) (fun _ => rfl) rfl id hs
  all_goals exact hs

/-- Every step keeps the active set certified (R60, R61). -/
theorem step_activeLaw (h : step s = .next t) (hs : ActiveLaw s) : ActiveLaw t :=
  step_keeps (L := ActiveLaw) (fun _ _ h => h)
    (fun s hs => keeps_ite hs fun _ => activeLaw_of_frame (s := s) (fun _ => rfl) rfl id hs)
    (fun _ p i _ => serve_keeps (fun s tag a => activeLaw_of_frame (by simp) (by simp) (by simp))
      (fun s => activeLaw_of_frame (by simp) (by simp) (by simp)) fun _ hrun => handler_activeLaw i hrun)
    (fun _ i _ => event_activeLaw i) h hs

end Sys2Proof.Machine
end

section
/-! PROOFS. Every step keeps one holder for an identity; with the laws of the commit queue, of used and of the active set these
are the store laws. -/

namespace Sys2Proof.Machine

open Sys2Proof

variable {s t : State}

/-! ### The identities that slots and buffers hold -/

/-- Every slot and every read-ahead buffer holds the identity it held. -/
def SameIdents (s t : State) : Prop :=
  (∀ i, (t.slot i).ident = (s.slot i).ident) ∧ ∀ c, (t.buffer c).ident = (s.buffer c).ident

theorem sameIdents_of_hob (h : t.hob = s.hob) : SameIdents s t :=
  ⟨fun i => by simp only [State.slot, h], fun c => by simp only [State.buffer, h]⟩

theorem SameIdents.trans {u : State} (h : SameIdents s t) (h' : SameIdents t u) : SameIdents s u :=
  ⟨fun i => (h'.1 i).trans (h.1 i), fun c => (h'.2 c).trans (h.2 c)⟩

theorem SameIdents.slotLaw (h : SameIdents s t) (hs : SlotLaw s) : SlotLaw t := by
  obtain ⟨hslot, hbuf⟩ := h
  obtain ⟨hone, hown⟩ := hs
  refine ⟨fun i j x hi hj => hone i j x (hslot i ▸ hi) (hslot j ▸ hj), fun c x hc => ?_⟩
  obtain ⟨hcell, hnone⟩ := hown c x (hbuf c ▸ hc)
  exact ⟨hcell, fun i => by rw [hslot]; exact hnone i⟩

theorem slot_disturbed_ident (g : Signal) (x : Slot) : (x.disturbed g).ident = x.ident := by
  have hmark : ∀ h : Held, (h.mark g).ident = h.ident := fun h => by
    unfold Held.mark
    split
    · split <;> rfl
    · rfl
  cases x <;> simp [Slot.disturbed, Slot.ident, hmark]

theorem buffer_disturbed_ident (g : Signal) (b : Bool) (x : Buffer) : (x.disturbed g b).ident = x.ident := by
  cases x <;> simp only [Buffer.disturbed]
  all_goals split <;> rfl

/-- A slot written with the identity it held. -/
theorem setSlot_sameIdents {n : Nat} {x : Slot} (h : x.ident = (s.slot n).ident) : SameIdents s (s.setSlot n x) := by
  refine ⟨fun i => ?_, fun c => rfl⟩
  rw [State.setSlot_slot]
  split
  · next e => rw [h, e.1]
  · rfl

theorem kickBuilder_sameIdents (s : State) : SameIdents s s.kickBuilder := by
  unfold State.kickBuilder
  split
  · exact sameIdents_of_hob rfl
  · split
    · next i q _ =>
      dsimp only
      split
      · next h hi =>
        refine SameIdents.trans (t := s.setHob { s.hob with slotBuilds := q }) ⟨fun _ => rfl, fun _ => rfl⟩ ?_
        exact (setSlot_sameIdents (by rw [hi]; rfl)).trans ⟨fun _ => rfl, fun _ => rfl⟩
      · exact ⟨fun _ => rfl, fun _ => rfl⟩
    · dsimp only
      split <;> exact ⟨fun _ => rfl, fun _ => rfl⟩
    · exact sameIdents_of_hob rfl

theorem disturb_sameIdents (s : State) (g : Signal) : SameIdents s (s.disturb g) := by
  have hslots : ∀ i, (tget .free (tmap (Slot.disturbed g) s.hob.slots) i).ident = (s.slot i).ident := fun i => by
    rw [tget_tmap_ite]
    split
    · exact slot_disturbed_ident g _
    · next h => rw [State.slot, tget_beyond _ _ _ (Nat.not_lt.mp h)]
  have hbufs : ∀ b c, (tget .empty (tmap (Buffer.disturbed g b) s.hob.buffers) c).ident = (s.buffer c).ident := fun b c => by
    rw [tget_tmap_ite]
    split
    · exact buffer_disturbed_ident g b _
    · next h => rw [State.buffer, tget_beyond _ _ _ (Nat.not_lt.mp h)]
  have hwritten : ∀ bs : Vector Buffer 16, (∀ c, (tget .empty bs c).ident = (s.buffer c).ident) →
      SameIdents s (s.setHob { s.hob with slots := tmap (Slot.disturbed g) s.hob.slots, buffers := bs }) :=
    fun bs h => ⟨hslots, h⟩
  unfold State.disturb
  dsimp only
  have hmain : ∀ {b : Bool} {t : State}, SameIdents s t → SameIdents s (if b then t.dropBuild.kickBuilder else t) :=
    fun {b t} h => by
      cases b
      · exact h
      · exact (h.trans (u := t.dropBuild) ⟨fun _ => rfl, fun _ => rfl⟩).trans (kickBuilder_sameIdents _)
  refine hmain (hwritten _ ?_)
  split
  · intro c
    rw [tget_tset]
    split
    · next h => rw [buffer_disturbed_ident, h.1]
    · exact hbufs _ c
  · exact hbufs _

/-! ### What a request of port M does to them -/

/-- A freed slot holds no identity. -/
theorem freeSlot_slotLaw (n : Nat) (hs : SlotLaw s) : SlotLaw (s.freeSlot n) := by
  obtain ⟨hone, hown⟩ := hs
  have hslot : ∀ {i x}, ((s.freeSlot n).slot i).ident = some x → (s.slot i).ident = some x := fun {i x} h => by
    unfold State.freeSlot at h
    rw [State.setSlot_slot] at h
    split at h
    · cases h
    · exact h
  refine ⟨fun i j x hi hj => hone i j x (hslot hi) (hslot hj), fun c x hc => ?_⟩
  obtain ⟨hcell, hnone⟩ := hown c x hc
  exact ⟨hcell, fun i h => hnone i (hslot h)⟩

theorem slotLaw_record : RecordLaw SlotLaw where
  frame _ hhob _ := (sameIdents_of_hob hhob).slotLaw
  asm _ _ _ _ := (sameIdents_of_hob rfl).slotLaw
  map _ _ _ := (sameIdents_of_hob rfl).slotLaw
  disturb s g := (disturb_sameIdents s g).slotLaw
  freeSlot _ n := freeSlot_slotLaw n
  dirty _ _ := (sameIdents_of_hob (by simp)).slotLaw
  sweepDirty _ _ := (sameIdents_of_hob (by simp)).slotLaw
  requeueDirty _ _ := (sameIdents_of_hob (by simp)).slotLaw

/-- No slot holds an identity that the search does not find (R157). -/
theorem slotOf_none {i : Ident} (h : s.slotOf i = none) (n : Nat) : (s.slot n).ident ≠ some i := by
  by_cases hn : n < 4
  · have := List.find?_eq_none.mp h n (List.mem_range.mpr hn)
    simpa using this
  · rw [State.slot, tget_beyond _ _ _ (Nat.not_lt.mp hn)]
    exact fun h => nomatch h

/-- A slot that the search finds holds the identity. -/
theorem slotOf_some {i : Ident} {n : Nat} (h : s.slotOf i = some n) : (s.slot n).ident = some i := by
  simpa using List.find?_some h

/-- A buffer written with an identity of its own cell that no slot holds, or with none. -/
theorem setBuffer_slotLaw (c : Nat) (b : Buffer) (hb : ∀ x, b.ident = some x → x.cell = c ∧ ∀ i, (s.slot i).ident ≠ some x)
    (hs : SlotLaw s) : SlotLaw (s.setBuffer c b) := by
  obtain ⟨hone, hown⟩ := hs
  refine ⟨hone, fun e x he => ?_⟩
  rw [State.setBuffer_buffer] at he
  split at he
  · next h =>
    obtain ⟨hcell, hnone⟩ := hb x he
    exact ⟨hcell.trans h.1, hnone⟩
  · exact hown e x he

theorem cancelReadAhead_sameIdents (s : State) (c : Nat) : SameIdents s (s.cancelReadAhead c) := by
  unfold State.cancelReadAhead
  dsimp only
  split <;> exact ⟨fun _ => rfl, fun _ => rfl⟩

theorem queueReadAhead_slotLaw (i : Ident) (hs : SlotLaw s) : SlotLaw (s.queueReadAhead i) := by
  unfold State.queueReadAhead
  dsimp only
  split
  · exact hs
  · next h =>
    rw [Bool.not_eq_true, Option.isSome_eq_false_iff, Option.isNone_iff_eq_none] at h
    have hcancel := cancelReadAhead_sameIdents s i.cell
    have hbuf : SlotLaw ((s.cancelReadAhead i.cell).setBuffer i.cell
        (.pending ⟨i.cell, (i.start + i.size) % 128, i.size⟩)) :=
      setBuffer_slotLaw _ _ (fun x hx => by
        cases hx
        exact ⟨rfl, fun n => by rw [hcancel.1]; exact slotOf_none h n⟩) (hcancel.slotLaw hs)
    exact (kickBuilder_sameIdents _).slotLaw (SameIdents.slotLaw ⟨fun _ => rfl, fun _ => rfl⟩ hbuf)

/-- One slot takes an identity that no slot held, and no buffer holds it any more. -/
theorem slotLaw_taken {n : Nat} {i : Ident} (hno : ∀ m, (s.slot m).ident ≠ some i)
    (hslot : ∀ m y, (t.slot m).ident = some y → m = n ∧ y = i ∨ (s.slot m).ident = some y)
    (hbuf : ∀ c x, (t.buffer c).ident = some x → (s.buffer c).ident = some x ∧ x ≠ i) (hs : SlotLaw s) : SlotLaw t := by
  obtain ⟨hone, hown⟩ := hs
  refine ⟨fun a b y ha hb => ?_, fun c x hc => ?_⟩
  · rcases hslot a y ha with ⟨rfl, rfl⟩ | ha
    · rcases hslot b _ hb with ⟨rfl, -⟩ | hb
      · rfl
      · exact (hno b hb).elim
    · rcases hslot b y hb with ⟨rfl, rfl⟩ | hb
      · exact (hno a ha).elim
      · exact hone a b y ha hb
  · obtain ⟨hc, hne⟩ := hbuf c x hc
    obtain ⟨hcell, hnone⟩ := hown c x hc
    refine ⟨hcell, fun m hm => ?_⟩
    rcases hslot m x hm with ⟨-, rfl⟩ | hm
    · exact hne rfl
    · exact hnone m hm

/-- A slot takes an identity that no slot holds; the cell's buffer gives it up (R161). -/
theorem takeSlot_slotLaw (n : Nat) (i : Ident) (hno : ∀ m, (s.slot m).ident ≠ some i) (hs : SlotLaw s) :
    SlotLaw (s.takeSlot n i) := by
  have hslot : ∀ m y, ((s.setSlot n (.building ⟨i, 0, List.replicate i.size false⟩)).slot m).ident = some y →
      m = n ∧ y = i ∨ (s.slot m).ident = some y := fun m y h => by
    rw [State.setSlot_slot] at h
    split at h
    · next e => cases h; exact .inl ⟨e.1.symm, rfl⟩
    · exact .inr h
  have hcell : ∀ c, (s.buffer c).ident = some i → c = i.cell := fun c h => (hs.2 c i h).1.symm
  unfold State.takeSlot
  dsimp only
  refine (kickBuilder_sameIdents _).slotLaw ?_
  split
  · next hheld =>
    have hcancel := cancelReadAhead_sameIdents ((s.setSlot n (.building ⟨i, 0, List.replicate i.size false⟩)).setHob
      { (s.setSlot n (.building ⟨i, 0, List.replicate i.size false⟩)).hob with slotBuilds :=
        (s.setSlot n (.building ⟨i, 0, List.replicate i.size false⟩)).hob.slotBuilds ++ [n] }) i.cell
    refine slotLaw_taken hno (fun m y h => hslot m y ((hcancel.1 m).symm.trans h)) (fun c x hc => ?_) hs
    rw [State.setBuffer_buffer] at hc
    split at hc
    · cases hc
    · next hne =>
      have hc' : (s.buffer c).ident = some x := (hcancel.2 c).symm.trans hc
      refine ⟨hc', fun e => hne ?_⟩
      subst e
      obtain rfl := hcell c hc'
      refine ⟨rfl, Nat.lt_of_not_le fun hle => ?_⟩
      rw [State.buffer, tget_beyond _ _ _ hle] at hc'
      cases hc'
  · next hfree =>
    refine slotLaw_taken hno hslot (fun c x hc => ⟨hc, fun e => hfree ?_⟩) hs
    subst e
    obtain rfl := hcell c hc
    exact hc

/-- What a HANDOFF that no slot holds does to slots and buffers (R158 steps 3 to 5). -/
theorem serveFresh_slotLaw (i : Ident) (hno : ∀ m, (s.slot m).ident ≠ some i) (hs : SlotLaw s) :
    SlotLaw (s.serveFresh i).1 := by
  have hfresh : ∀ x : State × Answer, x = (match s.findSlot fun x => decide (x = .free) with
      | some n => (s.takeSlot n i).retry i n 0
      | none => (s, ⟨.busy, false, .identity i, false⟩)) → SlotLaw x.1 := by
    rintro x rfl
    split
    · exact takeSlot_slotLaw _ _ hno hs
    · exact hs
  unfold State.serveFresh
  dsimp only
  split
  · split
    · exact queueReadAhead_slotLaw _ (setBuffer_slotLaw _ _ (fun x hx => nomatch hx) hs)
    · exact hfresh _ rfl
  · exact hfresh _ rfl

theorem handoff_slotLaw (c st n : Nat) (hs : SlotLaw s) : SlotLaw (handoff c st n s).1 := by
  rcases (handoff_checked s c st n).cases with ⟨x, h⟩ | ⟨-, -, -, i, -, h⟩
  · rw [h]; exact hs
  · rw [h]
    split
    · next m hm =>
      have hident := slotOf_some hm
      split
      · next h' b t hslot =>
        unfold State.serveSlot
        split
        · refine (kickBuilder_sameIdents _).slotLaw (SameIdents.slotLaw (SameIdents.trans
            (setSlot_sameIdents (s := s) (n := m) (x := .building { h' with rebuilds := h'.rebuilds + 1 }) ?_)
              ⟨fun _ => rfl, fun _ => rfl⟩) hs)
          rw [hslot]; rfl
        · exact queueReadAhead_slotLaw _ (freeSlot_slotLaw _ hs)
      · exact hs
      · next hslot =>
        rw [hslot] at hident
        cases hident
    · next hno => exact serveFresh_slotLaw _ (slotOf_none hno) hs

/-! ### The builder's events -/

theorem completeSlot_sameIdents (s : State) : SameIdents s s.completeSlot := by
  have hself : SameIdents s s := sameIdents_of_hob rfl
  unfold State.completeSlot
  split
  · split
    · dsimp only
      refine SameIdents.trans ?_ (kickBuilder_sameIdents _)
      split
      · next h hslot =>
        have hbuilding := congrArg Slot.ident hslot
        have hdrop : SameIdents s s.dropBuild := ⟨fun _ => rfl, fun _ => rfl⟩
        split
        · exact hdrop.trans ((setSlot_sameIdents (x := .building { h with rebuilds := h.rebuilds + 1 })
            (by rw [hbuilding]; rfl)).trans ⟨fun _ => rfl, fun _ => rfl⟩)
        · exact hdrop.trans (setSlot_sameIdents (by rw [hbuilding]; rfl))
      · exact ⟨fun _ => rfl, fun _ => rfl⟩
    · exact hself
  · exact hself

theorem completeReadAhead_sameIdents (s : State) : SameIdents s s.completeReadAhead := by
  have hself : SameIdents s s := sameIdents_of_hob rfl
  unfold State.completeReadAhead
  split
  · split
    · dsimp only
      refine SameIdents.trans ?_ (kickBuilder_sameIdents _)
      split
      · next i hbuf =>
        refine SameIdents.trans (t := s.dropBuild) ⟨fun _ => rfl, fun _ => rfl⟩ ⟨fun _ => rfl, fun e => ?_⟩
        rw [State.setBuffer_buffer]
        split
        · next h => rw [← h.1, hbuf]; rfl
        · rfl
      · exact ⟨fun _ => rfl, fun _ => rfl⟩
    · exact hself
  · exact hself

theorem formNext_sameIdents (s : State) : SameIdents s s.formNext := by
  unfold State.formNext
  split
  · dsimp only
    split <;> exact ⟨fun _ => rfl, fun _ => rfl⟩
  · exact sameIdents_of_hob rfl

/-! ### The law -/

theorem loadBegin_slotLaw (s : State) (c : Cause) : SlotLaw (s.loadBegin c) := by
  have hslot : ∀ i, ((s.loadBegin c).slot i).ident = none := fun i => by
    show (tget .free (tgen 4 fun _ => Slot.free) i).ident = none
    rw [tget_tgen]
    split <;> rfl
  have hbuf : ∀ e, ((s.loadBegin c).buffer e).ident = none := fun e => by
    show (tget .empty (tgen 16 fun _ => Buffer.empty) e).ident = none
    rw [tget_tgen]
    split <;> rfl
  exact ⟨fun i j x hi => (by rw [hslot] at hi; cases hi), fun e x he => by rw [hbuf] at he; cases he⟩

theorem endDrain_slotLaw (hs : SlotLaw s) : SlotLaw s.endDrain := keeps_ite hs fun _ => loadBegin_slotLaw s _

theorem tick_slotLaw (s : State) (hs : SlotLaw s) : SlotLaw { s.advance with pending := s.advance.dueExpiries } := by
  refine SameIdents.slotLaw (s := s) ⟨fun i => ?_, fun _ => rfl⟩ hs
  show (tget .free (tmap Slot.tick s.hob.slots) i).ident = (s.slot i).ident
  rw [tget_tmap_ite]
  split
  · rw [State.slot]
    cases tget .free s.hob.slots i <;> rfl
  · next h => rw [State.slot, tget_beyond _ _ _ (Nat.not_lt.mp h)]

theorem handler_slotLaw (i : Instr) (hs : SlotLaw s) : SlotLaw (handler i s).1 := by
  by_cases hi : i = .restart
  · subst hi
    simp only [handler, restart]
    split
    · exact hs
    · split
      · exact hs
      · exact endDrain_slotLaw ((sameIdents_of_hob (by simp)).slotLaw hs)
  · by_cases hh : ∃ c p n, i = .handoff c p n
    · obtain ⟨c, p, n, rfl⟩ := hh
      exact handoff_slotLaw c p n hs
    · exact slotLaw_record.handler i hi (fun c p n h => hh ⟨c, p, n, h⟩) hs

theorem event_slotLaw (i : Instr) (hs : SlotLaw s) : SlotLaw (event s i) := by
  cases i
  case entryFormation => exact keeps_ite hs fun _ => (formNext_sameIdents s).slotLaw hs
  case slotBuildCompletion => exact keeps_ite hs fun _ => (completeSlot_sameIdents s).slotLaw hs
  case readAheadBuildCompletion => exact keeps_ite hs fun _ => (completeReadAhead_sameIdents s).slotLaw hs
  case commitCompletion =>
    refine keeps_ite hs fun _ => ?_
    rcases completeCommit_cases s with ⟨-, h⟩ | ⟨c, q, -, -, h⟩
    · rw [h]; exact hs
    · rw [h]; exact endDrain_slotLaw ((sameIdents_of_hob (by simp)).slotLaw hs)
  case powerOn =>
    exact keeps_ite hs fun _ => keeps_ite (loadBegin_slotLaw s _) fun _ => (sameIdents_of_hob (by simp)).slotLaw hs
  case powerLoss o => exact keeps_ite ((sameIdents_of_hob (by simp)).slotLaw hs) fun _ => hs
  case resetInputAsserted o =>
    show SlotLaw (s.assertReset o)
    rcases assertReset_cases s o with ⟨-, h⟩ | ⟨-, -, h⟩
    · rw [h]; exact hs
    · rw [h]; exact (sameIdents_of_hob (by simp)).slotLaw hs
  case resetInputReleased => exact keeps_ite ((sameIdents_of_hob rfl).slotLaw hs) fun _ => loadBegin_slotLaw _ _
  case loadEnd =>
    show SlotLaw s.finishLoad
    rcases finishLoad_cases s with ⟨c, -, h⟩ | ⟨-, h⟩
    · rw [h]
      obtain ⟨-, -, -, -, -, -, ⟨hhob, -⟩, -⟩ := loadEnd_frame (s := s) c
      exact (sameIdents_of_hob (hhob.trans (by simp))).slotLaw hs
    · rw [h]; exact hs
  all_goals exact slotLaw_record.event _ rfl hs

/-- Every step keeps one holder for an identity (R157, R161, R171). -/
theorem step_slotLaw (h : step s = .next t) (hs : SlotLaw s) : SlotLaw t :=
  step_keeps (L := SlotLaw) (fun _ _ h => h) (fun s hs => keeps_ite hs fun _ => tick_slotLaw s hs)
    (fun _ p i _ => serve_keeps (fun _ tag a => slotLaw_record.answer p tag a)
      (fun _ => slotLaw_record.touchNamed p i) fun _ _ => handler_slotLaw i)
    (fun _ i _ => event_slotLaw i) h hs

/-- Settles O57, by the law of each store: what a request, an event and a millisecond leave of the commit queue, of used, of
the identities that slots and buffers hold, and of the active set. -/
theorem everyStepKeepsTheStoreLaws : Obligations.EveryStepKeepsTheStoreLaws := fun _ _ h =>
  ⟨step_commitLaw h, step_usedLaw h, step_slotLaw h, step_activeLaw h⟩

end Sys2Proof.Machine
end

section
/-! PROOFS. The release set, the release queue and the driver in agreement: the invariant of the driver's turns, with the drawer
whose pulse has just ended. -/

namespace Sys2Proof.Machine

open Sys2Proof

variable {s t : State}

/-! ### The release set counted -/

/-- A table as the list of its entries. -/
theorem toList_eq_map {α : Type} {n : Nat} (d : α) (v : Vector α n) : v.toList = (List.range n).map (tget d v) := by
  refine List.ext_getElem (by simp) fun i hi _ => ?_
  rw [Vector.length_toList] at hi
  simp [tget, List.getD_eq_getElem?_getD, hi]

/-- The drawers of the release set (R67). -/
def releaseFinset (s : State) : Finset Nat := (Finset.range 64).filter fun d => (s.drawer d).state.releasing = true

theorem releaseCount_eq (s : State) : s.releaseCount = (releaseFinset s).card := by
  unfold State.releaseCount
  rw [toList_eq_map State.noDrawer, List.filter_map, List.length_map]
  simp only [releaseFinset, Finset.card, Finset.filter_val, Finset.range_val, Multiset.range, Multiset.filter_coe,
    Multiset.coe_card, Bool.decide_eq_true]
  rfl

theorem mem_releaseFinset {d : Nat} : d ∈ releaseFinset s ↔ (s.drawer d).state.releasing = true := by
  unfold releaseFinset
  rw [Finset.mem_filter, Finset.mem_range]
  refine ⟨fun h => h.2, fun h => ⟨Nat.lt_of_not_le fun hd => ?_, h⟩⟩
  rw [State.drawer, tget_beyond _ _ _ hd] at h
  cases h

theorem releaseCount_mono (h : ∀ d, (t.drawer d).state.releasing = true → (s.drawer d).state.releasing = true) :
    t.releaseCount ≤ s.releaseCount := by
  rw [releaseCount_eq, releaseCount_eq]
  exact Finset.card_le_card fun d hd => mem_releaseFinset.mpr (h d (mem_releaseFinset.mp hd))

/-- One drawer more in the release set. -/
theorem releaseCount_succ {e : Nat}
    (h : ∀ d, (t.drawer d).state.releasing = true → d = e ∨ (s.drawer d).state.releasing = true) :
    t.releaseCount ≤ s.releaseCount + 1 := by
  rw [releaseCount_eq, releaseCount_eq]
  refine (Finset.card_le_card (t := insert e (releaseFinset s)) fun d hd => ?_).trans (Finset.card_insert_le _ _)
  rw [Finset.mem_insert, mem_releaseFinset]
  exact h d (mem_releaseFinset.mp hd)

/-! ### The invariant -/

/-- Release queue, driver and drawers agree (law L4), where the driver has given up the drawer `x` that is PULSING still. -/
structure Agrees (x : Option Nat) (s : State) : Prop where
  nodup : s.drc.queue.Nodup
  queued : ∀ d, d ∈ s.drc.queue ↔ (s.drawer d).state = .queued
  pulsing : ∀ d, (s.drawer d).state = .pulsing ↔ s.drc.driver.pulsing = some d ∨ x = some d
  ended : ∀ d, x = some d → s.drc.driver.pulsing = none
  fault : s.drc.driver.fault = true → ∀ d, (s.drawer d).state.releasing = false
  count : s.releaseCount ≤ 8

/-- A drawer's open level is open exactly when it is OPEN. -/
def Drawer.levelled (r : Drawer) : Prop := r.levelOpen = decide (r.state = .opened)

/-- Every drawer but `x` has the level of its state (R69). -/
def Levelled (x : Option Nat) (s : State) : Prop := ∀ d, x ≠ some d → (s.drawer d).levelled

/-- An IDLE and OK driver leaves no drawer QUEUED (R74). -/
def DriverTook (s : State) : Prop :=
  s.drc.driver.pulsing = none → s.drc.driver.fault = false → s.drc.queue = []

theorem releaseLaw_iff : ReleaseLaw s ↔ Agrees none s ∧ DriverTook s ∧
    (∀ x, s.phase = .load x → s.drc.queue = [] ∧ s.drc.driver.pulsing = none) ∧
    (s.phase.active = true → Levelled none s) := by
  constructor
  · rintro ⟨h1, h2, h3, h4, h5, h6, h7, h8⟩
    exact ⟨⟨h1, h2, fun d => by simpa using h3 d, (fun d h => nomatch h), h4, h6⟩, h5, h7, fun h d _ => h8 h d⟩
  · rintro ⟨⟨h1, h2, h3, -, h4, h6⟩, h5, h7, h8⟩
    exact ⟨h1, h2, fun d => by simpa using h3 d, h4, h5, h6, h7, fun h d => h8 h d (fun h => nomatch h)⟩

/-- Release queue and driver stay, and so do state and open level of every drawer. -/
def SameReleases (s t : State) : Prop :=
  t.drc.queue = s.drc.queue ∧ t.drc.driver.pulsing = s.drc.driver.pulsing ∧ t.drc.driver.fault = s.drc.driver.fault ∧
    ∀ d, (t.drawer d).state = (s.drawer d).state ∧ (t.drawer d).levelOpen = (s.drawer d).levelOpen

theorem sameReleases_of_drc (h : t.drc = s.drc) : SameReleases s t :=
  ⟨by rw [h], by rw [h], by rw [h], fun d => by simp only [State.drawer, h, and_self]⟩

theorem SameReleases.trans {u : State} (h : SameReleases s t) (h' : SameReleases t u) : SameReleases s u := by
  obtain ⟨hq, hp, hf, hd⟩ := h
  obtain ⟨hq', hp', hf', hd'⟩ := h'
  exact ⟨hq'.trans hq, hp'.trans hp, hf'.trans hf, fun d => ⟨(hd' d).1.trans (hd d).1, (hd' d).2.trans (hd d).2⟩⟩

theorem SameReleases.agrees {x : Option Nat} (h : SameReleases s t) (hs : Agrees x s) : Agrees x t := by
  obtain ⟨hq, hp, hf, hd⟩ := h
  refine ⟨hq ▸ hs.nodup, fun d => ?_, fun d => ?_, fun d hx => hp ▸ hs.ended d hx, fun hfault d => ?_, ?_⟩
  · rw [hq, (hd d).1]; exact hs.queued d
  · rw [hp, (hd d).1]; exact hs.pulsing d
  · rw [(hd d).1]; exact hs.fault (hf ▸ hfault) d
  · exact (releaseCount_mono fun d h => (hd d).1 ▸ h).trans hs.count

theorem SameReleases.levelled {x : Option Nat} (h : SameReleases s t) (hs : Levelled x s) : Levelled x t := fun d hx => by
  have hd := h.2.2.2 d
  unfold Drawer.levelled
  rw [hd.1, hd.2]
  exact hs d hx

theorem SameReleases.took (h : SameReleases s t) (hs : DriverTook s) : DriverTook t := by
  obtain ⟨hq, hp, hf, -⟩ := h
  unfold DriverTook
  rw [hq, hp, hf]
  exact hs

theorem SameReleases.releaseLaw (h : SameReleases s t) (hphase : t.phase = s.phase) (hs : ReleaseLaw s) :
    ReleaseLaw t := by
  obtain ⟨ha, hk, hl, hv⟩ := releaseLaw_iff.mp hs
  refine releaseLaw_iff.mpr ⟨h.agrees ha, h.took hk, fun x hx => ?_, fun hp => h.levelled (hv (hphase ▸ hp))⟩
  obtain ⟨hq, hp, -, -⟩ := h
  rw [hq, hp]
  exact hl x (hphase ▸ hx)

/-! ### One drawer written -/

/-- A drawer that is neither QUEUED nor PULSING after it, and in the release set only if it was, is written. -/
theorem Agrees.write {x : Option Nat} (hs : Agrees x s) {d : Nat} {r : Drawer} (hd : d < 64)
    (hq : d ∉ s.drc.queue) (hp : s.drc.driver.pulsing ≠ some d) (hx : x = none ∨ x = some d)
    (hnq : r.state ≠ .queued) (hnp : r.state ≠ .pulsing)
    (hr : r.state.releasing = true → (s.drawer d).state.releasing = true) : Agrees none (s.setDrawer d r) := by
  have hdrawer : ∀ e, (s.setDrawer d r).drawer e = if d = e then r else s.drawer e := fun e => by
    rw [State.setDrawer_drawer]
    simp only [hd, and_true]
  have hrel : ∀ e, ((s.setDrawer d r).drawer e).state.releasing = true → (s.drawer e).state.releasing = true := fun e h => by
    rw [hdrawer] at h
    split at h
    · next e' => subst e'; exact hr h
    · exact h
  refine ⟨hs.nodup, fun e => ?_, fun e => ?_, fun e h => (nomatch h), fun hf e => ?_, ?_⟩
  · rw [hdrawer]
    split
    · next e' => subst e'; exact ⟨fun h => (hq h).elim, fun h => (hnq h).elim⟩
    · exact hs.queued e
  · rw [hdrawer]
    split
    · next e' =>
      subst e'
      exact ⟨fun h => (hnp h).elim, fun h => h.elim (fun h => (hp h).elim) fun h => nomatch h⟩
    · next hne =>
      rw [hs.pulsing]
      refine or_congr Iff.rfl ?_
      rcases hx with rfl | rfl
      · rfl
      · exact ⟨fun h => (hne (Option.some.inj h)).elim, fun h => nomatch h⟩
  · cases hh : ((s.setDrawer d r).drawer e).state.releasing with
    | false => rfl
    | true => rw [← hs.fault hf e, hrel e hh]
  · exact (releaseCount_mono hrel).trans hs.count

/-- The drawer written has the level of its state, and so has every other. -/
theorem Levelled.write {x : Option Nat} {d : Nat} {r : Drawer} (hs : Levelled x s) (hx : x = none ∨ x = some d)
    (hr : d < 64 → r.levelled) (hd : x = none ∨ d < 64) : Levelled none (s.setDrawer d r) := fun e _ => by
  rw [State.setDrawer_drawer]
  split
  · next h => exact hr h.2
  · next h =>
    refine hs e ?_
    rcases hx with rfl | rfl
    · exact fun h => nomatch h
    · rintro ⟨⟩
      exact h ⟨rfl, hd.resolve_left (fun h => nomatch h)⟩

end Sys2Proof.Machine
end

section
/-! PROOFS. What the driver does keeps release queue, driver and drawers in agreement. -/

namespace Sys2Proof.Machine

open Sys2Proof

variable {s t : State}

/-! ### Pulses -/

theorem lt_of_state {d : Nat} {st : DrawerState} (h : (s.drawer d).state = st) (hst : st ≠ .jammed) : d < 64 := by
  refine Nat.lt_of_not_le fun hd => hst ?_
  rw [← h, State.drawer, tget_beyond _ _ _ hd]
  rfl

theorem levelled_of_state {d : Nat} {r : Drawer} (h : (s.drawer d).levelled) (hl : r.levelOpen = (s.drawer d).levelOpen)
    (ho : (s.drawer d).state ≠ .opened) (hr : r.state ≠ .opened) : r.levelled := by
  unfold Drawer.levelled at h ⊢
  rw [hl, h, decide_eq_false ho, decide_eq_false hr]

/-- The driver takes the head of the queue: the drawer is PULSING with it (R74, R76). -/
theorem beginPulse_agrees {d : Nat} {q : List Nat} (hq : s.drc.queue = d :: q) (hp : s.drc.driver.pulsing = none)
    (hs : Agrees none s) : Agrees none ((s.setReleaseQueue q).beginPulse d) := by
  have hqueued := (hs.queued d).mp (by rw [hq]; exact List.mem_cons_self)
  have hd := lt_of_state hqueued (by decide)
  have hnodup := hs.nodup
  rw [hq, List.nodup_cons] at hnodup
  have hdrawer : ∀ e, ((s.setReleaseQueue q).beginPulse d).drawer e =
      if d = e then { s.drawer d with state := .pulsing } else s.drawer e := fun e => by simp [hd]
  have hrel : ∀ e, (((s.setReleaseQueue q).beginPulse d).drawer e).state.releasing = true →
      (s.drawer e).state.releasing = true := fun e h => by
    rw [hdrawer] at h
    split at h
    · next e' => subst e'; rw [hqueued]; rfl
    · exact h
  refine ⟨?_, fun e => ?_, fun e => ?_, fun e h => (nomatch h), fun hf e => ?_, (releaseCount_mono hrel).trans hs.count⟩
  · simpa using hnodup.2
  · rw [hdrawer]
    simp only [beginPulse_drc, State.setReleaseQueue_drc]
    split
    · next e' => subst e'; exact ⟨fun h => (hnodup.1 h).elim, (fun h => nomatch h)⟩
    · next hne =>
      rw [← hs.queued, hq, List.mem_cons]
      exact ⟨.inr, fun h => h.resolve_left (Ne.symm hne)⟩
  · rw [hdrawer]
    simp only [beginPulse_drc, Option.some.injEq, reduceCtorEq, or_false]
    split
    · next e' => exact ⟨fun _ => e', fun _ => rfl⟩
    · next hne => rw [hs.pulsing, hp]; simp [hne]
  · cases hh : (((s.setReleaseQueue q).beginPulse d).drawer e).state.releasing with
    | false => rfl
    | true => rw [← hs.fault (by simpa using hf) e, hrel e hh]

theorem beginPulse_levelled {d : Nat} {q : List Nat} (hq : (s.drawer d).state = .queued) (hs : Levelled none s) :
    Levelled none ((s.setReleaseQueue q).beginPulse d) := by
  have hwrite : Levelled none (s.setDrawer d { s.drawer d with state := .pulsing }) :=
    hs.write (.inl rfl) (fun _ => levelled_of_state (hs d (fun h => nomatch h)) rfl (by rw [hq]; decide)
      nofun) (.inl rfl)
  intro e he
  have := hwrite e he
  rw [State.setDrawer_drawer] at this
  simpa using this

/-- The pulse ends: the drawer is PULSING still, and the driver IDLE (R76). -/
theorem endPulse_agrees {d : Nat} (hp : s.drc.driver.pulsing = some d) (hs : Agrees none s) :
    Agrees (some d) s.endPulse := by
  refine ⟨hs.nodup, hs.queued, fun e => ?_, fun _ _ => rfl, hs.fault, hs.count⟩
  show (s.drawer e).state = .pulsing ↔ _
  rw [hs.pulsing, hp]
  simp

theorem sameReleases_endPulse_of (hp : s.drc.driver.pulsing = none) : SameReleases s s.endPulse :=
  ⟨rfl, hp.symm, rfl, fun _ => ⟨rfl, rfl⟩⟩

/-- The drawer whose pulse has just ended is written at rest or waiting. -/
theorem Agrees.settle {d : Nat} {r : Drawer} (hs : Agrees (some d) s) (hnq : r.state ≠ .queued)
    (hnp : r.state ≠ .pulsing) : Agrees none (s.setDrawer d r) := by
  have hstate := (hs.pulsing d).mpr (.inr rfl)
  refine hs.write (lt_of_state hstate (by decide)) (fun h => ?_) (by rw [hs.ended d rfl]; exact fun h => nomatch h) (.inr rfl)
    hnq hnp fun _ => by rw [hstate]; rfl
  rw [hs.queued, hstate] at h
  cases h

/-! ### Failed attempts (R80, R81) -/

/-- The drawers taken to a state of rest one after the other. -/
theorem foldl_drawerRest_drawer (l : List Nat) (st : DrawerState) (n : Nat) (s : State) (e : Nat) :
    (l.foldl (fun v x => State.drawerRest v x st n) s).drawer e =
      if e ∈ l ∧ e < 64 then { s.drawer e with state := st, attempts := n, waitTimer := 0 } else s.drawer e := by
  induction l generalizing s with
  | nil => simp
  | cons d l ih =>
    rw [List.foldl_cons, ih]
    simp only [drawerRest_drc, List.mem_cons]
    by_cases hd : d = e
    · subst hd
      by_cases h64 : d < 64
      · simp [h64]
      · simp [h64]
    · have hed : e ≠ d := Ne.symm hd
      simp [hd, hed]

theorem mem_releaseSet {d : Nat} : d ∈ s.releaseSet ↔ (s.drawer d).state.releasing = true := by
  unfold State.releaseSet
  rw [List.mem_filter, List.mem_range]
  refine ⟨fun h => h.2, fun h => ⟨Nat.lt_of_not_le fun hd => ?_, h⟩⟩
  rw [State.drawer, tget_beyond _ _ _ hd] at h
  cases h

/-- A driver fault leaves every drawer of the release set CLOSED and the others as they were (R81). -/
theorem driverFault_drawer (s : State) (d e : Nat) : (s.driverFault d).drawer e =
    if (s.drawer e).state.releasing = true then { s.drawer e with state := .closed, attempts := 0, waitTimer := 0 }
      else s.drawer e := by
  unfold State.driverFault
  dsimp only
  simp only [foldl_rollback_frame, notify_drawer, foldl_drawerRest_drawer]
  by_cases h : (s.drawer e).state.releasing = true
  · have hlt : e < 64 := by
      have := mem_releaseSet.mpr h
      exact List.mem_range.mp (List.mem_filter.mp this).1
    rw [if_pos ⟨mem_releaseSet.mpr h, hlt⟩, if_pos h]
    simp
  · rw [if_neg (fun h' => h (mem_releaseSet.mp h'.1)), if_neg h]
    simp

theorem driverFault_agrees {x : Option Nat} (d : Nat) (hp : s.drc.driver.pulsing = none) (hs : Agrees x s) :
    Agrees none (s.driverFault d) := by
  obtain ⟨-, -, -, -, -, -, hqueue, hdriver, -⟩ := driverFault_frame s d
  have hrest : ∀ e, ((s.driverFault d).drawer e).state.releasing = false := fun e => by
    rw [driverFault_drawer]
    split
    · rfl
    · next h => exact Bool.not_eq_true _ ▸ h
  have hstate : ∀ e st, st.releasing = true → ((s.driverFault d).drawer e).state ≠ st := fun e st hst h => by
    have := hrest e
    rw [h, hst] at this
    cases this
  refine ⟨by rw [hqueue]; exact List.nodup_nil, fun e => ?_, fun e => ?_, fun e h => (nomatch h), fun _ => hrest, ?_⟩
  · rw [hqueue]
    exact ⟨(fun h => nomatch h), fun h => (hstate e _ rfl h).elim⟩
  · rw [hdriver, hp]
    exact ⟨fun h => (hstate e _ rfl h).elim, fun h => h.elim (fun h => nomatch h) fun h => nomatch h⟩
  · exact (releaseCount_mono fun e h => by rw [hrest] at h; cases h).trans hs.count

theorem driverFault_levelled (d : Nat) (hs : Levelled none s) : Levelled none (s.driverFault d) := fun e he => by
  rw [driverFault_drawer]
  split
  · next h => exact levelled_of_state (hs e he) rfl (fun ho => by rw [ho] at h; cases h) nofun
  · exact hs e he

/-- A drawer whose pulse has failed jams, waits or is flushed with the others: all agree again (R80). -/
theorem failedAttempt_agrees {d : Nat} (hs : Agrees (some d) s) : Agrees none (s.failedAttempt d) := by
  have hsettle : ∀ r : Drawer, r.state ≠ .queued → r.state ≠ .pulsing → Agrees none (s.setDrawer d r) :=
    fun r hq hp => hs.settle hq hp
  unfold State.failedAttempt
  dsimp only
  split
  · exact driverFault_agrees d (hs.ended d rfl) hs
  · split
    · exact SameReleases.agrees (s := s.drawerRest d .jammed _) (sameReleases_of_drc (by simp)) (hsettle { s.drawer d with
        state := .jammed, attempts := (s.drawer d).attempts + 1, waitTimer := 0 } nofun nofun)
    · split
      · exact hsettle _ nofun nofun
      · exact hsettle _ nofun nofun

theorem failedAttempt_levelled {d : Nat} (hs : Agrees (some d) s) (hl : Levelled none s) :
    Levelled none (s.failedAttempt d) := by
  have hstate := (hs.pulsing d).mpr (.inr rfl)
  have hsettle : ∀ r : Drawer, r.levelOpen = (s.drawer d).levelOpen → r.state ≠ .opened →
      Levelled none (s.setDrawer d r) := fun r hr ho =>
    hl.write (.inl rfl) (fun _ => levelled_of_state (hl d (fun h => nomatch h)) hr (by rw [hstate]; decide) ho) (.inl rfl)
  unfold State.failedAttempt
  dsimp only
  split
  · exact driverFault_levelled d hl
  · split
    · exact SameReleases.levelled (s := s.drawerRest d .jammed _) (sameReleases_of_drc (by simp)) (hsettle { s.drawer d with
        state := .jammed, attempts := (s.drawer d).attempts + 1, waitTimer := 0 } rfl nofun)
    · split
      · exact hsettle _ rfl nofun
      · exact hsettle _ rfl nofun

/-- A failed attempt leaves the queue, or empties it. -/
theorem failedAttempt_queue (s : State) (d : Nat) :
    (s.failedAttempt d).drc.queue = s.drc.queue ∨ (s.failedAttempt d).drc.queue = [] := by
  unfold State.failedAttempt
  dsimp only
  split
  · exact .inr (by simp)
  · split
    · exact .inl (by simp)
    · split <;> exact .inl (by simp)

/-- The pulse of a drawer ended by an overcurrent (R79). -/
theorem overcurrentPulse_agrees {d : Nat} (hp : s.drc.driver.pulsing = some d) (hs : Agrees none s) :
    Agrees none (s.overcurrentPulse d) :=
  failedAttempt_agrees (SameReleases.agrees (s := s.endPulse) ⟨rfl, rfl, rfl, fun _ => ⟨rfl, rfl⟩⟩ (endPulse_agrees hp hs))

theorem overcurrentPulse_levelled {d : Nat} (hp : s.drc.driver.pulsing = some d) (hs : Agrees none s)
    (hl : Levelled none s) : Levelled none (s.overcurrentPulse d) :=
  failedAttempt_levelled (SameReleases.agrees (s := s.endPulse) ⟨rfl, rfl, rfl, fun _ => ⟨rfl, rfl⟩⟩ (endPulse_agrees hp hs))
    hl

theorem overcurrentPulse_queue (s : State) (d : Nat) :
    (s.overcurrentPulse d).drc.queue = s.drc.queue ∨ (s.overcurrentPulse d).drc.queue = [] :=
  failedAttempt_queue _ d

/-! ### The driver's turns (R74) -/

/-- Agreement, and an IDLE and OK driver leaves nothing queued. -/
def Settled (s : State) : Prop := Agrees none s ∧ DriverTook s

/-- The driver takes heads of the queue while it is IDLE and OK; every turn takes one, so it ends with none left. -/
theorem runDriver_settled (n : Nat) (hn : s.drc.queue.length ≤ n) (hs : Agrees none s) :
    Settled (State.runDriver n s) := by
  induction n generalizing s with
  | zero => exact ⟨hs, fun _ _ => List.eq_nil_of_length_eq_zero (Nat.le_zero.mp hn)⟩
  | succ n ih =>
    unfold State.runDriver
    split
    · next hidle =>
      rw [Bool.and_eq_true, Option.isNone_iff_eq_none] at hidle
      split
      · next hq => exact ⟨hs, fun _ _ => hq⟩
      · next d q hq =>
        have hbegin := beginPulse_agrees hq hidle.1 hs
        rw [hq, List.length_cons] at hn
        dsimp only
        split
        · refine ih ?_ (overcurrentPulse_agrees (by simp) hbegin)
          rcases overcurrentPulse_queue ((s.setReleaseQueue q).beginPulse d) d with h | h
          · rw [h]
            simp only [beginPulse_drc, State.setReleaseQueue_drc]
            omega
          · rw [h]; exact Nat.zero_le _
        · exact ⟨hbegin, fun h => by simp at h⟩
    · next hbusy => exact ⟨hs, fun hp hf => (hbusy (by simp [hp, hf])).elim⟩

theorem runDriver_levelled (n : Nat) (hs : Agrees none s) (hl : Levelled none s) : Levelled none (State.runDriver n s) := by
  induction n generalizing s with
  | zero => exact hl
  | succ n ih =>
    unfold State.runDriver
    split
    · next hidle =>
      rw [Bool.and_eq_true, Option.isNone_iff_eq_none] at hidle
      split
      · exact hl
      · next d q hq =>
        have hqueued := (hs.queued d).mp (by rw [hq]; exact List.mem_cons_self)
        have hbegin := beginPulse_agrees hq hidle.1 hs
        have hlevel := beginPulse_levelled (q := q) hqueued hl
        dsimp only
        split
        · exact ih (overcurrentPulse_agrees (by simp) hbegin) (overcurrentPulse_levelled (by simp) hbegin hlevel)
        · exact hlevel
    · exact hl

theorem kickDriver_settled (hs : Agrees none s) : Settled s.kickDriver := runDriver_settled _ (Nat.le_refl _) hs

theorem kickDriver_levelled (hs : Agrees none s) (hl : Levelled none s) : Levelled none s.kickDriver :=
  runDriver_levelled _ hs hl

/-! ### A drawer queued (R73, R75) -/

/-- A drawer at rest or waiting joins the queue of a driver that is OK, the release set having room for it. -/
theorem queueDrawer_agrees {d : Nat} (n : Nat) (hd : d < 64) (hs : Agrees none s) (hf : s.drc.driver.fault = false)
    (hq : (s.drawer d).state ≠ .queued) (hp : (s.drawer d).state ≠ .pulsing)
    (hroom : (s.drawer d).state.releasing = true ∨ s.releaseCount < 8) : Agrees none (s.queueDrawer d n) := by
  have hdrawer : ∀ e, (s.queueDrawer d n).drawer e =
      if d = e then { s.drawer d with state := .queued, attempts := n, waitTimer := 0 } else s.drawer e := fun e => by
    simp [hd]
  have hout : d ∉ s.drc.queue := fun h => hq ((hs.queued d).mp h)
  refine ⟨?_, fun e => ?_, fun e => ?_, fun e h => (nomatch h), fun h => ?_, ?_⟩
  · rw [(queueDrawer_drc s d n).1]
    exact List.nodup_append.mpr ⟨hs.nodup, List.nodup_singleton d, fun x hx y hy e =>
      hout (by rw [List.mem_singleton] at hy; rw [← hy, ← e]; exact hx)⟩
  · rw [(queueDrawer_drc s d n).1, hdrawer, List.mem_append, List.mem_singleton]
    split
    · next e' => exact ⟨fun _ => rfl, fun _ => .inr e'.symm⟩
    · next hne => rw [hs.queued]; exact ⟨fun h => h.elim id fun h => (hne h.symm).elim, .inl⟩
  · rw [(queueDrawer_drc s d n).2.1, hdrawer]
    split
    · next e' =>
      subst e'
      have := hs.pulsing d
      exact ⟨(fun h => nomatch h), fun h => (hp (this.mpr h)).elim⟩
    · exact hs.pulsing e
  · rw [(queueDrawer_drc s d n).2.1, hf] at h
    cases h
  · rcases hroom with hrel | hroom
    · refine (releaseCount_mono fun e h => ?_).trans hs.count
      rw [hdrawer] at h
      split at h
      · next e' => exact e' ▸ hrel
      · exact h
    · refine (releaseCount_succ (e := d) (s := s) fun e h => ?_).trans hroom
      rw [hdrawer] at h
      split at h
      · next e' => exact .inl e'.symm
      · exact .inr h

theorem queueDrawer_levelled {d : Nat} (n : Nat) (ho : (s.drawer d).state ≠ .opened) (hl : Levelled none s) :
    Levelled none (s.queueDrawer d n) := by
  have hwrite : Levelled none (s.setDrawer d { s.drawer d with state := .queued, attempts := n, waitTimer := 0 }) :=
    hl.write (.inl rfl) (fun _ => levelled_of_state (hl d (fun h => nomatch h)) rfl ho nofun) (.inl rfl)
  exact hwrite

end Sys2Proof.Machine
end

section
/-! PROOFS. Every step keeps the release set, the release queue and the driver in agreement. -/

namespace Sys2Proof.Machine

open Sys2Proof

variable {s t : State}

/-! ### What leaves state and level of every drawer -/

theorem setStock_sameReleases (s : State) (d : Nat) (k : Option Nat) (m : Bool) : SameReleases s (s.setStock d k m) := by
  refine ⟨by simp, by simp, by simp, fun e => ?_⟩
  simp only [setStock_frame]
  split
  · next h => rw [← h.1]; exact ⟨rfl, rfl⟩
  · exact ⟨rfl, rfl⟩

/-- What keeps the Drawer Controller of a state that keeps releases keeps them. -/
theorem SameReleases.drc {u : State} (h : SameReleases s t) (hu : u.drc = t.drc) : SameReleases s u :=
  h.trans (sameReleases_of_drc hu)

theorem closeOp_sameReleases (s : State) (d : Nat) (o : Operation) (b : Bool) : SameReleases s (s.closeOp d o b) := by
  have hstock : ∀ (u : State) k m, u.drc = s.drc → SameReleases s (u.setStock d k m) := fun u k m h =>
    (sameReleases_of_drc h).trans (setStock_sameReleases u d k m)
  unfold State.closeOp
  split
  · unfold State.closeStock
    dsimp only
    split
    · split
      · exact (hstock (s.changeAsm o.asm { s.asm o.asm with stock := some d }) (some o.asm) (s.drawer d).mismatch
          (by simp)).drc (by simp)
      · exact (hstock s (s.drawer d).stock true rfl).drc (by simp)
    · exact sameReleases_of_drc (by simp)
  · unfold State.closeWithdraw
    dsimp only
    split
    · exact sameReleases_of_drc (by simp)
    · exact (hstock (s.changeAsm o.asm { s.asm o.asm with stock := none }) none (s.drawer d).mismatch (by simp)).drc (by simp)
  · next c p link _ _ =>
    unfold State.closeIssue
    dsimp only
    split
    · exact sameReleases_of_drc (by simp)
    · have hset := hstock (s.changeAsm o.asm { (s.asm o.asm).enter .issued with binding := some (c, p) }) none
        (s.drawer d).mismatch (by simp)
      split <;> exact hset.drc (by simp)
  · next k _ =>
    unfold State.closeReturn
    dsimp only
    split
    · have hset := hstock (s.changeAsm o.asm ((s.asm o.asm).returned k d))
        (((s.asm o.asm).returned k d).stock.map fun _ => o.asm) (s.drawer d).mismatch (by simp)
      repeat' split
      all_goals exact hset.drc (by simp)
    · exact sameReleases_of_drc (by simp)

theorem comparePresence_sameReleases (s : State) (d : Nat) : SameReleases s (s.comparePresence d) := by
  refine ⟨by simp, by simp, by simp, fun e => ?_⟩
  simp only [comparePresence_frame]
  split
  · next h => rw [← h.1]; exact ⟨rfl, rfl⟩
  · exact ⟨rfl, rfl⟩

theorem clearStock_sameReleases (s : State) (d : Nat) : SameReleases s (s.clearStock d) := by
  have hset := setStock_sameReleases s d none (s.drawer d).mismatch
  unfold State.clearStock
  dsimp only
  split
  · exact (hset.trans (comparePresence_sameReleases _ d)).drc (by simp)
  · exact hset.drc (by simp)

theorem reportLeftOpen_sameReleases (s : State) (d : Nat) : SameReleases s (s.reportLeftOpen d) := by
  refine ⟨by simp, by simp, by simp, fun e => ?_⟩
  simp only [reportLeftOpen_frame]
  split
  · next h => rw [← h.1]; exact ⟨rfl, rfl⟩
  · exact ⟨rfl, rfl⟩

/-! ### Requests -/

/-- What the law says while the blocks act. -/
structure Released (s : State) : Prop where
  agrees : Agrees none s
  took : DriverTook s
  levelled : Levelled none s

theorem released_of_law (hact : s.phase.active = true) (hs : ReleaseLaw s) : Released s := by
  obtain ⟨ha, hk, -, hl⟩ := releaseLaw_iff.mp hs
  exact ⟨ha, hk, hl hact⟩

theorem Released.law (hs : Released s) (hphase : ∀ c, s.phase ≠ .load c) : ReleaseLaw s :=
  releaseLaw_iff.mpr ⟨hs.agrees, hs.took, fun c hc => (hphase c hc).elim, fun _ => hs.levelled⟩

theorem SameReleases.released (h : SameReleases s t) (hs : Released s) : Released t :=
  ⟨h.agrees hs.agrees, h.took hs.took, h.levelled hs.levelled⟩

theorem kickDriver_released (ha : Agrees none s) (hl : Levelled none s) : Released s.kickDriver := by
  obtain ⟨ha', hk⟩ := kickDriver_settled ha
  exact ⟨ha', hk, kickDriver_levelled ha hl⟩

/-- An accepted operation on a CLOSED drawer queues it and lets the driver go on (R73, R92). -/
theorem acceptOperation_released {d : Nat} (o : Operation) (hclosed : (s.drawer d).state = .closed)
    (hf : s.drc.driver.fault = false) (hcount : s.releaseCount < 8) (hs : Released s) :
    Released (s.acceptOperation d o).1 :=
  kickDriver_released
    (queueDrawer_agrees 0 (lt_of_state hclosed (by decide)) hs.agrees hf (by rw [hclosed]; decide) (by rw [hclosed]; decide)
      (.inr hcount))
    (queueDrawer_levelled 0 (by rw [hclosed]; decide) hs.levelled)

theorem takeOperation_released {d : Nat} (o : Operation) (hclosed : (s.drawer d).state = .closed)
    (hf : s.drc.driver.fault = false) (hcount : s.releaseCount < 8) (hs : Released s) :
    Released (s.takeOperation d o).1 :=
  acceptOperation_released (s := s.setOp d (some o)) o hclosed hf hcount
    (SameReleases.released (s := s) (sameReleases_of_drc rfl) hs)

theorem acceptIssue_released {d : Nat} (a c p : Nat) (b : Bool) (hclosed : (s.drawer d).state = .closed)
    (hf : s.drc.driver.fault = false) (hcount : s.releaseCount < 8) (hs : Released s) :
    Released (s.acceptIssue a c p d b).1 := by
  have haccept : ∀ (u : State) (o : Operation), KeepsDrc s u → Released (u.acceptOperation d o).1 := fun u o hu =>
    acceptOperation_released o (by rw [hu.2.1]; exact hclosed) (by rw [hu.1]; exact hf) (by rw [hu.2.2]; exact hcount)
      ((sameReleases_of_drc hu.1).released hs)
  unfold State.acceptIssue
  dsimp only
  refine haccept _ _ ?_
  split <;> simp

/-- A drawer that leaves the queue for CLOSED leaves the rest in agreement (R84). -/
theorem cancelQueued_agrees {d : Nat} {r : Drawer} (hqueued : (s.drawer d).state = .queued) (hq : r.state ≠ .queued)
    (hp : r.state ≠ .pulsing) (hr : r.state.releasing = false) (hs : Agrees none s) :
    Agrees none ((s.setReleaseQueue (s.drc.queue.erase d)).setDrawer d r) := by
  have hd := lt_of_state hqueued (by decide)
  have hdrawer : ∀ e, ((s.setReleaseQueue (s.drc.queue.erase d)).setDrawer d r).drawer e = if d = e then r else s.drawer e :=
    fun e => by
      rw [State.setDrawer_drawer]
      simp only [hd, and_true]
      rfl
  have hrel : ∀ e, (((s.setReleaseQueue (s.drc.queue.erase d)).setDrawer d r).drawer e).state.releasing = true →
      (s.drawer e).state.releasing = true := fun e h => by
    rw [hdrawer] at h
    split at h
    · rw [hr] at h; cases h
    · exact h
  refine ⟨hs.nodup.erase d, fun e => ?_, fun e => ?_, fun e h => (nomatch h), fun hf e => ?_, (releaseCount_mono hrel).trans hs.count⟩
  · rw [hdrawer]
    show e ∈ s.drc.queue.erase d ↔ _
    rw [hs.nodup.mem_erase_iff]
    split
    · next e' => subst e'; exact ⟨fun h => (h.1 rfl).elim, fun h => (hq h).elim⟩
    · next hne => rw [hs.queued]; exact ⟨fun h => h.2, fun h => ⟨Ne.symm hne, h⟩⟩
  · rw [hdrawer]
    show _ ↔ s.drc.driver.pulsing = some e ∨ none = some e
    split
    · next e' =>
      subst e'
      have := hs.pulsing d
      rw [hqueued] at this
      exact ⟨fun h => (hp h).elim, fun h => nomatch this.mpr h⟩
    · exact hs.pulsing e
  · cases hh : (((s.setReleaseQueue (s.drc.queue.erase d)).setDrawer d r).drawer e).state.releasing with
    | false => rfl
    | true => rw [← hs.fault hf e, hrel e hh]

/-- A drawer that waits is in no queue and has no pulse. -/
theorem Agrees.outside {d : Nat} (hs : Agrees none s) (hq : (s.drawer d).state ≠ .queued)
    (hp : (s.drawer d).state ≠ .pulsing) : d ∉ s.drc.queue ∧ s.drc.driver.pulsing ≠ some d :=
  ⟨fun h => hq ((hs.queued d).mp h), fun h => hp ((hs.pulsing d).mpr (.inl h))⟩

theorem cancelDrawer_released (d : Nat) (hs : Released s) : Released (cancelDrawer d s).1 := by
  have hlevel : ∀ {u : State} (r : Drawer), Levelled none u → (u.drawer d).state ≠ .opened →
      r.levelOpen = (u.drawer d).levelOpen → r.state ≠ .opened → Levelled none (u.setDrawer d r) :=
    fun r hu ho hr hro =>
      hu.write (.inl rfl) (fun _ => levelled_of_state (hu d (fun h => nomatch h)) hr ho hro) (.inl rfl)
  rcases (cancelDrawer_checked s d).cases with ⟨st, h⟩ | ⟨hd, ⟨hq, h⟩ | ⟨hw, h⟩ | ⟨hp, h⟩⟩
  · rw [h]; exact hs
  · rw [h]
    refine SameReleases.released (s := (s.setReleaseQueue (s.drc.queue.erase d)).drawerRest d .closed 0)
      (sameReleases_of_drc (by simp)) ⟨cancelQueued_agrees hq nofun nofun rfl hs.agrees, fun hp hf => ?_, ?_⟩
    · show s.drc.queue.erase d = []
      rw [hs.took hp hf]; rfl
    · exact hlevel (u := s.setReleaseQueue (s.drc.queue.erase d)) _ hs.levelled
        (by rw [State.setReleaseQueue_drawer, hq]; decide) rfl nofun
  · rw [h]
    have hstate : (s.drawer d).state ≠ .queued ∧ (s.drawer d).state ≠ .pulsing ∧ (s.drawer d).state ≠ .opened := by
      cases hst : (s.drawer d).state <;> rw [hst] at hw <;> simp [DrawerState.waiting] at hw ⊢
    obtain ⟨hnq, hnp, hno⟩ := hstate
    obtain ⟨hout, hpulse⟩ := hs.agrees.outside hnq hnp
    refine SameReleases.released (s := s.drawerRest d .closed 0) (sameReleases_of_drc (by simp))
      ⟨hs.agrees.write hd hout hpulse (.inl rfl) nofun nofun nofun, hs.took, hlevel _ hs.levelled hno rfl nofun⟩
  · rw [h]
    have hpulse : s.drc.driver.pulsing = some d := ((hs.agrees.pulsing d).mp hp).resolve_right nofun
    have hrest : Agrees none (s.endPulse.drawerRest d .closed 0) :=
      (endPulse_agrees hpulse hs.agrees).settle nofun nofun
    have hl : Levelled none (s.endPulse.drawerRest d .closed 0) :=
      hlevel (u := s.endPulse) _ hs.levelled (by rw [(endPulse_drc s).2.1, hp]; decide) rfl nofun
    exact kickDriver_released ((sameReleases_of_drc (by simp)).agrees hrest) ((sameReleases_of_drc (by simp)).levelled hl)

theorem clearJam_released (d : Nat) (hs : Released s) : Released (clearJam d s).1 := by
  rcases (clearJam_checked s d).cases with ⟨st, h⟩ | ⟨hd, hj, h⟩
  · rw [h]; exact hs
  · rw [h]
    obtain ⟨hout, hpulse⟩ := hs.agrees.outside (by rw [hj]; decide) (by rw [hj]; decide)
    exact ⟨hs.agrees.write hd hout hpulse (.inl rfl) nofun nofun nofun, hs.took,
      hs.levelled.write (.inl rfl) (fun _ => levelled_of_state (hs.levelled d nofun) rfl (by rw [hj]; decide) nofun)
        (.inl rfl)⟩

/-- In FAULT nothing is queued, so the driver cleared leaves nothing queued (R81, R82). -/
theorem clearDriver_released (hs : Released s) : Released (clearDriver s).1 := by
  rcases (clearDriver_checked s).cases with ⟨st, h⟩ | ⟨hf, h⟩
  · rw [h]; exact hs
  · rw [h]
    have hempty : s.drc.queue = [] := List.eq_nil_iff_forall_not_mem.mpr fun d hd => by
      have := hs.agrees.fault hf d
      rw [(hs.agrees.queued d).mp hd] at this
      cases this
    exact ⟨⟨hs.agrees.nodup, hs.agrees.queued, hs.agrees.pulsing, nofun, nofun, hs.agrees.count⟩, fun _ _ => hempty,
      hs.levelled⟩

theorem retireAsm_released (a : Nat) (hs : Released s) : Released (retireAsm a s).1 := by
  rcases (retireAsm_checked s a).cases with ⟨st, h⟩ | ⟨-, -, -, h⟩
  · rw [h]; exact hs
  · rw [h]
    refine SameReleases.released ?_ hs
    have hdirty : SameReleases s ((s.changeAsm a (s.asm a).retired).dirty a) := sameReleases_of_drc (by simp)
    dsimp only
    split
    · exact hdirty
    · exact hdirty.trans (clearStock_sameReleases _ _)

theorem actOnLimit_sameReleases (n : Nat) (s : State) : SameReleases s (s.actOnLimit n) := by
  have hopen : ∀ (l : List Nat) (u : State), SameReleases u (l.foldl State.reportLeftOpen u) := fun l => by
    induction l with
    | nil => exact fun u => sameReleases_of_drc rfl
    | cons d l ih => exact fun u => (reportLeftOpen_sameReleases u d).trans (ih _)
  unfold State.actOnLimit
  split
  · exact sameReleases_of_drc (by simp)
  · split
    · exact hopen _ _
    · split <;> exact sameReleases_of_drc (by simp)

theorem setParameter_sameReleases (p : Port) (n v : Nat) (s : State) : SameReleases s (setParameter p n v s).1 := by
  rcases (setParameter_checked s p n v).cases with ⟨st, h⟩ | ⟨-, h⟩
  · rw [h]; exact sameReleases_of_drc rfl
  · rw [h]
    dsimp only
    split
    · exact sameReleases_of_drc rfl
    · exact (SameReleases.trans (t := s.setParams (s.params.put n (paramStored n v))) (sameReleases_of_drc rfl)
        (actOnLimit_sameReleases n _)).drc (by simp)

theorem loadBegin_drawer (s : State) (c : Cause) (d : Nat) :
    ((s.loadBegin c).drawer d).state.releasing = false ∧ ((s.loadBegin c).drawer d).state ≠ .queued ∧
      ((s.loadBegin c).drawer d).state ≠ .pulsing := by
  have hd : (s.loadBegin c).drawer d = tget State.noDrawer (tgen 64 s.loadedDrawer) d := rfl
  rw [hd, tget_tgen]
  split
  · exact ⟨rfl, nofun, nofun⟩
  · exact ⟨rfl, nofun, nofun⟩

theorem releaseCount_zero (h : ∀ d, (s.drawer d).state.releasing = false) : s.releaseCount = 0 := by
  rw [releaseCount_eq, Finset.card_eq_zero, Finset.eq_empty_iff_forall_notMem]
  intro d hd
  rw [mem_releaseFinset, h] at hd
  cases hd

/-- Where no drawer is in the release set, nothing is queued and the driver is IDLE, they agree. -/
theorem agrees_of_rest (h : ∀ d, (s.drawer d).state.releasing = false) (hq : s.drc.queue = [])
    (hp : s.drc.driver.pulsing = none) : Agrees none s := by
  have hne : ∀ d st, st.releasing = true → (s.drawer d).state ≠ st := fun d st hst e => by
    have := h d
    rw [e, hst] at this
    cases this
  refine ⟨by rw [hq]; exact List.nodup_nil, fun d => ?_, fun d => ?_, fun d h => (nomatch h), fun _ => h, ?_⟩
  · rw [hq]
    exact ⟨(fun h => nomatch h), fun h => (hne d _ rfl h).elim⟩
  · rw [hp]
    exact ⟨fun h => (hne d _ rfl h).elim, fun h => h.elim nofun nofun⟩
  · rw [releaseCount_zero h]; exact Nat.zero_le _

theorem loadBegin_releaseLaw (s : State) (c : Cause) : ReleaseLaw (s.loadBegin c) :=
  releaseLaw_iff.mpr ⟨agrees_of_rest (fun d => (loadBegin_drawer s c d).1) rfl rfl, fun _ _ => rfl, fun _ _ => ⟨rfl, rfl⟩,
    fun h => nomatch h⟩

theorem endDrain_releaseLaw (hs : ReleaseLaw s) : ReleaseLaw s.endDrain := keeps_ite hs fun _ => loadBegin_releaseLaw s _

/-- Every request but RESTART keeps drawers and driver as the law says. -/
theorem handler_released (i : Instr) (hi : i ≠ .restart) (hs : Released s) : Released (handler i s).1 := by
  cases i
  case stock a d =>
    rcases (stockAsm_checked s a d).cases with ⟨st, h⟩ | ⟨-, -, -, -, hclosed, hf, hcount, -, h⟩
    · simp only [handler, h]; exact hs
    · simp only [handler, h]; exact takeOperation_released _ hclosed hf hcount hs
  case withdraw a =>
    obtain ⟨d, hd⟩ := stock_unique s a
    rcases (withdrawAsm_checked s a d hd).cases with ⟨st, h⟩ | ⟨-, -, -, hclosed, hf, hcount, -, h⟩
    · simp only [handler, h]; exact hs
    · simp only [handler, h]; exact takeOperation_released _ hclosed hf hcount hs
  case returnTool a d k =>
    rcases (returnAsm_checked s a d k).cases with ⟨st, h⟩ | ⟨-, -, -, -, hclosed, hf, hcount, -, _, -, h⟩
    · simp only [handler, h]; exact hs
    · simp only [handler, h]; exact takeOperation_released _ hclosed hf hcount hs
  case issue a c p =>
    obtain ⟨d, hd⟩ := stock_unique s a
    rcases (issueAsm_checked s a c p d hd).cases with ⟨st, h⟩ | ⟨-, -, -, -, -, -, -, hclosed, hf, hcount, h⟩
    · simp only [handler, h]; exact hs
    · simp only [handler, h]; exact acceptIssue_released _ _ _ _ hclosed hf hcount hs
  case issuePick c p =>
    obtain ⟨a, ha⟩ := sister_unique s c p
    obtain ⟨d, hd⟩ := stock_unique s a
    rcases (issuePick_checked s a c p d ha hd).cases with ⟨st, h⟩ | ⟨-, -, -, -, -, -, hclosed, hf, hcount, _, -, -, -, h⟩
    · simp only [handler, h]; exact hs
    · simp only [handler, h]; exact acceptIssue_released _ _ _ _ hclosed hf hcount hs
  case cancelDrawer d => exact cancelDrawer_released d hs
  case clearJam d => exact clearJam_released d hs
  case clearDriver => exact clearDriver_released hs
  case retire a => exact retireAsm_released a hs
  case setParameter p n v => exact (setParameter_sameReleases p n v s).released hs
  case restart => exact absurd rfl hi
  all_goals exact (sameReleases_of_drc (by simp [handler])).released hs

theorem handler_releaseLaw (i : Instr) (hrun : s.phase = .running) (hs : ReleaseLaw s) : ReleaseLaw (handler i s).1 := by
  have hreleased := released_of_law (by rw [hrun]; rfl) hs
  by_cases hi : i = .restart
  · subst hi
    simp only [handler, restart]
    split
    · exact hs
    · split
      · exact hs
      · exact endDrain_releaseLaw (Released.law ((sameReleases_of_drc (by simp)).released hreleased) (fun c h => nomatch h))
  · refine (handler_released i hi hreleased).law fun c hc => ?_
    rw [handler_phase i hi, hrun] at hc
    cases hc

end Sys2Proof.Machine
end

section
/-! PROOFS. The events of the switches, of the driver and of the load keep release set, release queue and driver in agreement. -/

namespace Sys2Proof.Machine

open Sys2Proof

variable {s t : State}

/-! ### Switches -/

/-- The agreement does not read the open levels. -/
theorem Agrees.of_states {x : Option Nat} (hq : t.drc.queue = s.drc.queue)
    (hdriver : t.drc.driver = s.drc.driver) (hd : ∀ d, (t.drawer d).state = (s.drawer d).state) (hs : Agrees x s) :
    Agrees x t := by
  refine ⟨hq ▸ hs.nodup, fun d => ?_, fun d => ?_, fun d hx => hdriver ▸ hs.ended d hx, fun hf d => ?_, ?_⟩
  · rw [hq, hd]; exact hs.queued d
  · rw [hdriver, hd]; exact hs.pulsing d
  · rw [hd]; exact hs.fault (hdriver ▸ hf) d
  · exact (releaseCount_mono fun d h => hd d ▸ h).trans hs.count

theorem setOpenLevel_drawer (s : State) (d : Nat) (b : Bool) (e : Nat) :
    (s.setOpenLevel d b).drawer e = if d = e ∧ d < 64 then { s.drawer d with levelOpen := b } else s.drawer e :=
  State.setDrawer_drawer s d e _

theorem setOpenLevel_state (s : State) (d : Nat) (b : Bool) (e : Nat) :
    ((s.setOpenLevel d b).drawer e).state = (s.drawer e).state := by
  rw [setOpenLevel_drawer]
  split
  · next h => rw [← h.1]
  · rfl

theorem setOpenLevel_agrees {x : Option Nat} (d : Nat) (b : Bool) (hs : Agrees x s) : Agrees x (s.setOpenLevel d b) :=
  Agrees.of_states (s := s) rfl rfl (setOpenLevel_state s d b) hs

theorem setOpenLevel_levelled (d : Nat) (b : Bool) (hs : Levelled none s) : Levelled (some d) (s.setOpenLevel d b) :=
  fun e he => by
    rw [setOpenLevel_drawer, if_neg fun h => he (congrArg some h.1)]
    exact hs e nofun

/-- OPEN_SEEN where the level was closed: the drawer is OPEN with its level, and the driver goes on (R71, R77). -/
theorem openEvent_released {d : Nat} (hd : d < 64) (hclosed : (s.drawer d).levelOpen = false) (hs : Released s) :
    Released ((s.setOpenLevel d true).openEvent d) := by
  have hstate := setOpenLevel_state s d true d
  have hlevel : ((s.setOpenLevel d true).drawer d).levelOpen = true := by
    rw [setOpenLevel_drawer, if_pos ⟨rfl, hd⟩]
  have hno : (s.drawer d).state ≠ .opened := fun h => by
    have := hs.levelled d nofun
    unfold Drawer.levelled at this
    rw [h, hclosed] at this
    cases this
  have hagrees := setOpenLevel_agrees d true hs.agrees
  have htook : DriverTook (s.setOpenLevel d true) := hs.took
  have hlevels := setOpenLevel_levelled d true hs.levelled
  generalize s.setOpenLevel d true = u at *
  have hopened : Levelled none (u.openDrawer d) := hlevels.write (.inr rfl) (fun _ => by
    unfold Drawer.levelled
    rw [hlevel]
    rfl) (.inr hd)
  have hrest : ∀ v : State, v.drc = (u.openDrawer d).drc → (u.drawer d).state ≠ .queued → (u.drawer d).state ≠ .pulsing →
      Released v := fun v hv hq hp => by
    obtain ⟨hout, hpulse⟩ := hagrees.outside hq hp
    exact (sameReleases_of_drc hv).released
      ⟨hagrees.write hd hout hpulse (.inl rfl) nofun nofun nofun, htook, hopened⟩
  unfold State.openEvent
  dsimp only
  split
  · next h => exact hrest _ (by simp) (by rw [h]; decide) (by rw [h]; decide)
  · next h => exact hrest _ (by simp) (by rw [h]; decide) (by rw [h]; decide)
  · next h =>
    refine SameReleases.released (s := (u.setReleaseQueue (u.drc.queue.erase d)).openDrawer d)
      (sameReleases_of_drc (by simp)) ⟨cancelQueued_agrees h nofun nofun rfl hagrees, fun hp hf => ?_, hopened⟩
    show u.drc.queue.erase d = []
    rw [htook hp hf]; rfl
  · next h => exact hrest _ (by simp) (by rw [h]; decide) (by rw [h]; decide)
  · next h => exact hrest _ (by simp) (by rw [h]; decide) (by rw [h]; decide)
  · next h =>
    have hpulse : u.drc.driver.pulsing = some d := ((hagrees.pulsing d).mp h).resolve_right nofun
    have hend : Agrees (some d) (u.endPulse.setOvercurrents 0) :=
      SameReleases.agrees (s := u.endPulse) ⟨rfl, rfl, rfl, fun _ => ⟨rfl, rfl⟩⟩ (endPulse_agrees hpulse hagrees)
    have hsettled : Agrees none ((u.endPulse.setOvercurrents 0).openDrawer d) := hend.settle nofun nofun
    have hl : Levelled none ((u.endPulse.setOvercurrents 0).openDrawer d) := hopened
    exact kickDriver_released ((sameReleases_of_drc (by simp)).agrees hsettled) ((sameReleases_of_drc (by simp)).levelled hl)
  · next h => exact (hno (hstate ▸ h)).elim

/-- CLOSE_SEEN where the level was open: the drawer is CLOSED with its level (R72). -/
theorem closeEvent_released {d : Nat} (hd : d < 64) (hopen : (s.drawer d).levelOpen = true) (hs : Released s) :
    Released ((s.setOpenLevel d false).closeEvent d) := by
  have hstate : (s.drawer d).state = .opened := by
    have := hs.levelled d nofun
    unfold Drawer.levelled at this
    rw [hopen] at this
    simpa using this.symm
  have hlevel : ((s.setOpenLevel d false).drawer d).levelOpen = false := by
    rw [setOpenLevel_drawer, if_pos ⟨rfl, hd⟩]
  have hstate' := setOpenLevel_state s d false d
  have hagrees := setOpenLevel_agrees d false hs.agrees
  have hlevels := setOpenLevel_levelled d false hs.levelled
  have htook : DriverTook (s.setOpenLevel d false) := hs.took
  generalize s.setOpenLevel d false = u at *
  have hrest : Released (u.setDrawer d
      { u.drawer d with state := .closed, attempts := 0, openReported := false, openTimer := 0 }) := by
    obtain ⟨hout, hpulse⟩ := hagrees.outside (d := d) (by rw [hstate', hstate]; decide) (by rw [hstate', hstate]; decide)
    refine ⟨hagrees.write hd hout hpulse (.inl rfl) nofun nofun nofun, htook, hlevels.write (.inr rfl) (fun _ => ?_) (.inr hd)⟩
    unfold Drawer.levelled
    rw [hlevel]
    rfl
  unfold State.closeEvent
  dsimp only
  split
  · exact (closeOp_sameReleases _ _ _ _).released hrest
  · exact ((comparePresence_sameReleases _ d).drc (by simp)).released hrest

/-- A switch level written while no block acts leaves the release queue, the driver and the state of every drawer. -/
theorem releaseLaw_of_levels (hphase : t.phase = s.phase) (hact : s.phase.active = false) (hq : t.drc.queue = s.drc.queue)
    (hdriver : t.drc.driver = s.drc.driver) (hd : ∀ d, (t.drawer d).state = (s.drawer d).state) (hs : ReleaseLaw s) :
    ReleaseLaw t := by
  obtain ⟨ha, hk, hl, -⟩ := releaseLaw_iff.mp hs
  refine releaseLaw_iff.mpr ⟨ha.of_states hq hdriver hd, ?_, fun c hc => ?_, fun h => ?_⟩
  · unfold DriverTook
    rw [hq, hdriver]
    exact hk
  · rw [hq, hdriver]
    exact hl c (hphase ▸ hc)
  · rw [hphase, hact] at h
    cases h

theorem active_not_load (h : s.phase.active = true) (hphase : t.phase = s.phase) (c : Cause) : t.phase ≠ .load c :=
  fun hc => by
    rw [← hphase, hc] at h
    cases h

theorem seeOpen_releaseLaw {d : Nat} (hd : d < 64) (hs : ReleaseLaw s) : ReleaseLaw (s.seeOpen d) := by
  unfold State.seeOpen State.whileLoading
  dsimp only
  split
  · next hact =>
    split
    · exact hs
    · next hlevel =>
      exact (openEvent_released hd (Bool.not_eq_true _ ▸ hlevel) (released_of_law hact hs)).law
        (active_not_load hact (by simp [State.setOpenLevel]))
  · next hact =>
    split
    · exact releaseLaw_of_levels (s := s) rfl (by simpa using hact) rfl rfl (setOpenLevel_state s d true) hs
    · exact hs

theorem seeClose_releaseLaw {d : Nat} (hd : d < 64) (hs : ReleaseLaw s) : ReleaseLaw (s.seeClose d) := by
  unfold State.seeClose State.whileLoading
  dsimp only
  split
  · next hact =>
    split
    · next hlevel =>
      exact (closeEvent_released hd hlevel (released_of_law hact hs)).law
        (active_not_load hact (by simp [State.setOpenLevel]))
    · exact hs
  · next hact =>
    split
    · exact releaseLaw_of_levels (s := s) rfl (by simpa using hact) rfl rfl (setOpenLevel_state s d false) hs
    · exact hs

theorem seePresence_releaseLaw (d : Nat) (b : Bool) (hs : ReleaseLaw s) : ReleaseLaw (s.seePresence d b) := by
  have hset : ReleaseLaw (s.setDrawer d { s.drawer d with present := b }) := by
    refine SameReleases.releaseLaw (s := s) ⟨rfl, rfl, rfl, fun e => ?_⟩ rfl hs
    rw [State.setDrawer_drawer]
    split
    · next h => rw [← h.1]; exact ⟨rfl, rfl⟩
    · exact ⟨rfl, rfl⟩
  unfold State.seePresence State.whileLoading
  dsimp only
  repeat' split
  all_goals assumption

/-! ### The driver and the waits -/

theorem elapsePulse_released (hs : Released s) : Released s.elapsePulse := by
  unfold State.elapsePulse
  split
  · next d hp =>
    have hend : Agrees (some d) (s.endPulse.setOvercurrents 0) :=
      SameReleases.agrees (s := s.endPulse) ⟨rfl, rfl, rfl, fun _ => ⟨rfl, rfl⟩⟩ (endPulse_agrees hp hs.agrees)
    exact kickDriver_released (failedAttempt_agrees hend) (failedAttempt_levelled hend hs.levelled)
  · exact hs

theorem assertSense_releaseLaw (hs : ReleaseLaw s) : ReleaseLaw s.assertSense := by
  have hpins : ReleaseLaw (s.setPins { s.pins with sense := .asserted }) := hs
  unfold State.assertSense
  dsimp only
  split
  · next d hact hp =>
    have hr := released_of_law (s := s.setPins { s.pins with sense := .asserted }) hact hpins
    exact (kickDriver_released (overcurrentPulse_agrees (s := s.setPins { s.pins with sense := .asserted }) hp hr.agrees)
      (overcurrentPulse_levelled (s := s.setPins { s.pins with sense := .asserted }) hp hr.agrees hr.levelled)).law (active_not_load hact (by simp))
  · exact hpins

theorem expireWait_released {d : Nat} (hw : (s.drawer d).state.waiting = true) (hs : Released s) :
    Released (s.expireWait d) := by
  have hstate : (s.drawer d).state ≠ .queued ∧ (s.drawer d).state ≠ .pulsing ∧ (s.drawer d).state ≠ .opened ∧
      (s.drawer d).state ≠ .jammed ∧ (s.drawer d).state.releasing = true := by
    cases hst : (s.drawer d).state <;> rw [hst] at hw <;> simp [DrawerState.waiting, DrawerState.releasing] at hw ⊢
  obtain ⟨hnq, hnp, hno, hnj, hrel⟩ := hstate
  have hf : s.drc.driver.fault = false := by
    cases h : s.drc.driver.fault with
    | false => rfl
    | true => rw [← hrel, hs.agrees.fault h d]
  exact kickDriver_released (queueDrawer_agrees _ (lt_of_state rfl hnj) hs.agrees hf hnq hnp (.inl hrel))
    (queueDrawer_levelled _ hno hs.levelled)

/-! ### The load -/

theorem settleDrawers_drawer (s : State) (d : Nat) :
    s.settleDrawers.drawer d = if d < 64 then State.settleDrawer (s.drawer d) else State.noDrawer :=
  tget_tmap_ite State.settleDrawer State.noDrawer s.drc.drawers d

theorem settleDrawer_levelled (r : Drawer) : (State.settleDrawer r).levelled ∧ (State.settleDrawer r).state.releasing = false := by
  unfold State.settleDrawer Drawer.levelled
  cases h : r.levelOpen <;> simp [DrawerState.releasing]

/-- The stock cross-check touches no drawer's state or level. -/
theorem checkStock_sameReleases (s : State) : SameReleases s s.checkStock := by
  have hdrawers : ∀ (l : List Nat) (u : State), SameReleases u (l.foldl State.checkDrawerStock u) := fun l => by
    induction l with
    | nil => exact fun u => sameReleases_of_drc rfl
    | cons d l ih =>
      refine fun u => SameReleases.trans ?_ (ih _)
      unfold State.checkDrawerStock
      repeat' split
      · exact sameReleases_of_drc rfl
      · exact setStock_sameReleases _ _ _ _
      · exact sameReleases_of_drc rfl
  have hasms : ∀ (l : List Nat) (u : State), SameReleases u (l.foldl State.checkAsmStock u) := fun l => by
    induction l with
    | nil => exact fun u => sameReleases_of_drc rfl
    | cons a l ih =>
      refine fun u => SameReleases.trans ?_ (ih _)
      unfold State.checkAsmStock
      repeat' split
      · exact sameReleases_of_drc rfl
      · exact SameReleases.trans (t := u.setAsm a { u.asm a with stock := none }) (sameReleases_of_drc rfl)
          (setStock_sameReleases _ _ _ _)
      · exact sameReleases_of_drc rfl
  exact (hdrawers _ _).trans (hasms _ _)

theorem loadEnd_releaseLaw (c : Cause) (hload : s.phase = .load c) (hs : ReleaseLaw s) : ReleaseLaw (s.loadEnd c) := by
  obtain ⟨-, -, -, hdrc, -, -, -, -, -, hphase, -⟩ := loadEnd_frame (s := s) c
  obtain ⟨-, -, hload', -⟩ := releaseLaw_iff.mp hs
  obtain ⟨hq, hp⟩ := hload' c hload
  have hsettled : Released s.checkReferences.checkActive.placeBindings.settleDrawers := by
    refine ⟨agrees_of_rest (fun d => ?_) ?_ ?_, fun _ _ => ?_, fun d _ => ?_⟩
    · rw [settleDrawers_drawer]
      split
      · exact (settleDrawer_levelled _).2
      · rfl
    · simpa using hq
    · simpa using hp
    · simpa using hq
    · rw [settleDrawers_drawer]
      split
      · exact (settleDrawer_levelled _).1
      · rfl
  exact Released.law (((checkStock_sameReleases _).drc hdrc.1).released hsettled) fun x hx => by rw [hphase] at hx; cases hx

/-! ### The law -/

theorem event_releaseLaw (i : Instr) (hs : ReleaseLaw s) : ReleaseLaw (event s i) := by
  have hguard : ∀ {b : Bool} {t : State}, (b = true → s.phase.active = true → ReleaseLaw t) →
      ReleaseLaw (if s.phase.active && b then t else s) := fun ht => keeps_ite hs fun h => by
    rw [Bool.and_eq_true] at h
    exact ht h.2 h.1
  cases i
  case requestFrameEnd p l b =>
    obtain ⟨-, -, -, ⟨⟨hdrc, -⟩, -⟩, -, ⟨-, hphase, -⟩, -⟩ := frame_of_port (transact_frame_eq s p l b).1
    exact (sameReleases_of_drc hdrc).releaseLaw hphase hs
  case replyRead p n =>
    obtain ⟨-, -, -, ⟨⟨hdrc, -⟩, -⟩, -, ⟨-, hphase, -⟩, -⟩ := frame_of_port (transact_read_eq s p n).1
    exact (sameReleases_of_drc hdrc).releaseLaw hphase hs
  case openSeen d => exact seeOpen_releaseLaw d.isLt hs
  case closeSeen d => exact seeClose_releaseLaw d.isLt hs
  case presenceLevelChange d b => exact seePresence_releaseLaw d b hs
  case pulseWidthElapsed =>
    exact hguard fun _ hact => (elapsePulse_released (released_of_law hact hs)).law (active_not_load hact (by simp))
  case overcurrent => exact assertSense_releaseLaw hs
  case waitExpiry d =>
    refine hguard fun hdue hact => ?_
    unfold State.waitDue at hdue
    rw [Bool.and_eq_true] at hdue
    exact (expireWait_released hdue.1 (released_of_law hact hs)).law (active_not_load hact (by simp))
  case openTimeExpiry d => exact hguard fun _ _ => (reportLeftOpen_sameReleases s d).releaseLaw (by simp) hs
  case lockExpiry a => exact hguard fun _ _ => (sameReleases_of_drc (by simp)).releaseLaw (by simp) hs
  case discardExpiry n => exact hguard fun _ _ => hs
  case entryFormation =>
    exact keeps_ite hs fun _ => (sameReleases_of_drc (by rw [formNext_eq])).releaseLaw (by rw [formNext_eq]) hs
  case slotBuildCompletion =>
    exact keeps_ite hs fun _ => (sameReleases_of_drc (by rw [completeSlot_eq])).releaseLaw (by rw [completeSlot_eq]) hs
  case readAheadBuildCompletion =>
    exact keeps_ite hs fun _ => (sameReleases_of_drc (by rw [completeReadAhead_eq])).releaseLaw
      (by rw [completeReadAhead_eq]) hs
  case commitCompletion =>
    refine keeps_ite hs fun _ => ?_
    rcases completeCommit_cases s with ⟨-, h⟩ | ⟨c, q, -, -, h⟩
    · rw [h]; exact hs
    · rw [h]; exact endDrain_releaseLaw ((sameReleases_of_drc (by simp)).releaseLaw (by simp) hs)
  case powerOn =>
    refine keeps_ite hs fun hoff => keeps_ite (loadBegin_releaseLaw s _) fun _ => ?_
    obtain ⟨ha, hk, -, -⟩ := releaseLaw_iff.mp hs
    have hsame : SameReleases s s.enterReset := sameReleases_of_drc (by simp)
    exact releaseLaw_iff.mpr ⟨hsame.agrees ha, hsame.took hk, nofun, nofun⟩
  case powerLoss o =>
    obtain ⟨ha, hk, -, -⟩ := releaseLaw_iff.mp hs
    have hsame : SameReleases s ((s.interruptCommit o).setPhase .off) := sameReleases_of_drc (by simp)
    exact keeps_ite (releaseLaw_iff.mpr ⟨hsame.agrees ha, hsame.took hk, nofun, nofun⟩) fun _ => hs
  case resetInputAsserted o =>
    show ReleaseLaw (s.assertReset o)
    rcases assertReset_cases s o with ⟨-, h⟩ | ⟨-, -, h⟩
    · rw [h]; exact hs
    · obtain ⟨ha, hk, -, -⟩ := releaseLaw_iff.mp hs
      have hsame : SameReleases s ((s.setResetInput true).interruptCommit o).enterReset := sameReleases_of_drc (by simp)
      rw [h]
      exact releaseLaw_iff.mpr ⟨hsame.agrees ha, hsame.took hk, nofun, nofun⟩
  case resetInputReleased => exact keeps_ite hs fun _ => loadBegin_releaseLaw _ _
  case loadEnd =>
    show ReleaseLaw s.finishLoad
    rcases finishLoad_cases s with ⟨c, hload, h⟩ | ⟨-, h⟩
    · rw [h]; exact loadEnd_releaseLaw c hload hs
    · rw [h]; exact hs
  all_goals exact hs

theorem tick_releaseLaw (s : State) (hs : ReleaseLaw s) :
    ReleaseLaw { s.advance with pending := s.advance.dueExpiries } := by
  have hdriver : s.drc.driver.tick.pulsing = s.drc.driver.pulsing ∧ s.drc.driver.tick.fault = s.drc.driver.fault := by
    unfold Driver.tick
    split <;> exact ⟨rfl, rfl⟩
  have htick : ∀ r : Drawer, r.tick.state = r.state ∧ r.tick.levelOpen = r.levelOpen := fun r => by
    unfold Drawer.tick
    repeat' split
    all_goals exact ⟨rfl, rfl⟩
  refine SameReleases.releaseLaw (s := s) ⟨rfl, hdriver.1, hdriver.2, fun d => ?_⟩ rfl hs
  have hd : State.drawer { s.advance with pending := s.advance.dueExpiries } d =
      if d < 64 then (s.drawer d).tick else State.noDrawer := tget_tmap_ite Drawer.tick State.noDrawer s.drc.drawers d
  rw [hd]
  split
  · exact htick _
  · next h => rw [State.drawer, tget_beyond _ _ _ (Nat.not_lt.mp h)]; exact ⟨rfl, rfl⟩

/-- Settles O58, by the agreement of release queue, driver and drawers, which every turn of the driver keeps, also where it
has given up a drawer that is PULSING still. -/
theorem everyStepKeepsTheReleaseLaw : Obligations.EveryStepKeepsTheReleaseLaw := fun _ _ h hs =>
  step_keeps (L := ReleaseLaw) (fun _ _ h => h) (fun s hs => keeps_ite hs fun _ => tick_releaseLaw s hs)
    (fun _ p i _ => serve_keeps (fun s tag a => (sameReleases_of_drc (by simp)).releaseLaw (by simp))
      (fun s => (sameReleases_of_drc (by simp)).releaseLaw (by simp)) fun _ hrun => handler_releaseLaw i hrun)
    (fun _ i _ => event_releaseLaw i) h hs

end Sys2Proof.Machine
end

section
/-! PROOFS. Law L5 and the operations together: which changes of records, session and operations keep them, and that everything
drawers and operations do is such a change. -/

namespace Sys2Proof.Machine

open Sys2Proof

variable {s t : State}

/-- Law L5 and the operations. -/
def WorkLaw (s : State) : Prop := SessionLaw s ∧ OperationLaw s

/-- A record as law L5 sees it is the same. -/
def SameWork (r u : AsmRecord) : Prop :=
  u.state = r.state ∧ u.prior.isSome = r.prior.isSome ∧ (r.state = .measuring → u.holder = r.holder)

/-- The state that an operation of the kind needs its assembly to have (R104, R108). -/
def OpKind.fits : OpKind → AsmState → Prop
  | .issue _ _ _ _, st => st = .issuing
  | .giveBack _, st => st = .issued ∨ st = .exhausted
  | _, _ => True

theorem sameWork_refl (r : AsmRecord) : SameWork r r := ⟨rfl, rfl, fun _ => rfl⟩

/-- The operations part of the laws, with the states said by `OpKind.fits`. -/
theorem operationLaw_iff : OperationLaw s ↔ (∀ d e o u, s.op d = some o → s.op e = some u → o.asm = u.asm → d = e) ∧
    (∀ d o, s.op d = some o → o.kind.fits (s.asm o.asm).state) ∧ ∀ c d, s.phase = .load c → s.op d = none := by
  constructor
  · rintro ⟨huniq, hissue, hback, hload⟩
    refine ⟨huniq, fun d o hop => ?_, hload⟩
    cases hk : o.kind with
    | stock => trivial
    | withdraw => trivial
    | issue c p l k => exact hissue d o c p l k hop hk
    | giveBack k => exact hback d o k hop hk
  · rintro ⟨huniq, hfits, hload⟩
    refine ⟨huniq, fun d o c p l k hop hk => ?_, fun d o k hop hk => ?_, hload⟩
    · have h := hfits d o hop
      rwa [hk] at h
    · have h := hfits d o hop
      rwa [hk] at h

/-- The changes that keep the laws while no session opens or ends: operations end or keep assembly and kind, and a record that
changes its state is not MEASURING before or after, and fits what holds it. -/
structure WorkStep (s t : State) : Prop where
  session : t.ocu.map Session.kind = s.ocu.map Session.kind
  phase : ∀ c, t.phase = .load c → s.phase = .load c
  ops : ∀ d u, t.op d = some u → ∃ o, s.op d = some o ∧ u.asm = o.asm ∧ u.kind = o.kind
  records : ∀ b, SameWork (s.asm b) (t.asm b) ∨ (s.asm b).state ≠ .measuring ∧ (t.asm b).state ≠ .measuring ∧
    ∀ d u, t.op d = some u → u.asm = b → u.kind.fits (t.asm b).state

theorem session_kind_eq (h : t.ocu.map Session.kind = s.ocu.map Session.kind) (a k : Nat) :
    (∃ l, t.ocu = some ⟨.measure a k, l⟩) ↔ ∃ l, s.ocu = some ⟨.measure a k, l⟩ := by
  have hkind : ∀ x : Option Session, (∃ l, x = some ⟨.measure a k, l⟩) ↔ x.map Session.kind = some (.measure a k) := by
    rintro (_ | ⟨y, l⟩) <;> simp
  rw [hkind, hkind, h]

/-- Law L5 is kept where the session keeps its kind and each record its state, or is not MEASURING before or after. -/
theorem sessionLaw_of_records (hocu : t.ocu.map Session.kind = s.ocu.map Session.kind)
    (hrec : ∀ b, SameWork (s.asm b) (t.asm b) ∨ (s.asm b).state ≠ .measuring ∧ (t.asm b).state ≠ .measuring)
    (hs : SessionLaw s) : SessionLaw t := by
  obtain ⟨hsubject, hrecord⟩ := hs
  refine ⟨fun a k l h => ?_, fun a h => ?_⟩
  · obtain ⟨l', hl⟩ := (session_kind_eq hocu a k).mp ⟨l, h⟩
    obtain ⟨hstate, hholder⟩ := hsubject a k l' hl
    rcases hrec a with ⟨hst, -, hh⟩ | ⟨hne, -⟩
    · exact ⟨hst.trans hstate, (hh hstate).trans hholder⟩
    · exact absurd hstate hne
  · rcases hrec a with ⟨hst, hpr, -⟩ | ⟨-, hne⟩
    · obtain ⟨hprior, k, hk⟩ := hrecord a (hst ▸ h)
      exact ⟨hpr.trans hprior, k, (session_kind_eq hocu a k).mpr hk⟩
    · exact absurd h hne

theorem WorkStep.keeps (h : WorkStep s t) (hs : WorkLaw s) : WorkLaw t := by
  obtain ⟨hsession, hop⟩ := hs
  obtain ⟨huniq, hfits, hload⟩ := operationLaw_iff.mp hop
  refine ⟨sessionLaw_of_records h.session (fun b => (h.records b).imp_right fun ⟨hold, hnew, _⟩ => ⟨hold, hnew⟩) hsession,
    operationLaw_iff.mpr ⟨fun d e u v hu hv hasm => ?_, fun d u hu => ?_, fun c d hphase => ?_⟩⟩
  · obtain ⟨o, ho, hoa, -⟩ := h.ops d u hu
    obtain ⟨q, hq, hqa, -⟩ := h.ops e v hv
    exact huniq d e o q ho hq (by rw [← hoa, ← hqa, hasm])
  · rcases h.records u.asm with ⟨hst, -, -⟩ | ⟨-, -, hfit⟩
    · obtain ⟨o, ho, hoa, hok⟩ := h.ops d u hu
      rw [hst, hok, hoa]
      exact hfits d o ho
    · exact hfit d u hu rfl
  · by_contra hne
    obtain ⟨u, hu⟩ := Option.ne_none_iff_exists'.mp hne
    obtain ⟨o, ho, -⟩ := h.ops d u hu
    rw [hload c d (h.phase c hphase)] at ho
    cases ho

/-- A change of one record, no operation touched. -/
theorem workStep_asm (a : Nat) (r : AsmRecord) (hatb : t.atb = tset s.atb a r) (hocu : t.ocu = s.ocu) (hcoc : t.coc = s.coc)
    (hphase : ∀ c, t.phase = .load c → s.phase = .load c)
    (hr : SameWork (s.asm a) r ∨ (s.asm a).state ≠ .measuring ∧ r.state ≠ .measuring ∧
      ∀ d u, s.op d = some u → u.asm = a → u.kind.fits r.state) : WorkStep s t where
  session := by rw [hocu]
  phase := hphase
  ops d u hu := ⟨u, by rwa [State.op, ← hcoc], rfl, rfl⟩
  records b := by
    have hasm : t.asm b = if a = b ∧ a < 512 then r else s.asm b := by
      rw [← State.setAsm_asm]
      exact congrArg (tget _ · b) hatb
    have hop : ∀ d, t.op d = s.op d := fun d => by rw [State.op, State.op, hcoc]
    rw [hasm]
    split
    · next h =>
      obtain ⟨rfl, -⟩ := h
      exact hr.imp_right fun ⟨hold, hnew, hfit⟩ => ⟨hold, hnew, fun d u hu => hfit d u (hop d ▸ hu)⟩
    · exact .inl (sameWork_refl _)

theorem workLaw_of_frame (hatb : t.atb = s.atb) (hocu : t.ocu = s.ocu) (hcoc : t.coc = s.coc) (hphase : ∀ c, t.phase = .load c → s.phase = .load c)
    (hs : WorkLaw s) : WorkLaw t :=
  WorkStep.keeps ⟨by rw [hocu], hphase, fun d u hu => ⟨u, by rwa [State.op, ← hcoc], rfl, rfl⟩,
    fun b => .inl (by rw [show t.asm b = s.asm b from congrArg (tget _ · b) hatb]; exact sameWork_refl _)⟩ hs

/-- A drawer that holds an operation exists. -/
theorem lt_of_op {d : Nat} {o : Operation} (h : s.op d = some o) : d < 64 := by
  refine Nat.lt_of_not_le fun hd => ?_
  rw [State.op, tget_beyond _ _ _ hd] at h
  cases h

/-- The end of an operation whose assembly alone changed its record, and was fit for the operation. -/
theorem workLaw_ended {d : Nat} {o : Operation} (ho : s.op d = some o) (hocu : t.ocu = s.ocu) (hphase : ∀ c, t.phase = .load c → s.phase = .load c)
    (hops : ∀ e, t.op e = if d = e ∧ d < 64 then none else s.op e) (hothers : ∀ b, b ≠ o.asm → t.asm b = s.asm b)
    (hsubject : SameWork (s.asm o.asm) (t.asm o.asm) ∨
      (t.asm o.asm).state ≠ .measuring ∧ (o.kind.fits (s.asm o.asm).state → (s.asm o.asm).state ≠ .measuring))
    (hs : WorkLaw s) : WorkLaw t := by
  have hd : d < 64 := lt_of_op ho
  obtain ⟨huniq, hfits, -⟩ := operationLaw_iff.mp hs.2
  have hkept : ∀ e u, t.op e = some u → d ≠ e ∧ s.op e = some u := by
    intro e u hu
    rw [hops] at hu
    split at hu
    · cases hu
    · next h => exact ⟨fun h' => h ⟨h', hd⟩, hu⟩
  refine WorkStep.keeps ⟨by rw [hocu], hphase, fun e u hu => ⟨u, (hkept e u hu).2, rfl, rfl⟩, fun b => ?_⟩ hs
  by_cases hb : b = o.asm
  · subst hb
    refine hsubject.imp_right fun ⟨hnew, hold⟩ => ⟨hold (hfits d o ho), hnew, fun e u hu hasm => ?_⟩
    obtain ⟨hne, hsu⟩ := hkept e u hu
    exact absurd (huniq d e o u ho hsu hasm.symm) hne
  · rw [hothers b hb]
    exact .inl (sameWork_refl _)

/-! ### The ends of operations -/

theorem fits_issue {k : OpKind} {c p : Nat} {l x : Bool} {st : AsmState} (hk : k = .issue c p l x) (h : k.fits st) :
    st ≠ .measuring := by
  subst hk
  rintro rfl
  cases h

theorem fits_giveBack {k : OpKind} {x : Condition} {st : AsmState} (hk : k = .giveBack x) (h : k.fits st) :
    st ≠ .measuring := by
  subst hk
  rintro rfl
  rcases h with h | h <;> cases h

theorem returned_state_ne (r : AsmRecord) (k : Condition) (d : Nat) : (r.returned k d).state ≠ .measuring := by
  show r.applyStaged.returnState k ≠ .measuring
  unfold AsmRecord.returnState
  split
  · nofun
  · split <;> nofun

/-- The record that a rollback leaves the assembly of the operation: of an ISSUE it is READY again (R107, R111). -/
def Operation.rolledBack (o : Operation) (r : AsmRecord) : AsmRecord :=
  match o.kind with
  | .issue _ _ _ _ => r.enter .ready
  | _ => r

/-- The rollback of an operation writes the record of its assembly alone. -/
theorem rollback_asm (s : State) (d : Nat) (x : OpOutcome) {o : Operation} (ho : s.op d = some o) (b : Nat) :
    (s.rollback d x).asm b = if o.asm = b ∧ o.asm < 512 then o.rolledBack (s.asm o.asm) else s.asm b := by
  have hself : s.asm b = if o.asm = b ∧ o.asm < 512 then s.asm o.asm else s.asm b := by
    split
    · next h => rw [h.1]
    · rfl
  obtain ⟨k, a, r⟩ := o
  unfold State.rollback
  rw [ho]
  cases k with
  | issue c p l y => simp [Operation.rolledBack]
  | stock => simpa [Operation.rolledBack] using hself
  | withdraw => simpa [Operation.rolledBack] using hself
  | giveBack y => simpa [Operation.rolledBack] using hself

theorem rolledBack_subject (o : Operation) (r : AsmRecord) :
    SameWork r (o.rolledBack r) ∨ (o.rolledBack r).state ≠ .measuring ∧ (o.kind.fits r.state → r.state ≠ .measuring) := by
  unfold Operation.rolledBack
  split
  · next hk => exact .inr ⟨nofun, fits_issue hk⟩
  · exact .inl (sameWork_refl r)

theorem rollback_workLaw (d : Nat) (x : OpOutcome) (hs : WorkLaw s) : WorkLaw (s.rollback d x) := by
  cases ho : s.op d with
  | none => rwa [State.rollback, ho]
  | some o =>
    refine workLaw_ended ho (by simp) (by simp) (by simp) (fun b hb => ?_) ?_ hs
    · rw [rollback_asm s d x ho, if_neg fun h => hb h.1.symm]
    · rw [rollback_asm s d x ho]
      split
      · exact rolledBack_subject _ _
      · exact .inl (sameWork_refl _)

/-- The record that the close of an operation leaves its assembly (R100, R102, R106, R107, R109, R110). -/
def Operation.closed (o : Operation) (r : AsmRecord) (d : Nat) (present : Bool) : AsmRecord :=
  match o.kind with
  | .stock => if present ∧ r.readyUnstocked then { r with stock := some d } else r
  | .withdraw => if present then r else { r with stock := none }
  | .issue c p _ _ => if present then r.enter .ready else { r.enter .issued with binding := some (c, p) }
  | .giveBack k => if present then r.returned k d else r

/-- The close of an operation writes the record of its assembly alone. -/
theorem closeOp_asm (s : State) (d : Nat) (o : Operation) (x : Bool) (b : Nat) :
    (s.closeOp d o x).asm b = if o.asm = b ∧ o.asm < 512 then o.closed (s.asm o.asm) d x else s.asm b := by
  have hself : ∀ (r : AsmRecord), r = s.asm o.asm → s.asm b = if o.asm = b ∧ o.asm < 512 then r else s.asm b := by
    rintro r rfl
    split
    · next h => rw [h.1]
    · rfl
  obtain ⟨k, a, rel⟩ := o
  cases k with
  | stock =>
    dsimp only [State.closeOp, Operation.closed, State.closeStock]
    split
    · next hx =>
      split
      · next hr => simp [hx, hr]
      · next hr => simpa [hx, hr] using hself _ rfl
    · next hx => simpa [hx] using hself _ rfl
  | withdraw =>
    dsimp only [State.closeOp, Operation.closed, State.closeWithdraw]
    split
    · simpa using hself _ rfl
    · simp
  | issue c p l y =>
    dsimp only [State.closeOp, Operation.closed, State.closeIssue]
    split
    · simp
    · split <;> simp
  | giveBack k =>
    dsimp only [State.closeOp, Operation.closed, State.closeReturn]
    split
    · split
      · split
        · split <;> simp
        · simp
      · simp
    · simpa using hself _ rfl

theorem sameWork_ite {r u : AsmRecord} {p : Prop} [Decidable p] (h : SameWork r u) : SameWork r (if p then u else r) := by
  split
  · exact h
  · exact sameWork_refl r

/-- The record of a closed operation keeps its state, or is not MEASURING (R100, R102, R106, R107, R109). -/
theorem closed_subject (o : Operation) (r : AsmRecord) (d : Nat) (x : Bool) :
    SameWork r (o.closed r d x) ∨ (o.closed r d x).state ≠ .measuring ∧ (o.kind.fits r.state → r.state ≠ .measuring) := by
  have hstock : ∀ y, SameWork r { r with stock := y } := fun _ => ⟨rfl, rfl, fun _ => rfl⟩
  unfold Operation.closed
  split
  · exact .inl (sameWork_ite (hstock _))
  · cases x
    · exact .inl (hstock _)
    · exact .inl (sameWork_refl r)
  · next hk => cases x <;> exact .inr ⟨nofun, fits_issue hk⟩
  · next hk =>
    cases x
    · exact .inl (sameWork_refl r)
    · exact .inr ⟨returned_state_ne _ _ _, fits_giveBack hk⟩

theorem closeOp_workLaw {d : Nat} {o : Operation} (x : Bool) (ho : s.op d = some o) (hs : WorkLaw s) :
    WorkLaw (s.closeOp d o x) :=
  workLaw_ended ho (by simp) (by simp) (by simp) (fun b hb => by simp [closeOp_asm, Ne.symm hb]) (by
    rw [closeOp_asm]
    split
    · exact closed_subject _ _ _ _
    · exact .inl (sameWork_refl _)) hs

theorem reportOpened_workLaw (d : Nat) (b : Bool) (hs : WorkLaw s) : WorkLaw (s.reportOpened d b) := by
  refine WorkStep.keeps ⟨by simp, by simp, fun e u hu => ?_, fun b => .inl (by simpa using sameWork_refl _)⟩ hs
  rw [reportOpened_op] at hu
  split at hu
  · next h =>
    obtain ⟨o, ho, rfl⟩ := Option.map_eq_some_iff.mp hu
    exact ⟨o, h.1 ▸ ho, rfl, rfl⟩
  · exact ⟨u, hu, rfl, rfl⟩

theorem workLaw_drawer : DrawerLaw WorkLaw where
  frame := fun ⟨hatb, hocu, hcoc, _, _, _, hphase⟩ => workLaw_of_frame hatb hocu hcoc fun c h => hphase ▸ h
  rollback _ d x := rollback_workLaw d x
  close _ _ _ b ho := closeOp_workLaw b ho
  reported _ d b := reportOpened_workLaw d b
  dirty _ _ := workLaw_of_frame (by simp) (by simp) (by simp) (by simp)

end Sys2Proof.Machine
end

section
/-! PROOFS. Law L5 and the operations are kept by sessions, operations and requests. -/

namespace Sys2Proof.Machine

open Sys2Proof

variable {s t : State}

/-! ### Sessions -/

/-- The state that no issue and no return needs. -/
def AsmState.free (st : AsmState) : Prop := st ≠ .issuing ∧ st ≠ .issued ∧ st ≠ .exhausted

theorem fits_of_free {k : OpKind} {st : AsmState} (hfree : st.free) (h : k.fits st) (st' : AsmState) : k.fits st' := by
  obtain ⟨hissuing, hissued, hexhausted⟩ := hfree
  cases k with
  | stock => trivial
  | withdraw => trivial
  | issue c p l x => exact absurd h hissuing
  | giveBack x =>
    rcases h with h | h
    · exact absurd h hissued
    · exact absurd h hexhausted

/-- Operations stand where only records that no issue and no return needs change their state. -/
theorem operationLaw_of_states (hcoc : t.coc = s.coc) (hphase : ∀ c, t.phase = .load c → s.phase = .load c)
    (hst : ∀ b, (t.asm b).state = (s.asm b).state ∨ (s.asm b).state.free) (hs : OperationLaw s) : OperationLaw t := by
  have hop : ∀ d, t.op d = s.op d := fun d => by rw [State.op, State.op, hcoc]
  obtain ⟨huniq, hfits, hload⟩ := operationLaw_iff.mp hs
  refine operationLaw_iff.mpr ⟨fun d e => by rw [hop, hop]; exact huniq d e, fun d o ho => ?_, fun c d h => ?_⟩
  · rw [hop] at ho
    rcases hst o.asm with h | h
    · rw [h]; exact hfits d o ho
    · exact fits_of_free h (hfits d o ho) _
  · rw [hop]; exact hload c d (hphase c h)

/-- Without a MEASURE session no record is MEASURING (L5). -/
theorem SessionLaw.not_measuring (hs : SessionLaw s) (h : ∀ a k l, s.ocu ≠ some ⟨.measure a k, l⟩) (b : Nat) :
    (s.asm b).state ≠ .measuring := by
  intro hb
  obtain ⟨-, k, l, hocu⟩ := hs.2 b hb
  exact h b k l hocu

/-- The subject of the MEASURE session is the one MEASURING record (L5). -/
theorem SessionLaw.subject_of_measuring (hs : SessionLaw s) {a k : Nat} {l : List (Nat × Nat)}
    (hocu : s.ocu = some ⟨.measure a k, l⟩) {b : Nat} (h : (s.asm b).state = .measuring) : b = a := by
  obtain ⟨-, j, m, hj⟩ := hs.2 b h
  rw [hocu] at hj
  cases hj
  rfl

/-- A session that calibrates, or none, where no record is MEASURING. -/
theorem sessionLaw_idle (hocu : ∀ a k l, t.ocu ≠ some ⟨.measure a k, l⟩) (h : ∀ b, (t.asm b).state ≠ .measuring) :
    SessionLaw t :=
  ⟨fun a k l hm => absurd hm (hocu a k l), fun b hb => absurd hb (h b)⟩

/-- No session is left, and the only records whose state moved were needed by no operation. -/
theorem workLaw_idle (hocu : ∀ a k l, t.ocu ≠ some ⟨.measure a k, l⟩) (hcoc : t.coc = s.coc)
    (hphase : ∀ c, t.phase = .load c → s.phase = .load c)
    (hst : ∀ b, (t.asm b).state ≠ .measuring ∧ ((t.asm b).state = (s.asm b).state ∨ (s.asm b).state.free))
    (hs : WorkLaw s) : WorkLaw t :=
  ⟨sessionLaw_idle hocu fun b => (hst b).1, operationLaw_of_states hcoc hphase (fun b => (hst b).2) hs.2⟩

theorem free_measuring : AsmState.free .measuring := ⟨nofun, nofun, nofun⟩

theorem restorePrior_state (r : AsmRecord) (h : r.prior.isSome) : r.restorePrior.state ≠ .measuring := by
  unfold AsmRecord.restorePrior
  split
  · next p _ => cases p <;> nofun
  · next hp => rw [hp] at h; cases h

theorem closed_state (r : AsmRecord) (k temp n : Nat) (m : Measured) : (closedRecord r k temp n m).state ≠ .measuring := by
  cases m <;> nofun

/-- The MEASURE session on `a` ends: its record takes a state that is not MEASURING, and no other state moves. -/
theorem workLaw_measured {a k : Nat} {l : List (Nat × Nat)} {r : AsmRecord} (hsess : s.ocu = some ⟨.measure a k, l⟩)
    (hocu : t.ocu = none) (hcoc : t.coc = s.coc) (hphase : ∀ c, t.phase = .load c → s.phase = .load c)
    (hstate : ∀ b, (t.asm b).state = if a = b ∧ a < 512 then r.state else (s.asm b).state) (hr : r.state ≠ .measuring)
    (hs : WorkLaw s) : WorkLaw t := by
  refine workLaw_idle (by simp [hocu]) hcoc hphase (fun b => ?_) hs
  obtain ⟨hmeasuring, -⟩ := hs.1.1 a k l hsess
  have ha : a < 512 := by
    refine Nat.lt_of_not_le fun h => ?_
    rw [State.asm, tget_beyond _ _ _ h] at hmeasuring
    cases hmeasuring
  rw [hstate]
  split
  · next h =>
    obtain ⟨rfl, -⟩ := h
    exact ⟨hr, .inr (hmeasuring ▸ free_measuring)⟩
  · next h => exact ⟨fun hb => h ⟨(hs.1.subject_of_measuring hsess hb).symm, ha⟩, .inl rfl⟩

theorem sweep_state (s : State) (k b : Nat) : ((s.sweep k).asm b).state = (s.asm b).state := by
  rw [State.asm, (sweep_frame s k).1, tget_tmap_ite]
  split
  · split <;> rfl
  · next h => rw [State.asm, tget_beyond _ _ _ (Nat.le_of_not_lt h)]

theorem closeSession_workLaw (n : Int) (hs : WorkLaw s) : WorkLaw (closeSession n s).1 := by
  rcases (closeSession_checked s n).cases with ⟨st, h⟩ | ⟨⟨x, l⟩, hx, -, -, h⟩
  · rw [h]; exact hs
  · rw [h]
    have hcal : ∀ {u : State}, (∀ a k, x ≠ .measure a k) → u.ocu = none → u.coc = s.coc → u.phase = s.phase →
        (∀ b, (u.asm b).state = (s.asm b).state) → WorkLaw u := by
      intro u hkind hocu hcoc hphase hstate
      refine workLaw_idle (by simp [hocu]) hcoc (by simp [hphase]) (fun b => ⟨?_, .inl (hstate b)⟩) hs
      rw [hstate]
      exact hs.1.not_measuring (fun a k m => by rw [hx]; intro e; cases e; exact hkind a k rfl) b
    cases x with
    | measure a k =>
      unfold closeMeasure
      refine workLaw_measured hx (by simp) (by simp) (by simp) (fun b => ?_)
        (closed_state (s.asm a) k n.toNat l.length (s.measureResult ⟨.measure a k, l⟩ a k n.toNat)) hs
      simp only [finishSession_frame, State.releaseSubject, State.setAsm_asm, dirty_frame, changeAsm_frame]
      by_cases hb : a = b ∧ a < 512
      · obtain ⟨rfl, ha⟩ := hb
        simp [ha, AsmRecord.unlocked]
      · simp [hb]
    | zero k =>
      unfold closeZero
      dsimp only
      split <;> exact hcal nofun (by simp) (by simp) (by simp) fun b => by simp [sweep_state]
    | span k lm dm =>
      unfold closeSpan
      dsimp only
      split <;> exact hcal nofun (by simp) (by simp) (by simp) fun b => by simp [sweep_state]

theorem abandonSession_workLaw (hs : WorkLaw s) : WorkLaw (abandonSession s).1 := by
  rcases (abandonSession_checked s).cases with ⟨st, h⟩ | ⟨⟨x, l⟩, hx, h⟩
  · rw [h]; exact hs
  · rw [h]
    have hcal : (∀ a k, x ≠ .measure a k) → WorkLaw (s.finishSession (endedWithout ⟨x, l⟩ .abandoned)) := fun hkind =>
      workLaw_idle (by simp) (by simp) (by simp) (fun b => ⟨by
        rw [(finishSession_frame s _).1.2]
        exact hs.1.not_measuring (fun a k m => by rw [hx]; intro e; cases e; exact hkind a k rfl) b, by simp⟩) hs
    cases x with
    | measure a k =>
      obtain ⟨hmeasuring, -⟩ := hs.1.1 a k l hx
      refine workLaw_measured hx (by simp) (by simp) (by simp) (fun b => ?_)
        (restorePrior_state (s.asm a) (hs.1.2 a hmeasuring).1) hs
      simp only [finishSession_frame, State.releaseSubject, State.returnSubject, State.setAsm_asm, changeAsm_frame]
      by_cases hb : a = b ∧ a < 512
      · obtain ⟨rfl, ha⟩ := hb
        simp [ha, AsmRecord.unlocked]
      · simp [hb]
    | zero k => exact hcal nofun
    | span k lm dm => exact hcal nofun

/-- A record written that keeps state and prior, and its holder while MEASURING. -/
theorem setAsm_workLaw (a : Nat) (r : AsmRecord) (hr : SameWork (s.asm a) r) (hs : WorkLaw s) : WorkLaw (s.setAsm a r) :=
  (workStep_asm (t := s.setAsm a r) a r rfl rfl rfl (fun _ h => h) (.inl hr)).keeps hs

theorem expireLock_workLaw (a : Nat) (hs : WorkLaw s) : WorkLaw (s.expireLock a) := by
  unfold State.expireLock
  split
  · exact hs
  · next p hp =>
    dsimp only
    split
    · next hm =>
      obtain ⟨hprior, k, l, hocu⟩ := hs.1.2 a hm
      rw [hocu]
      dsimp only
      have hprior' : (s.asm a).unlocked.prior.isSome := hprior
      refine workLaw_measured hocu (by simp) (by simp) (by simp) (fun b => ?_)
        (restorePrior_state (s.asm a).unlocked hprior') hs
      simp only [finishSession_frame, changeAsm_frame]
      by_cases hb : a = b ∧ a < 512
      · obtain ⟨rfl, ha⟩ := hb
        simp [ha, State.setAsm_asm]
      · simp [hb, State.setAsm_asm]
    · next hm =>
      exact workLaw_of_frame (by simp) (by simp) (by simp) (by simp)
        (setAsm_workLaw a (s.asm a).unlocked ⟨rfl, rfl, fun h => absurd h hm⟩ hs)

theorem foldl_expireLock_workLaw (l : List Nat) (hs : WorkLaw s) : WorkLaw (l.foldl State.expireLock s) := by
  induction l generalizing s with
  | nil => exact hs
  | cons a l ih => exact ih (expireLock_workLaw a hs)

end Sys2Proof.Machine
end

section
/-! PROOFS. Every step keeps law L5 and the operations (O59). -/

namespace Sys2Proof.Machine

open Sys2Proof

variable {s t : State}

/-! ### Requests on records -/

theorem worn_sameWork (r : AsmRecord) (n : Nat) :
    SameWork r (r.worn n) ∨ r.state = .issued ∧ (r.worn n).state = .exhausted := by
  unfold AsmRecord.worn
  dsimp only
  split
  · next h =>
    refine .inr ⟨?_, rfl⟩
    unfold AsmRecord.exhaustNow at h
    simp only [Bool.and_eq_true, decide_eq_true_eq] at h
    exact h.1
  · exact .inl ⟨rfl, rfl, fun _ => rfl⟩

theorem fits_exhausted {k : OpKind} (h : k.fits .issued) : k.fits .exhausted := by
  cases k with
  | issue c p l x => cases h
  | giveBack x => exact .inr rfl
  | stock => trivial
  | withdraw => trivial

/-- An assembly in no operation is the assembly of none (R92). -/
theorem asm_ne_of_inOperation {a d : Nat} {o : Operation} (h : s.inOperation a = false) (ho : s.op d = some o) :
    o.asm ≠ a := by
  intro hasm
  have hd := lt_of_op ho
  have hmem : some o ∈ s.coc.toList := by
    rw [toList_eq_map none s.coc]
    exact List.mem_map.mpr ⟨d, List.mem_range.mpr hd, ho⟩
  unfold State.inOperation at h
  rw [List.any_eq_false] at h
  exact h (some o) hmem (by simp [hasm])

/-- A record written whose state no operation needs, before and after it. -/
theorem workLaw_written (a : Nat) (r : AsmRecord) (hatb : t.atb = tset s.atb a r) (hocu : t.ocu = s.ocu) (hcoc : t.coc = s.coc)
    (hphase : ∀ c, t.phase = .load c → s.phase = .load c) (hr : SameWork (s.asm a) r ∨ (s.asm a).state ≠ .measuring ∧
      r.state ≠ .measuring ∧ ((s.asm a).state.free ∨ s.inOperation a = false)) (hs : WorkLaw s) : WorkLaw t := by
  refine (workStep_asm a r hatb hocu hcoc hphase (hr.imp_right fun ⟨hold, hnew, hfree⟩ =>
    ⟨hold, hnew, fun d u hu hasm => ?_⟩)).keeps hs
  rcases hfree with hfree | hop
  · have hfit := (operationLaw_iff.mp hs.2).2.1 d u hu
    rw [hasm] at hfit
    exact fits_of_free hfree hfit _
  · exact absurd hasm (asm_ne_of_inOperation hop hu)

theorem lt_of_ready {a : Nat} (h : (s.asm a).state = .ready) : a < 512 := by
  refine Nat.lt_of_not_le fun ha => ?_
  rw [State.asm, tget_beyond _ _ _ ha] at h
  cases h

/-- A record that MEASURE_OPEN takes is in no issue and in no pocket (R27). -/
theorem measurable_free {r : AsmRecord} {x : PriorState} (h : r.measurable = some x) : r.state.free := by
  unfold AsmRecord.measurable at h
  split at h
  case h_1 hst => rw [hst]; exact ⟨nofun, nofun, nofun⟩
  case h_2 hst => rw [hst]; exact ⟨nofun, nofun, nofun⟩
  case h_3 hst => rw [hst]; exact ⟨nofun, nofun, nofun⟩
  case h_4 => cases h

theorem measureOpen_workLaw (a : Nat) (hs : WorkLaw s) : WorkLaw (measureOpen a s).1 := by
  rcases (measureOpen_checked s a).cases with ⟨st, h⟩ | ⟨ha, -, hocu, pr, k, hpr, -, h⟩
  · rw [h]; exact hs
  · rw [h]
    have hfree := measurable_free hpr
    have hnone := hs.1.not_measuring (fun a k l h => by rw [hocu] at h; cases h)
    have hasm : ∀ b, (((s.setSession (some ⟨.measure a k, []⟩)).changeAsm a ((s.asm a).opened pr)).asm b) =
        if a = b ∧ a < 512 then (s.asm a).opened pr else s.asm b := fun b => by simp
    refine ⟨⟨fun b j l hb => ?_, fun b hb => ?_⟩, operationLaw_of_states (by simp) (by simp) (fun b => ?_) hs.2⟩
    · simp only [changeAsm_frame, State.setSession] at hb
      cases hb
      rw [hasm, if_pos ⟨rfl, ha⟩]
      exact ⟨rfl, rfl⟩
    · rw [hasm] at hb ⊢
      split at hb
      · next h =>
        obtain ⟨rfl, -⟩ := h
        rw [if_pos ⟨rfl, ha⟩]
        exact ⟨rfl, k, [], by simp [State.setSession]⟩
      · exact absurd hb (hnone b)
    · rw [hasm]
      split
      · next h => exact .inr (h.1 ▸ hfree)
      · exact .inl rfl

/-- A report of use writes the worn record of the assembly, and no other (R138 to R140). -/
theorem reportUse_atb (s : State) (a c p n : Nat) : (s.reportUse a c p n).atb = tset s.atb a ((s.asm a).worn n) := by
  unfold State.reportUse State.commitUse State.noticeWarning State.noticeExhausted
  dsimp only
  repeat' split
  all_goals simp

theorem reportUse_workLaw (a c p n : Nat) (hs : WorkLaw s) : WorkLaw (s.reportUse a c p n) := by
  refine (workStep_asm (t := s.reportUse a c p n) a ((s.asm a).worn n) (reportUse_atb s a c p n) (by simp) (by simp) (by simp) ?_).keeps hs
  rcases worn_sameWork (s.asm a) n with h | ⟨hissued, hexhausted⟩
  · exact .inl h
  · refine .inr ⟨by rw [hissued]; nofun, by rw [hexhausted]; nofun, fun d u hu hasm => ?_⟩
    have hfit := (operationLaw_iff.mp hs.2).2.1 d u hu
    rw [hasm, hissued] at hfit
    rw [hexhausted]
    exact fits_exhausted hfit

theorem lockRecord_workLaw (p : Port) (a : Nat) (hs : WorkLaw s) : WorkLaw (lockRecord p a s).1 := by
  rcases lockRecord_cases s p a with ⟨st, b, h, -, -⟩ | ⟨-, hholder, h⟩
  · rw [h]; exact hs
  · rw [h]
    refine setAsm_workLaw _ _ ⟨rfl, rfl, fun hm => ?_⟩ hs
    obtain ⟨-, k, l, hocu⟩ := hs.1.2 a hm
    have hP := (hs.1.1 a k l hocu).2
    rcases hholder with hh | hh
    · rw [hh] at hP; cases hP
    · exact hh.symm

/-! ### Operations -/

/-- An operation begins on an assembly that is in none, and whose state fits it (R92). -/
theorem setOp_workLaw (d : Nat) (o : Operation) (hrun : ∀ c, s.phase ≠ .load c) (hop : s.inOperation o.asm = false)
    (hfit : o.kind.fits (s.asm o.asm).state) (hs : WorkLaw s) : WorkLaw (s.setOp d (some o)) := by
  obtain ⟨huniq, hfits, -⟩ := operationLaw_iff.mp hs.2
  refine ⟨hs.1, operationLaw_iff.mpr ⟨fun e f u v hu hv hasm => ?_, fun e u hu => ?_, fun c e h => absurd h (hrun c)⟩⟩
  · rw [State.setOp_op] at hu hv
    split at hu
    · next he =>
      split at hv
      · next hf => exact he.1.symm.trans hf.1
      · cases hu
        exact absurd hasm.symm (asm_ne_of_inOperation hop hv)
    · split at hv
      · cases hv
        exact absurd hasm (asm_ne_of_inOperation hop hu)
      · exact huniq e f u v hu hv hasm
  · rw [State.setOp_op] at hu
    split at hu
    · cases hu; exact hfit
    · exact hfits e u hu

theorem takeOperation_workLaw (d : Nat) (o : Operation) (hrun : ∀ c, s.phase ≠ .load c) (hop : s.inOperation o.asm = false)
    (hfit : o.kind.fits (s.asm o.asm).state) (hs : WorkLaw s) : WorkLaw (s.takeOperation d o).1 :=
  workLaw_drawer.acceptOperation d o (setOp_workLaw d o hrun hop hfit hs)

theorem acceptIssue_workLaw {a : Nat} (c p d : Nat) (b : Bool) (ha : a < 512) (hrun : ∀ c, s.phase ≠ .load c)
    (hop : s.inOperation a = false) (hready : (s.asm a).state = .ready) (hs : WorkLaw s) :
    WorkLaw (s.acceptIssue a c p d b).1 := by
  have hissuing : WorkLaw (s.setAsm a ((s.asm a).enter .issuing)) :=
    workLaw_written (t := s.setAsm a ((s.asm a).enter .issuing)) a _ rfl rfl rfl (fun _ h => h)
      (.inr ⟨by rw [hready]; nofun, nofun, .inr hop⟩) hs
  have hheld : WorkLaw ((s.setAsm a ((s.asm a).enter .issuing)).setOp d (some ⟨.issue c p (findPick s.picks c p).isSome b, a, none⟩)) :=
    setOp_workLaw d _ hrun hop (by
      rw [State.setAsm_asm, if_pos ⟨rfl, ha⟩]
      rfl) hissuing
  unfold State.acceptIssue
  dsimp only
  refine workLaw_drawer.acceptOperation _ _ (workLaw_of_frame ?_ ?_ ?_ ?_ hheld)
  all_goals split <;> simp [State.setAsm, State.setOp]

/-! ### Every request -/

theorem setParameter_workLaw (p : Port) (n v : Nat) (hs : WorkLaw s) : WorkLaw (setParameter p n v s).1 := by
  rcases (setParameter_checked s p n v).cases with ⟨st, h⟩ | ⟨-, h⟩
  · rw [h]; exact hs
  · have hparams : WorkLaw (s.setParams (s.params.put n (paramStored n v))) := hs
    have hlimit : WorkLaw ((s.setParams (s.params.put n (paramStored n v))).actOnLimit n) := by
      unfold State.actOnLimit
      exact keeps_ite (keeps_ite (keeps_ite hparams
        fun _ => workLaw_of_frame (by simp) (by simp) (by simp) (by simp) hparams)
        fun _ => workLaw_of_frame (by simp) (by simp) (by simp) (by simp) hparams)
        fun _ => foldl_expireLock_workLaw _ hparams
    rw [h]
    exact keeps_ite (workLaw_of_frame (by simp) (by simp) (by simp) (by simp) hlimit) fun _ => hs

/-- A load has no session, no MEASURING record and no operation (R23, R91). -/
theorem loadBegin_workLaw (s : State) (c : Cause) : WorkLaw (s.loadBegin c) := by
  have hop : ∀ d, (s.loadBegin c).op d = none := fun d => by
    show tget none (tgen 64 fun _ => none) d = none
    rw [tget_tgen, ite_self]
  have hstate : ∀ b, ((s.loadBegin c).asm b).state ≠ .measuring := by
    intro b
    show (tget (blankRecord .vacant) (tgen 512 fun a => (s.readPage a).asm) b).state ≠ .measuring
    rw [tget_tgen]
    split
    · unfold PageRead.asm
      split
      · nofun
      · next r _ =>
        unfold AsmRecord.view
        dsimp only
        split
        · split
          · next p _ => cases p <;> nofun
          · nofun
        · nofun
        · next h _ => exact h
      · nofun
    · nofun
  refine ⟨sessionLaw_idle (fun a k l h => nomatch h) hstate, operationLaw_iff.mpr
    ⟨fun d e o u h => ?_, fun d o h => ?_, fun _ d _ => hop d⟩⟩
  all_goals
    rw [hop] at h
    cases h

theorem endDrain_workLaw (hs : WorkLaw s) : WorkLaw s.endDrain := keeps_ite hs fun _ => loadBegin_workLaw s _

theorem handler_workLaw (i : Instr) (hrun : s.phase = .running) (hs : WorkLaw s) : WorkLaw (handler i s).1 := by
  have hload : ∀ c, s.phase ≠ .load c := fun c h => by rw [hrun] at h; cases h
  cases i
  case measureOpen a => exact measureOpen_workLaw a hs
  case reading z x =>
    rcases (addReading_checked s z x).cases with ⟨st, h⟩ | ⟨n, hn, -, -, -, h⟩
    · simp only [handler, h]; exact hs
    · simp only [handler, h]
      exact WorkStep.keeps (s := s) ⟨by rw [hn]; rfl, fun _ h => h, fun d u hu => ⟨u, hu, rfl, rfl⟩,
        fun b => .inl (sameWork_refl _)⟩ hs
  case sessionClose n => exact closeSession_workLaw n hs
  case sessionAbandon => exact abandonSession_workLaw hs
  case zeroOpen k =>
    rcases (zeroOpen_checked s k).cases with ⟨st, h⟩ | ⟨-, hocu, -, h⟩
    · simp only [handler, h]; exact hs
    · simp only [handler, h]
      exact ⟨sessionLaw_idle (fun a k l h => nomatch h) (hs.1.not_measuring (by simp [hocu])), hs.2⟩
  case spanOpen k lm dm =>
    rcases (spanOpen_checked s k lm dm).cases with ⟨st, h⟩ | ⟨-, hocu, -, h⟩
    · simp only [handler, h]; exact hs
    · simp only [handler, h]
      exact ⟨sessionLaw_idle (fun a k l h => nomatch h) (hs.1.not_measuring (by simp [hocu])), hs.2⟩
  case register a f nl nr m l w =>
    rcases (registerAsm_checked s a f nl nr m l w).cases with ⟨st, h⟩ | ⟨-, hst, x, -, h⟩
    · simp only [handler, h]; exact hs
    · simp only [handler, h]
      refine workLaw_written a ((s.asm a).registered f nl nr x (lifeLimitOf l) (warnOf w)) (by simp) (by simp) (by simp) (by simp)
        (.inr ⟨?_, nofun, .inl ?_⟩) hs
      · rcases hst with hst | hst <;> rw [hst] <;> nofun
      · rcases hst with hst | hst <;> rw [hst] <;> exact ⟨nofun, nofun, nofun⟩
  case retire a =>
    rcases (retireAsm_checked s a).cases with ⟨st, h⟩ | ⟨-, hop, hst, h⟩
    · simp only [handler, h]; exact hs
    · have hretired : WorkLaw ((s.changeAsm a (s.asm a).retired).dirty a) :=
        workLaw_written a (s.asm a).retired (by simp) (by simp) (by simp) (by simp) (.inr ⟨hst, nofun, .inr hop⟩) hs
      simp only [handler, h]
      split
      · exact hretired
      · exact workLaw_of_frame (by simp) (by simp) (by simp) (by simp) hretired
  case returnFromRegrind a =>
    rcases (returnFromRegrind_checked s a).cases with ⟨st, h⟩ | ⟨-, hop, hst, -, h⟩
    · simp only [handler, h]; exact hs
    · simp only [handler, h]
      exact workLaw_written a (s.asm a).reground (by simp) (by simp) (by simp) (by simp)
        (.inr ⟨by rw [hst]; nofun, nofun, .inr hop⟩) hs
  case setLife a m l w =>
    rcases (setLife_checked s a m l w).cases with ⟨st, h⟩ | ⟨-, x, r, b, -, hr, -, h⟩
    · simp only [handler, h]; exact hs
    · simp only [handler, h]
      refine workLaw_written a r (by simp) (by simp) (by simp) (by simp) (.inl ?_) hs
      rw [hr]
      split <;> exact ⟨rfl, rfl, fun _ => rfl⟩
  case usage c p sec n =>
    rcases (usage_checked s c p sec n).cases with ⟨st, h⟩ | ⟨-, -, -, a, t, -, ht, h⟩
    · simp only [handler, h]; exact hs
    · simp only [handler, h, ht]
      exact keeps_ite (reportUse_workLaw _ _ _ _ hs) fun _ => hs
  case stock a d =>
    rcases (stockAsm_checked s a d).cases with ⟨st, h⟩ | ⟨-, -, hop, -, -, -, -, -, h⟩
    · simp only [handler, h]; exact hs
    · simp only [handler, h]; exact takeOperation_workLaw _ _ hload hop trivial hs
  case withdraw a =>
    obtain ⟨d, hd⟩ := stock_unique s a
    rcases (withdrawAsm_checked s a d hd).cases with ⟨st, h⟩ | ⟨-, hop, -, -, -, -, -, h⟩
    · simp only [handler, h]; exact hs
    · simp only [handler, h]; exact takeOperation_workLaw _ _ hload hop trivial hs
  case returnTool a d k =>
    rcases (returnAsm_checked s a d k).cases with ⟨st, h⟩ | ⟨-, -, hop, -, -, -, -, hst, k, -, h⟩
    · simp only [handler, h]; exact hs
    · simp only [handler, h]; exact takeOperation_workLaw _ _ hload hop hst hs
  case issue a c p =>
    obtain ⟨d, hd⟩ := stock_unique s a
    rcases (issueAsm_checked s a c p d hd).cases with ⟨st, h⟩ | ⟨ha, -, -, hop, hready, -, -, -, -, -, h⟩
    · simp only [handler, h]; exact hs
    · simp only [handler, h]; exact acceptIssue_workLaw _ _ _ _ ha hload hop hready hs
  case issuePick c p =>
    obtain ⟨a, ha⟩ := sister_unique s c p
    obtain ⟨d, hd⟩ := stock_unique s a
    rcases (issuePick_checked s a c p d ha hd).cases with ⟨st, h⟩ | ⟨-, -, hop, hready, -, -, -, -, -, k, -, -, hk, h⟩
    · simp only [handler, h]; exact hs
    · simp only [handler, h]; exact acceptIssue_workLaw _ _ _ _ (lt_of_ready hready) hload hop hready hs
  case cancelDrawer d => exact workLaw_drawer.cancelDrawer d hs
  case lock p a => exact lockRecord_workLaw p a hs
  case unlock p a =>
    rcases (unlockRecord_checked s p a).cases with ⟨st, h⟩ | ⟨-, -, hst, h⟩
    · simp only [handler, h]; exact hs
    · simp only [handler, h]; exact setAsm_workLaw _ _ ⟨rfl, rfl, fun hm => absurd hm hst⟩ hs
  case setParameter p n v => exact setParameter_workLaw p n v hs
  case restart =>
    simp only [handler, restart]
    split
    · exact hs
    · split
      · exact hs
      · exact endDrain_workLaw (workLaw_of_frame (by simp) (by simp) (by simp) (fun _ h => nomatch h) hs)
  all_goals exact workLaw_of_frame (by simp [handler]) (by simp [handler]) (by simp [handler]) (by simp [handler]) hs

theorem touchNamed_workLaw (p : Port) (i : Instr) (hs : WorkLaw s) : WorkLaw (s.touchNamed p i) := by
  unfold State.touchNamed
  split
  · unfold State.touch
    exact keeps_ite hs fun _ => setAsm_workLaw _ _ ⟨rfl, rfl, fun _ => rfl⟩ hs
  · exact hs

end Sys2Proof.Machine
end

section
/-! PROOFS. The events keep law L5 and the operations, and so does every step (O59). -/

namespace Sys2Proof.Machine

open Sys2Proof

variable {s t : State}

/-! ### The load -/

/-- The binding of a record is placed, or the record is LOST, while no operation is held (R184, R91). -/
theorem placeBinding_workLaw (a : Nat) (hop : ∀ d, s.op d = none) (hs : WorkLaw s) : WorkLaw (s.placeBinding a) := by
  have hlost : (s.asm a).state = .issued ∨ (s.asm a).state = .exhausted → WorkLaw (s.setAsm a ((s.asm a).enter .lost)) :=
    fun hst => (workStep_asm (t := s.setAsm a ((s.asm a).enter .lost)) a _ rfl rfl rfl (fun _ h => h)
      (.inr ⟨by rcases hst with h | h <;> rw [h] <;> nofun, nofun, fun d u hu => by rw [hop d] at hu; cases hu⟩)).keeps hs
  unfold State.placeBinding
  dsimp only
  split
  · next hst =>
    split
    · split
      · exact workLaw_of_frame (s := s) rfl rfl rfl (fun _ h => h) hs
      · exact hlost hst
    · exact hlost hst
  · exact hs

theorem foldl_placeBinding_workLaw (l : List Nat) (hop : ∀ d, s.op d = none) (hs : WorkLaw s) :
    WorkLaw (l.foldl State.placeBinding s) := by
  induction l generalizing s with
  | nil => exact hs
  | cons a l ih => exact ih (fun d => by simp [hop]) (placeBinding_workLaw a hop hs)

theorem checkAsmStock_workLaw (a : Nat) (hs : WorkLaw s) : WorkLaw (s.checkAsmStock a) := by
  unfold State.checkAsmStock
  split
  · split
    · exact hs
    · exact workLaw_of_frame (by simp) (by simp) (by simp) (by simp)
        (setAsm_workLaw a { s.asm a with stock := none } ⟨rfl, rfl, fun _ => rfl⟩ hs)
  · exact hs

theorem foldl_checkAsmStock_workLaw (l : List Nat) (hs : WorkLaw s) : WorkLaw (l.foldl State.checkAsmStock s) := by
  induction l generalizing s with
  | nil => exact hs
  | cons a l ih => exact ih (checkAsmStock_workLaw a hs)

/-- Records changed alike that keep state, prior and holder. -/
theorem workLaw_of_map (f : AsmRecord → AsmRecord) (hf : ∀ r, SameWork r (f r)) (hatb : t.atb = tmap f s.atb)
    (hocu : t.ocu = s.ocu) (hcoc : t.coc = s.coc) (hphase : ∀ c, t.phase = .load c → s.phase = .load c) (hs : WorkLaw s) :
    WorkLaw t := by
  refine WorkStep.keeps ⟨by rw [hocu], hphase, fun d u hu => ⟨u, by rwa [State.op, ← hcoc], rfl, rfl⟩, fun b => .inl ?_⟩ hs
  rw [State.asm, State.asm, hatb, tget_tmap_ite]
  split
  · exact hf _
  · next h =>
    rw [tget_beyond _ _ _ (Nat.le_of_not_lt h)]
    exact sameWork_refl _

/-- The cross-checks keep the laws while no operation is held (R184, R185). -/
theorem crossChecked_workLaw (hop : ∀ d, s.op d = none) (hs : WorkLaw s) : WorkLaw s.crossChecked := by
  have hrefs : WorkLaw s.checkReferences :=
    workLaw_of_map (fun r => if s.namesInvalid r then r.clearMark else r)
      (fun r => by split <;> exact ⟨rfl, rfl, fun _ => rfl⟩) rfl rfl rfl (fun _ h => h) hs
  have hactive : WorkLaw s.checkReferences.checkActive :=
    workLaw_of_frame (by simp) (by simp) (by simp) (by simp) hrefs
  have hplaced : WorkLaw s.checkReferences.checkActive.placeBindings :=
    foldl_placeBinding_workLaw _ (fun d => by simp [hop]) hactive
  unfold State.crossChecked State.checkStock
  exact foldl_checkAsmStock_workLaw _
    (workLaw_of_frame (s := s.checkReferences.checkActive.placeBindings) (by simp) (by simp) (by simp) (by simp) hplaced)

theorem loadEnd_workLaw (c : Cause) (hload : s.phase = .load c) (hs : WorkLaw s) : WorkLaw (s.loadEnd c) := by
  obtain ⟨-, -, -, hnone⟩ := hs.2
  obtain ⟨⟨hatb, -⟩, hocu, -, -, ⟨hcoc, -⟩, -, -, -, -, hphase, -⟩ := loadEnd_frame (s := s) c
  have hcross := crossChecked_workLaw (fun d => hnone c d hload) hs
  exact workLaw_of_frame hatb hocu hcoc (fun x h => by rw [hphase] at h; cases h) hcross

/-! ### Events -/

theorem noteCommitted_workLaw (k : Nat) (v : View) (hs : WorkLaw s) : WorkLaw (s.noteCommitted k v) := by
  unfold State.noteCommitted
  split
  · exact keeps_ite hs fun _ => setAsm_workLaw _ _ ⟨rfl, rfl, fun _ => rfl⟩ hs
  · exact hs

theorem event_workLaw (i : Instr) (hs : WorkLaw s) : WorkLaw (event s i) := by
  cases i
  case requestFrameEnd p l b =>
    obtain ⟨⟨hatb, -⟩, hocu, -, ⟨-, ⟨hcoc, -⟩, -⟩, -, ⟨-, hphase, -⟩, -⟩ := frame_of_port (transact_frame_eq s p l b).1
    exact workLaw_of_frame hatb hocu hcoc (fun c h => hphase ▸ h) hs
  case replyRead p n =>
    obtain ⟨⟨hatb, -⟩, hocu, -, ⟨-, ⟨hcoc, -⟩, -⟩, -, ⟨-, hphase, -⟩, -⟩ := frame_of_port (transact_read_eq s p n).1
    exact workLaw_of_frame hatb hocu hcoc (fun c h => hphase ▸ h) hs
  case openSeen d => exact workLaw_drawer.seeOpen d hs
  case closeSeen d => exact workLaw_drawer.seeClose d hs
  case presenceLevelChange d b => exact workLaw_drawer.seePresence d b hs
  case pulseWidthElapsed => exact keeps_ite hs fun _ => workLaw_drawer.elapsePulse hs
  case overcurrent => exact workLaw_drawer.assertSense hs
  case waitExpiry d => exact keeps_ite hs fun _ => workLaw_drawer.expireWait d hs
  case openTimeExpiry d =>
    exact keeps_ite hs fun _ => workLaw_of_frame (by simp) (by simp) (by simp) (by simp) hs
  case lockExpiry a => exact keeps_ite hs fun _ => expireLock_workLaw a hs
  case discardExpiry n => exact keeps_ite hs fun _ => hs
  case entryFormation =>
    exact keeps_ite hs fun _ => by rw [formNext_eq]; exact hs
  case slotBuildCompletion =>
    exact keeps_ite hs fun _ => by rw [completeSlot_eq]; exact hs
  case readAheadBuildCompletion =>
    exact keeps_ite hs fun _ => by rw [completeReadAhead_eq]; exact hs
  case commitCompletion =>
    refine keeps_ite hs fun _ => ?_
    rcases completeCommit_cases s with ⟨-, h⟩ | ⟨c, q, -, -, h⟩
    · rw [h]; exact hs
    · rw [h]
      exact endDrain_workLaw (workLaw_of_frame (by simp) (by simp) (by simp) (by simp)
        (noteCommitted_workLaw (s := s.setPage c.key (.whole c.key c.snapshot)) c.key c.snapshot hs))
  case powerOn =>
    exact keeps_ite hs fun _ => keeps_ite (loadBegin_workLaw s _) fun _ =>
      workLaw_of_frame (by simp) (by simp) (by simp) (by simp) hs
  case powerLoss o =>
    exact keeps_ite (workLaw_of_frame (s := s) (by simp) (by simp) (by simp) (fun _ h => nomatch h) hs) fun _ => hs
  case resetInputAsserted o =>
    show WorkLaw (s.assertReset o)
    rcases assertReset_cases s o with ⟨-, h⟩ | ⟨-, -, h⟩
    · rw [h]; exact hs
    · rw [h]; exact workLaw_of_frame (s := s) (by simp) (by simp) (by simp) (by simp) hs
  case resetInputReleased => exact keeps_ite (L := WorkLaw) hs fun _ => loadBegin_workLaw _ _
  case loadEnd =>
    show WorkLaw s.finishLoad
    rcases finishLoad_cases s with ⟨c, hload, h⟩ | ⟨-, h⟩
    · rw [h]; exact loadEnd_workLaw c hload hs
    · rw [h]; exact hs
  case mntInputChange b => exact hs
  case overcurrentSenseReleased => exact hs
  all_goals exact hs

theorem tick_workLaw (hs : WorkLaw s) : WorkLaw s.tick :=
  keeps_ite hs fun _ => workLaw_of_map (s := s) AsmRecord.tick
    (fun r => by unfold AsmRecord.tick; split <;> exact ⟨rfl, rfl, fun _ => rfl⟩) rfl rfl rfl (fun _ h => h) hs

theorem step_workLaw (h : step s = .next t) (hs : WorkLaw s) : WorkLaw t :=
  step_keeps (L := WorkLaw) (fun _ _ h => h) (fun _ => tick_workLaw)
    (fun _ p i _ => serve_keeps (fun _ tag a => workLaw_of_frame (by simp) (by simp) (by simp) (by simp))
      (fun _ => touchNamed_workLaw p i) fun _ hrun => handler_workLaw i hrun)
    (fun _ i _ => event_workLaw i) h hs

/-- Settles O59, by the one law of sessions and operations that requests, events and the millisecond keep. -/
theorem everyStepKeepsTheSessionAndOperationLaws : Obligations.EveryStepKeepsTheSessionAndOperationLaws :=
  fun _ _ h hsession hop => step_workLaw h ⟨hsession, hop⟩

end Sys2Proof.Machine
end

section
/-! PROOFS. What a request does that its block takes: the idle timer of the record it names restarts, the block carries it out,
and its answer stands in the reply buffer. The statements on refusals and on the order of checks (O10 to O13) speak of this
alone. -/

namespace Sys2Proof.Machine

open Sys2Proof

variable {s : State} {p : Port} {i : Instr} {tag : Byte}

/-! ### The restart of the idle timer (R14) -/

/-- The record that a request of a port leaves with its idle timer. -/
theorem touchNamed_asm (s : State) (p : Port) (i : Instr) (a : Nat) :
    (s.touchNamed p i).asm a = { s.asm a with
      idle := if namedAsm s.ocu i = some a ∧ (s.asm a).holder = some p then 0 else (s.asm a).idle } := by
  unfold State.touchNamed
  cases hn : namedAsm s.ocu i with
  | none => simp
  | some b =>
    dsimp only
    unfold State.touch
    by_cases hh : (s.asm b).holder = some p
    · have hb : b < 512 := by
        refine Nat.lt_of_not_le fun h => ?_
        rw [State.asm, tget_beyond _ _ _ h] at hh
        cases hh
      rw [if_pos hh, State.setAsm_asm]
      by_cases hab : b = a
      · subst hab
        simp [hb, hh]
      · simp [hab]
    · rw [if_neg hh]
      by_cases hab : b = a
      · subst hab
        simp [hh]
      · simp [hab]

theorem touchNamed_eq (s : State) (p : Port) (i : Instr) : s.touchNamed p i = { s with atb := (s.touchNamed p i).atb } := by
  unfold State.touchNamed
  split
  · unfold State.touch
    split <;> rfl
  · rfl

@[simp] theorem markSet_idle (r : AsmRecord) (n : Nat) : { r with idle := n }.markSet = r.markSet := rfl

@[simp] theorem outlasts_idle (r u : AsmRecord) (n m : Nat) :
    { r with idle := n }.outlasts { u with idle := m } = r.outlasts u := rfl

@[simp] theorem chooseSister_touchNamed (f : Nat) : (s.touchNamed p i).chooseSister f = s.chooseSister f := by
  have hcandidate : (s.touchNamed p i).pickCandidate f = s.pickCandidate f := by
    funext a
    unfold State.pickCandidate
    rw [touchNamed_asm]
    rfl
  have hbetter : betterOf (s.touchNamed p i) id = betterOf s id := by
    funext best x
    unfold betterOf
    split
    · rfl
    · rw [touchNamed_asm, touchNamed_asm, outlasts_idle]
  unfold State.chooseSister
  rw [hcandidate, hbetter]

@[simp] theorem boundAsm_touchNamed (c q : Nat) : (s.touchNamed p i).boundAsm c q = s.boundAsm c q := by
  unfold State.boundAsm
  simp

@[simp] theorem releaseCount_touchNamed : (s.touchNamed p i).releaseCount = s.releaseCount := by
  rw [touchNamed_eq]
  rfl

@[simp] theorem releaseChecks_touchNamed (d : Nat) : releaseChecks (s.touchNamed p i) d = releaseChecks s d := by
  unfold releaseChecks
  simp

/-! ### Taken requests (R193) -/

/-- A taken request: its block's effect, and its block's answer in the reply buffer. -/
theorem exec_taken (hi : requestPort i = some p) (h : s.taken p i = some tag) :
    exec i s = .next ((handler i (s.touchNamed p i)).1.answer p tag (handler i (s.touchNamed p i)).2) := by
  rw [exec_request hi, serve_taken _ h]

theorem handler_port_keep (h : s.taken p i = some tag) : ((handler i (s.touchNamed p i)).1.port p).keep = false := by
  rw [handler_keep]
  simpa using taken_keep h

/-- The buffer a taken request leaves. -/
theorem answer_buf {t : State} (a : Answer) (hkeep : (t.port p).keep = false) :
    ((t.answer p tag a).port p).buf = .held ⟨a.status, a.clamped, tag, a.body⟩ := by
  simp [State.answer, State.hold, hkeep, State.setPort_port]

/-- A taken request whose checks are said by `Checked` is answered by the first that fails. -/
theorem taken_answeredBy {l u : List (Bool × Status)} {P : Prop} (hi : requestPort i = some p) (h : s.taken p i = some tag)
    (hc : Checked (s.touchNamed p i) u (handler i (s.touchNamed p i)) P) (hl : u = l)
    (hok : P → (handler i (s.touchNamed p i)).2.status = .ok) :
    ∃ t, exec i s = .next t ∧ AnsweredBy t p tag l := by
  subst hl
  refine ⟨_, exec_taken hi h, fun st hst => ?_, fun hnone => ?_⟩
  · rw [answer_buf _ (handler_port_keep h), hc.1 st hst]
    rfl
  · exact ⟨_, _, by rw [answer_buf _ (handler_port_keep h), hok (hc.2 hnone)]; rfl⟩

end Sys2Proof.Machine
end

section
/-! PROOFS. The order of checks of every request that the obligations list (O11 to O13), and what a refused request leaves (O10). -/

namespace Sys2Proof.Machine

open Sys2Proof

/-! ### The presetter (O13) -/

theorem closeSession_status (s : State) (x : Session) (n : Nat) : (match x.kind with
    | .measure a k => closeMeasure s x a k n
    | .zero k => closeZero s x k
    | .span k lm dm => closeSpan s x k lm dm).2.status = .ok := by
  split
  · rfl
  · unfold closeZero
    split <;> rfl
  · unfold closeSpan
    dsimp only
    split <;> rfl

/-- Settles O13, by the chain of checks of each request. -/
theorem sessionChecksComeInOrder : Obligations.SessionChecksComeInOrder := by
  unfold Obligations.SessionChecksComeInOrder
  intro k z x lm dm temp tag s
  refine ⟨fun h => ?_, fun h => ?_, fun h => ?_, fun h => ?_, fun h => ?_, fun h => ?_, fun h => ?_, fun h => ?_, fun h => ?_⟩
  · exact taken_answeredBy rfl h (addReading_checked _ z x) (by simp)
      fun ⟨_, _, _, _, _, hx⟩ => by simp only [handler, hx]; rfl
  · exact taken_answeredBy rfl h (closeSession_checked _ temp) (by simp)
      fun ⟨_, _, _, _, hx⟩ => by simp only [handler, hx]; exact closeSession_status _ _ _
  · exact taken_answeredBy rfl h (abandonSession_checked _) (by simp) fun ⟨_, _, hx⟩ => by simp only [handler, hx]; rfl
  · exact taken_answeredBy rfl h (zeroOpen_checked _ k) (by simp) fun ⟨_, _, _, hx⟩ => by simp only [handler, hx]; rfl
  · exact taken_answeredBy rfl h (spanOpen_checked _ k lm dm) (by simp)
      fun ⟨_, _, _, hx⟩ => by simp only [handler, hx]; rfl
  · exact taken_answeredBy rfl h (certifyReference_checked _ k) (by simp)
      fun ⟨_, _, _, hx⟩ => by simp only [handler, hx]; rfl
  · exact taken_answeredBy rfl h (unlockReference_checked _ k) (by simp)
      fun ⟨_, _, _, hx⟩ => by simp only [handler, hx]; rfl
  · exact taken_answeredBy rfl h (selectReference_checked _ k) (by simp)
      fun ⟨_, _, _, hx⟩ => by simp only [handler, hx]; rfl
  · exact taken_answeredBy rfl h (readReference_checked _ k) (by simp) fun hx => by simp only [handler, hx]; rfl

/-! ### Operations (O11) -/

theorem issueCheckList_touchNamed (s : State) (q : Port) (i : Instr) (a c p d : Nat) :
    issueCheckList (s.touchNamed q i) a c p d = issueCheckList s a c p d := by
  unfold issueCheckList
  simp [touchNamed_asm]

/-- Settles O11, by the chain of checks of each request. -/
theorem operationChecksComeInOrder : Obligations.OperationChecksComeInOrder := by
  unfold Obligations.OperationChecksComeInOrder
  intro a c p d n tag s empty issue hempty
  subst hempty
  refine ⟨fun l hl => ?_, fun h hd => ?_, fun hd hissue => ?_, fun h => ?_, fun h => ?_, fun h => ?_⟩
  · subst hl
    refine ⟨fun h => ?_, fun h => ?_⟩
    · exact taken_answeredBy rfl h (stockAsm_checked _ a d) (by simp [touchNamed_asm])
        fun ⟨_, _, _, _, _, _, _, _, hx⟩ => by simp only [handler, hx]; rfl
    · exact taken_answeredBy rfl h (returnAsm_checked _ a d n) (by simp [touchNamed_asm])
        fun ⟨_, _, _, _, _, _, _, _, _, _, hx⟩ => by simp only [handler, hx]; rfl
  · exact taken_answeredBy rfl h (withdrawAsm_checked _ a d (by simpa [touchNamed_asm] using hd)) (by simp [touchNamed_asm])
        fun ⟨_, _, _, _, _, _, _, hx⟩ => by simp only [handler, hx]; rfl
  · have hlist : issue = issueCheckList s a c p d := hissue
    subst hlist
    refine ⟨fun h => ?_, fun h ha => ?_⟩
    · exact taken_answeredBy rfl h (issueAsm_checked _ a c p d (by simpa [touchNamed_asm] using hd))
        (by simp [touchNamed_asm, issueCheckList_touchNamed])
        fun ⟨_, _, _, _, _, _, _, _, _, _, hx⟩ => by simp only [handler, hx]; rfl
    · exact taken_answeredBy rfl h (issuePick_checked _ a c p d (by simpa using ha) (by simpa [touchNamed_asm] using hd))
        (by simp [issueCheckList_touchNamed])
        fun ⟨_, _, _, _, _, _, _, _, _, _, _, _, _, hx⟩ => by simp only [handler, hx]; rfl
  · exact taken_answeredBy rfl h (cancelDrawer_checked _ d) (by simp) fun ⟨_, hx⟩ => by
      rcases hx with ⟨_, hx⟩ | ⟨_, hx⟩ | ⟨_, hx⟩ <;> simp only [handler, hx] <;> rfl
  · exact taken_answeredBy rfl h (clearJam_checked _ d) (by simp) fun ⟨_, _, hx⟩ => by simp only [handler, hx]; rfl
  · exact taken_answeredBy rfl h (readDrawer_checked _ d) (by simp) fun hx => by simp only [handler, hx]; rfl

/-! ### Records, cells and handoff blocks (O12) -/

theorem serveFresh_status (s : State) (i : Ident) :
    (s.serveFresh i).2.status = .ok ∨ (s.serveFresh i).2.status = .retry ∨ (s.serveFresh i).2.status = .busy := by
  unfold State.serveFresh
  dsimp only
  repeat' split
  all_goals simp [State.retry, accept]

theorem serveSlot_status (s : State) (n : Nat) (h : Held) (b : Block) :
    (s.serveSlot n h b).2.status = .ok ∨ (s.serveSlot n h b).2.status = .retry := by
  unfold State.serveSlot
  split
  · exact .inr rfl
  · exact .inl rfl

/-- A HANDOFF that passes its checks is delivered, waits, or finds no slot (R158). -/
theorem handoff_status {s : State} {i : Ident} : ∀ {x : State × Answer}, x = (match s.slotOf i with
      | some n => match s.slot n with
        | .complete h b _ => s.serveSlot n h b
        | .building h => s.retry i n h.rebuilds
        | .free => s.serveFresh i
      | none => s.serveFresh i) →
    x.2.status = .ok ∨ x.2.status = .retry ∨ x.2.status = .busy := by
  rintro x rfl
  split
  · split
    · exact (serveSlot_status s _ _ _).imp_right .inl
    · exact .inr (.inl rfl)
    · exact serveFresh_status s i
  · exact serveFresh_status s i

/-- Settles O12, by the chain of checks of each request. -/
theorem recordChecksComeInOrder : Obligations.RecordChecksComeInOrder := by
  unfold Obligations.RecordChecksComeInOrder
  intro a c p n f fam nl nr mode limit warn seconds tag s
  refine ⟨fun h => ?_, fun h => ?_, fun h => ?_, fun h => ?_, fun h => ?_, fun q h => ?_, fun h => ?_,
    fun unit form order factor auto datum h => ?_, fun h => ?_, fun h => ?_, fun h => ?_, fun h => ?_⟩
  · exact taken_answeredBy rfl h (measureOpen_checked _ a) (by simp [touchNamed_asm])
      fun ⟨_, _, _, _, _, _, _, hx⟩ => by simp only [handler, hx]; rfl
  · exact taken_answeredBy rfl h (registerAsm_checked _ a fam nl nr mode limit warn) (by simp [touchNamed_asm])
      fun ⟨_, _, _, _, hx⟩ => by simp only [handler, hx]; rfl
  · exact taken_answeredBy rfl h (retireAsm_checked _ a) (by simp [touchNamed_asm])
      fun ⟨_, _, _, hx⟩ => by simp only [handler, hx]; rfl
  · exact taken_answeredBy rfl h (returnFromRegrind_checked _ a) (by simp [touchNamed_asm])
      fun ⟨_, _, _, _, hx⟩ => by simp only [handler, hx]; rfl
  · exact taken_answeredBy rfl h (setLife_checked _ a mode limit warn) (by simp [touchNamed_asm])
      fun ⟨_, _, _, _, _, _, _, hx⟩ => by simp only [handler, hx]; rfl
  · exact taken_answeredBy rfl h (readRecord_checked _ a) (by simp) fun hx => by simp only [handler, hx]; rfl
  · exact taken_answeredBy rfl h (usage_checked _ c p seconds n) (by simp)
      fun ⟨_, _, _, _, _, _, _, hx⟩ => by simp only [handler, hx]; rfl
  · exact taken_answeredBy rfl h (writeCell_checked _ c n unit form order factor auto datum) (by simp)
      fun ⟨_, _, _, hx⟩ => by simp only [handler, hx]; rfl
  · exact taken_answeredBy rfl h (readCell_checked _ c) (by simp) fun hx => by simp only [handler, hx]; rfl
  · exact taken_answeredBy rfl h (requestTool_checked _ c p f) (by simp)
      fun ⟨_, _, hx⟩ => by simp only [handler, hx]; rfl
  · exact taken_answeredBy rfl h (withdrawRequest_checked _ c p) (by simp)
      fun ⟨_, _, _, hx⟩ => by simp only [handler, hx]; rfl
  · refine ⟨_, _, exec_taken rfl h, answer_buf _ (handler_port_keep h), fun l hl => ?_⟩
    have hchecked := handoff_checked (s.touchNamed .M (.handoff c p n)) c p n
    have hu : [(decide (15 < c ∨ 127 < p), .badArgument), (decide (n = 0), .badArgument),
        (decide (((s.touchNamed .M (.handoff c p n)).profile c).size = 0), .wrongState)] = l := by simp [hl]
    rw [hu] at hchecked
    refine ⟨fun st hst => ?_, fun hnone => ?_⟩
    · have hx := hchecked.1 st hst
      simp only [handler, hx]
      rfl
    · obtain ⟨-, -, -, j, -, hx⟩ := hchecked.2 hnone
      exact ⟨rfl, handoff_status hx⟩

end Sys2Proof.Machine
end

section
/-! PROOFS. What a refused request leaves (O10), and the reads (O8, O9). -/

namespace Sys2Proof.Machine

open Sys2Proof

/-! ### Refusals (O10) -/

/-- A request that is neither accepted nor to be repeated leaves the state of its block. -/
theorem Checked.state_of_refused {s : State} {l : List (Bool × Status)} {x : State × Answer} {P : Prop}
    (h : Checked s l x P) (hok : P → x.2.status = .ok) (hne : x.2.status ≠ .ok) : x.1 = s := by
  rcases h.cases with ⟨st, hx⟩ | hP
  · rw [hx]
  · exact absurd (hok hP) hne

theorem handoff_refused (c st n : Nat) (s : State) (hok : (handoff c st n s).2.status ≠ .ok)
    (hretry : (handoff c st n s).2.status ≠ .retry) : (handoff c st n s).1 = s := by
  have hfresh : ∀ i, (s.serveFresh i).2.status ≠ .ok → (s.serveFresh i).2.status ≠ .retry → (s.serveFresh i).1 = s := by
    intro i
    unfold State.serveFresh
    dsimp only
    repeat' split
    all_goals simp [State.retry, accept]
  rcases (handoff_checked s c st n).cases with ⟨x, h⟩ | ⟨-, -, -, i, -, h⟩
  · rw [h]
  · revert hok hretry
    rw [h]
    split
    · split
      · intro hok hretry
        rcases serveSlot_status s _ _ _ with h' | h'
        · exact absurd h' hok
        · exact absurd h' hretry
      · exact fun _ _ => rfl
      · exact hfresh i
    · exact hfresh i

theorem restart_refused (s : State) : (restart s).2.status ≠ .ok → (restart s).1 = s ∧ (restart s).2.keep = false := by
  unfold restart
  split
  · exact fun _ => ⟨rfl, rfl⟩
  · split
    · exact fun _ => ⟨rfl, rfl⟩
    · exact fun h => absurd rfl h

/-- A refused request has no effect at its block (00_scope; R92). -/
theorem handler_refused (i : Instr) (s : State) (hok : (handler i s).2.status ≠ .ok)
    (hretry : (handler i s).2.status ≠ .retry) : (handler i s).1 = s := by
  cases i
  case measureOpen a =>
    exact (measureOpen_checked s a).state_of_refused (fun ⟨_, _, _, _, _, _, _, hx⟩ => by rw [hx]; rfl) hok
  case reading z x => exact (addReading_checked s z x).state_of_refused (fun ⟨_, _, _, _, _, hx⟩ => by rw [hx]; rfl) hok
  case sessionClose n =>
    exact (closeSession_checked s n).state_of_refused
      (fun ⟨_, _, _, _, hx⟩ => by rw [hx]; exact closeSession_status _ _ _) hok
  case sessionAbandon => exact (abandonSession_checked s).state_of_refused (fun ⟨_, _, hx⟩ => by rw [hx]; rfl) hok
  case zeroOpen k => exact (zeroOpen_checked s k).state_of_refused (fun ⟨_, _, _, hx⟩ => by rw [hx]; rfl) hok
  case spanOpen k lm dm => exact (spanOpen_checked s k lm dm).state_of_refused (fun ⟨_, _, _, hx⟩ => by rw [hx]; rfl) hok
  case selectReference k => exact (selectReference_checked s k).state_of_refused (fun ⟨_, _, _, hx⟩ => by rw [hx]; rfl) hok
  case certifyReference k =>
    exact (certifyReference_checked s k).state_of_refused (fun ⟨_, _, _, hx⟩ => by rw [hx]; rfl) hok
  case unlockReference k => exact (unlockReference_checked s k).state_of_refused (fun ⟨_, _, _, hx⟩ => by rw [hx]; rfl) hok
  case writeCurve l => exact (writeCurve_checked s l).state_of_refused (fun ⟨_, _, _, _, hx⟩ => by rw [hx]; rfl) hok
  case register a f nl nr m l w =>
    exact (registerAsm_checked s a f nl nr m l w).state_of_refused (fun ⟨_, _, _, _, hx⟩ => by rw [hx]; rfl) hok
  case retire a => exact (retireAsm_checked s a).state_of_refused (fun ⟨_, _, _, hx⟩ => by rw [hx]; rfl) hok
  case returnFromRegrind a =>
    exact (returnFromRegrind_checked s a).state_of_refused (fun ⟨_, _, _, _, hx⟩ => by rw [hx]; rfl) hok
  case stock a d =>
    exact (stockAsm_checked s a d).state_of_refused (fun ⟨_, _, _, _, _, _, _, _, hx⟩ => by rw [hx]; rfl) hok
  case withdraw a =>
    obtain ⟨d, hd⟩ := stock_unique s a
    exact (withdrawAsm_checked s a d hd).state_of_refused (fun ⟨_, _, _, _, _, _, _, hx⟩ => by rw [hx]; rfl) hok
  case issue a c p =>
    obtain ⟨d, hd⟩ := stock_unique s a
    exact (issueAsm_checked s a c p d hd).state_of_refused (fun ⟨_, _, _, _, _, _, _, _, _, _, hx⟩ => by rw [hx]; rfl) hok
  case issuePick c p =>
    obtain ⟨a, ha⟩ := sister_unique s c p
    obtain ⟨d, hd⟩ := stock_unique s a
    exact (issuePick_checked s a c p d ha hd).state_of_refused
      (fun ⟨_, _, _, _, _, _, _, _, _, _, _, _, _, hx⟩ => by rw [hx]; rfl) hok
  case returnTool a d k =>
    exact (returnAsm_checked s a d k).state_of_refused (fun ⟨_, _, _, _, _, _, _, _, _, _, hx⟩ => by rw [hx]; rfl) hok
  case cancelDrawer d =>
    refine (cancelDrawer_checked s d).state_of_refused (fun ⟨_, hx⟩ => ?_) hok
    rcases hx with ⟨_, hx⟩ | ⟨_, hx⟩ | ⟨_, hx⟩ <;> rw [hx] <;> rfl
  case clearJam d => exact (clearJam_checked s d).state_of_refused (fun ⟨_, _, hx⟩ => by rw [hx]; rfl) hok
  case clearDriver => exact (clearDriver_checked s).state_of_refused (fun ⟨_, hx⟩ => by rw [hx]; rfl) hok
  case setLife a m l w =>
    exact (setLife_checked s a m l w).state_of_refused (fun ⟨_, _, _, _, _, _, _, hx⟩ => by rw [hx]; rfl) hok
  case writeCell c n u f o dt lf au =>
    exact (writeCell_checked s c n u f o lf au dt).state_of_refused (fun ⟨_, _, _, hx⟩ => by rw [hx]; rfl) hok
  case restart => exact (restart_refused s hok).1
  case lock p a =>
    rcases lockRecord_cases s p a with ⟨st, b, h, -, -⟩ | ⟨-, -, h⟩
    · simp only [handler, h]
    · exact absurd (by simp only [handler, h]; rfl) hok
  case unlock p a => exact (unlockRecord_checked s p a).state_of_refused (fun ⟨_, _, _, hx⟩ => by rw [hx]; rfl) hok
  case handoff c st n => exact handoff_refused c st n s hok hretry
  case usage c p sec n =>
    exact (usage_checked s c p sec n).state_of_refused (fun ⟨_, _, _, _, _, _, _, hx⟩ => by rw [hx]; rfl) hok
  case requestTool c p f => exact (requestTool_checked s c p f).state_of_refused (fun ⟨_, _, hx⟩ => by rw [hx]; rfl) hok
  case withdrawRequest c p =>
    exact (withdrawRequest_checked s c p).state_of_refused (fun ⟨_, _, _, hx⟩ => by rw [hx]; rfl) hok
  case readNotice p =>
    refine absurd ?_ hok
    simp only [handler, readNotice]
    split <;> rfl
  case setParameter p n v => exact (setParameter_checked s p n v).state_of_refused (fun ⟨_, hx⟩ => by rw [hx]; rfl) hok
  all_goals simp [handler]

/-- Settles O10: a refused request leaves its block's state, so only the restarted idle timer and the reply are left. -/
theorem refusedRequestsHaveNoEffect : Obligations.RefusedRequestsHaveNoEffect := by
  unfold Obligations.RefusedRequestsHaveNoEffect
  intro i p tag s hi h
  refine ⟨_, _, exec_taken hi h, answer_buf _ (handler_port_keep h), rfl, fun hok hretry => ?_⟩
  have hstate : (handler i (s.touchNamed p i)).1 = s.touchNamed p i := handler_refused i _ hok hretry
  have hkeep : (handler i (s.touchNamed p i)).2.keep = false := by
    by_cases hr : i = .restart
    · subst hr
      exact (restart_refused _ hok).2
    · exact handler_answer_keep _ i hr
  have hport : (s.touchNamed p i).port p = s.port p := by simp
  rw [hstate, answer_replied tag _ (by rw [hport]; exact taken_keep h) hkeep]
  refine ⟨?_, fun a _ => ?_⟩
  · rw [touchNamed_eq]
    rfl
  · exact touchNamed_asm s p i a

/-! ### Reads (O8, O9) -/

/-- A request of no record, whose block answers `x` and leaves the port's buffers. -/
theorem exec_replied {s t : State} {i : Instr} {p : Port} {tag : Byte} {c : Bool} {b : Body} (hi : requestPort i = some p)
    (h : s.taken p i = some tag) (hnone : namedAsm s.ocu i = none) (hx : handler i s = (t, acceptClamped c b))
    (hport : t.port p = s.port p) : exec i s = .next (t.replied p (okReply tag c b)) := by
  have htouch : s.touchNamed p i = s := touchNamed_none fun a ha => by rw [hnone] at ha; cases ha
  rw [exec_taken hi h, htouch, hx]
  exact congrArg _ (answer_replied tag _ (by rw [hport]; exact taken_keep h) rfl)

/-- Settles O8, by the two cases of the queue. -/
theorem readNoticeTakesTheOldest : Obligations.ReadNoticeTakesTheOldest := by
  unfold Obligations.ReadNoticeTakesTheOldest
  intro p tag s h
  have hkeep := taken_keep h
  have htouch : s.touchNamed p (.readNotice p) = s := touchNamed_none nofun
  refine ⟨fun n l hl => ?_, fun hl => ?_⟩
  · rw [exec_taken rfl h, htouch]
    simp only [handler, readNotice, hl]
    rw [answer_replied tag _ (by simp [State.setPort_port, hkeep]) rfl]
    cases p <;> rfl
  · rw [exec_taken rfl h, htouch]
    simp only [handler, readNotice, hl]
    rw [answer_replied tag _ hkeep rfl]
    rfl

/-- Settles O9: each read answers from the state and leaves it. -/
theorem readsChangeNothing : Obligations.ReadsChangeNothing := by
  unfold Obligations.ReadsChangeNothing
  intro tag s
  refine ⟨fun k hk h => ?_, fun h => ?_, fun d hd h => ?_, fun h => ?_, fun c hc h => ?_, fun p h => ?_, fun p a ha h => ?_⟩
  · exact exec_replied rfl h rfl ((readReference_checked s k).2 (by simp [firstOf, hk])) rfl
  · exact exec_replied rfl h rfl rfl rfl
  · exact exec_replied rfl h rfl ((readDrawer_checked s d).2 (by simp [firstOf, hd])) rfl
  · exact exec_replied rfl h rfl rfl rfl
  · exact exec_replied rfl h rfl ((readCell_checked s c).2 (by simp [firstOf, hc])) rfl
  · exact exec_replied rfl h rfl rfl rfl
  · rw [exec_taken rfl h]
    have hx := (readRecord_checked (s.touchNamed p (.readRecord p a)) a).2 (by simp [firstOf, ha])
    simp only [handler, hx]
    rw [answer_replied tag _ (by simp [taken_keep h]) rfl]
    have hnamed : s.touchNamed p (.readRecord p a) = s.touch p a := rfl
    rw [hnamed, touch_asm p a (by omega)]
    rfl

end Sys2Proof.Machine
end

section
/-! PROOFS. What a dirtying does to the Record Store, in the words of `Dirties`: one key, and one key behind others. -/

namespace Sys2Proof.Machine

open Sys2Proof

variable {s t u : State} {k : Nat} {l : List Nat}

/-! ### One dirtying (R178, R179) -/

/-- A dirtying while a commit is in flight: a key that waits stays, the key in flight is marked, another joins the tail. -/
theorem dirty_rst_of_flight {c : Commit} (h : t.rst.flight = some c) : (t.dirty k).rst = { t.rst with
    queue := t.rst.queue ++ [k].filter fun j => decide (j ∉ t.rst.queue ∧ j ≠ c.key)
    flight := some { c with redirty := c.redirty || decide (c.key = k ∧ c.key ∉ t.rst.queue) } } := by
  unfold State.dirty State.enqueueKey
  by_cases hk : k ∈ t.rst.queue
  · have hne : ¬(c.key = k ∧ c.key ∉ t.rst.queue) := fun ⟨e, hn⟩ => hn (e ▸ hk)
    rw [if_pos hk]
    unfold State.kickEngine
    have hc : { c with redirty := c.redirty || false } = c := by simp
    simp only [h, hne, decide_false, hc]
    simp [hk, ← h]
  · rw [if_neg hk, h]
    dsimp only
    by_cases hc : c.key = k
    · subst hc
      simp [State.kickEngine, State.setFlight, hk]
    · simp [State.kickEngine, State.setCommitQueue, h, hk, hc, Ne.symm hc]

/-- A dirtying of an idle engine: the engine takes the head of the queue that the key has joined. -/
theorem dirty_rst_of_idle (h : t.rst.flight = none) : ∃ j q, (t.dirty k).rst = ⟨t.rst.pages, q, some ⟨j, t.viewOf j, false⟩⟩ ∧
    j :: q = t.rst.queue ++ [k].filter fun j => decide (j ∉ t.rst.queue) := by
  have hkick : ∀ v : State, v.rst.flight = none → v.rst.queue ≠ [] → ∃ j q,
      v.kickEngine.rst = ⟨v.rst.pages, q, some ⟨j, v.viewOf j, false⟩⟩ ∧ j :: q = v.rst.queue := by
    intro v hf hq
    obtain ⟨j, q, hjq⟩ := List.exists_cons_of_ne_nil hq
    exact ⟨j, q, by simp [State.kickEngine, hf, hjq, State.setCommitQueue, State.setFlight], hjq.symm⟩
  unfold State.dirty State.enqueueKey
  by_cases hk : k ∈ t.rst.queue
  · rw [if_pos hk]
    obtain ⟨j, q, hr, hjq⟩ := hkick t h (List.ne_nil_of_mem hk)
    exact ⟨j, q, hr, by simp [hjq, hk]⟩
  · rw [if_neg hk, h]
    dsimp only
    obtain ⟨j, q, hr, hjq⟩ := hkick (t.setCommitQueue (t.rst.queue ++ [k])) h (by simp [State.setCommitQueue])
    exact ⟨j, q, hr, by rw [hjq]; simp [State.setCommitQueue, hk]⟩

theorem willWrite_dirty {j : Nat} (h : t.willWrite j) : (t.dirty k).willWrite j := by
  have hview : (t.dirty k).viewOf j = t.viewOf j := viewOf_of_rst (dirty_eq t k) j
  unfold State.willWrite at h ⊢
  rw [hview]
  cases hf : t.rst.flight with
  | some c =>
    rw [dirty_rst_of_flight hf]
    rcases h with hq | ⟨f, hfl, hkey, hw⟩
    · exact .inl (List.mem_append_left _ hq)
    · rw [hf] at hfl
      cases hfl
      refine .inr ⟨_, rfl, hkey, hw.imp (fun hr => ?_) id⟩
      simp [hr]
  | none =>
    obtain ⟨i, q, hr, hiq⟩ := dirty_rst_of_idle (k := k) hf
    rw [hr]
    rcases h with hq | ⟨f, hfl, -⟩
    · have hmem : j ∈ i :: q := by rw [hiq]; exact List.mem_append_left _ hq
      rcases List.mem_cons.mp hmem with rfl | hq
      · exact .inr ⟨_, rfl, rfl, .inr rfl⟩
      · exact .inl hq
    · rw [hf] at hfl
      cases hfl

/-! ### Lists of keys -/

/-- What `Dirties` says of a state reads its Record Store and the views of the keys alone. -/
theorem Dirties.congr (h : Dirties s t l) (hrst : u.rst = t.rst) (hview : ∀ k ∈ l, u.viewOf k = t.viewOf k) :
    Dirties s u l := by
  obtain ⟨hpages, hwrite, hqueued, hnil, hflight, hidle⟩ := h
  refine ⟨by rw [hrst, hpages], fun k hk => ?_, fun k hk => ?_, fun hl => by rw [hrst, hnil hl], fun c hc => ?_,
    fun k q hl hf hq => ?_⟩
  · have hw := hwrite k hk
    unfold State.willWrite at hw ⊢
    rwa [hrst, hview k hk]
  · rw [← hqueued k hk]
    unfold State.queued
    rw [hrst]
  · rw [hrst]
    exact hflight c hc
  · rw [hrst, hview k (by simp [hl])]
    exact hidle k q hl hf hq

theorem dirties_nil (h : t.rst = s.rst) : Dirties s t [] :=
  ⟨by rw [h], fun _ hk => (nomatch hk), fun k _ => by unfold State.queued; rw [h], fun _ => h,
    fun c hc => by simp [h, hc], fun _ _ hl => nomatch hl⟩

/-- One more key dirtied, behind the others. -/
theorem Dirties.snoc (h : Dirties s t l) (hk : k ∉ l) : Dirties s (t.dirty k) (l ++ [k]) :=
  h.append (dirty_dirties t k) (by simpa using hk) (fun j _ => viewOf_of_rst (dirty_eq t k) j) fun _ _ => willWrite_dirty

/-- A key dirtied in a state whose Record Store is that of `s`, and what follows leaves the store and the key's view. -/
theorem dirties_one (hu : u.rst = s.rst) (ht : t.rst = (u.dirty k).rst) (hview : t.viewOf k = u.viewOf k) : Dirties s t [k] :=
  ((dirties_nil hu).snoc (k := k) (by simp)).congr ht fun j hj => by
    rw [List.nil_append, List.mem_singleton] at hj
    rw [hj, hview, viewOf_of_rst (dirty_eq u k)]

/-- Views are those of the records: parts that a view does not read leave it. -/
theorem viewOf_of_records (hatb : ∀ a, (t.asm a).view = (s.asm a).view) (hdrawer : ∀ d, (t.drawer d).stock = (s.drawer d).stock ∧
    (t.drawer d).mismatch = (s.drawer d).mismatch) (hprofile : ∀ c, t.profile c = s.profile c)
    (href : ∀ n, t.refSet n = s.refSet n) (hcurve : t.rfs.curve = s.rfs.curve ∧ t.rfs.active = s.rfs.active)
    (hparams : t.params = s.params) (k : Nat) : t.viewOf k = s.viewOf k := by
  unfold State.viewOf
  rw [hatb, (hdrawer _).1, (hdrawer _).2, hprofile, href, hcurve.1, hcurve.2, hparams]

@[simp] theorem dirty_viewOf (s : State) (k j : Nat) : (s.dirty k).viewOf j = s.viewOf j := viewOf_of_rst (dirty_eq s k) j

@[simp] theorem notify_viewOf (s : State) (p : Port) (n : Notice) (j : Nat) : (s.notify p n).viewOf j = s.viewOf j :=
  viewOf_of_records (by simp) (by simp) (by simp) (by simp) (by simp) (by simp) j

@[simp] theorem replied_viewOf (s : State) (p : Port) (r : Reply) (j : Nat) : (s.replied p r).viewOf j = s.viewOf j :=
  viewOf_of_records (by simp) (by simp) (by simp) (by simp) (by simp) (by simp) j

@[simp] theorem setOp_viewOf (s : State) (d : Nat) (o : Option Operation) (j : Nat) : (s.setOp d o).viewOf j = s.viewOf j := rfl

@[simp] theorem setPicks_viewOf (s : State) (l : List Pick) (j : Nat) : (s.setPicks l).viewOf j = s.viewOf j := rfl

@[simp] theorem setSession_viewOf (s : State) (x : Option Session) (j : Nat) : (s.setSession x).viewOf j = s.viewOf j := rfl

@[simp] theorem changePocket_viewOf (s : State) (c p : Nat) (e : Pocket) (j : Nat) :
    (s.changePocket c p e).viewOf j = s.viewOf j :=
  viewOf_of_records (by simp) (by simp) (by simp) (by simp) (by simp) (by simp) j

@[simp] theorem finishOp_viewOf (s : State) (d : Nat) (o : Operation) (x : OpOutcome) (y z : Option Bool) (j : Nat) :
    (s.finishOp d o x y z).viewOf j = s.viewOf j :=
  viewOf_of_records (by simp) (by simp) (by simp) (by simp) (by simp) (by simp) j

end Sys2Proof.Machine
end

section
/-! PROOFS. Accepted requests in one equation, and SET_PARAMETER (O14). -/

namespace Sys2Proof.Machine

open Sys2Proof

variable {s t : State} {p : Port} {i : Instr} {tag : Byte}

/-! ### Accepted and refused requests -/

/-- A taken request that its block accepts: the block's effect, and OK with its body in the reply buffer. -/
theorem exec_accepted {c : Bool} {b : Body} (hi : requestPort i = some p) (h : s.taken p i = some tag)
    (hx : handler i (s.touchNamed p i) = (t, acceptClamped c b)) : exec i s = .next (t.replied p (okReply tag c b)) := by
  have hkeep := handler_port_keep h
  rw [hx] at hkeep
  rw [exec_taken hi h, hx]
  exact congrArg _ (answer_replied tag _ hkeep rfl)

theorem touchNamed_of_none (h : namedAsm s.ocu i = none) : s.touchNamed p i = s :=
  touchNamed_none fun a ha => by rw [h] at ha; cases ha

/-- A taken request of no record that its block refuses changes the reply buffer alone. -/
theorem exec_refused {st : Status} (hi : requestPort i = some p) (h : s.taken p i = some tag) (hn : namedAsm s.ocu i = none)
    (hx : handler i s = (s, refuse st)) : exec i s = .next (s.replied p ⟨st, false, tag, .empty⟩) := by
  rw [exec_taken hi h, touchNamed_of_none hn, hx]
  exact congrArg _ (answer_replied tag _ (taken_keep h) rfl)

theorem replied_buf (s : State) (p : Port) (r : Reply) : ((s.replied p r).port p).buf = .held r := by
  simp [State.replied, State.setPort_port]

theorem replied_congr (h : t.ports = s.ports) (p : Port) (r : Reply) : (t.replied p r).ports = (s.replied p r).ports := by
  simp [h]

/-! ### SET_PARAMETER (R196) -/

theorem put_get (x : Params) (n : Nat) : x.put n (x.get n) = x := by
  match n with
  | 0 | 1 | 2 | 3 | 4 | 5 | 6 | 7 | 8 => rfl
  | _ + 9 => rfl

theorem paramOwner_none {n : Nat} : paramOwner n = none ↔ 9 < n := by
  unfold paramOwner
  split
  · simp; omega
  · split
    · simp; omega
    · simp; omega

/-- Settles O14, by the one equation of an accepted SET_PARAMETER; a parameter up to 6 acts on no timer. -/
theorem setParameterStoresTheClampedValue : Obligations.SetParameterStoresTheClampedValue := by
  unfold Obligations.SetParameterStoresTheClampedValue
  intro p n v tag s h
  refine ⟨fun hn => ?_, fun hn => ?_, fun hn => ?_⟩
  · exact exec_refused rfl h rfl ((setParameter_checked s p n v).1 _ (by simp [firstOf, paramOwner_none.mpr hn]))
  · have howner : paramOwner n ≠ none ∧ paramOwner n ≠ some p := by
      unfold paramOwner
      rcases hn with ⟨hn, hp⟩ | ⟨hn, hn', hp⟩
      · simp [hn, hp.symm]
      · simp [show ¬n ≤ 1 by omega, hn', hp.symm]
    exact exec_refused rfl h rfl ((setParameter_checked s p n v).1 _ (by simp [firstOf, howner]))
  · have howner : paramOwner n = some p := by
      unfold paramOwner
      rcases hn with ⟨hn, rfl⟩ | ⟨hn, hn', rfl⟩
      · simp [hn]
      · simp [show ¬n ≤ 1 by omega, hn']
    obtain ⟨-, hx⟩ := (setParameter_checked s p n v).2 (by simp [firstOf, howner])
    refine ⟨_, exec_accepted rfl h (by rw [touchNamed_of_none rfl]; exact hx), ?_, replied_buf _ _ _, fun heq => ?_,
      fun hne => ?_, fun hne hn6 => ?_⟩
    · split
      · next heq => simp [← heq, put_get]
      · simp [State.setParams]
    · rw [if_pos heq]
    · rw [if_neg hne]
      have hw := (dirty_dirties ((s.setParams (s.params.put n (paramStored n v))).actOnLimit n) paramsKey).2.1 paramsKey (by simp)
      unfold State.willWrite at hw ⊢
      simpa using hw
    · have hact : (s.setParams (s.params.put n (paramStored n v))).actOnLimit n =
          s.setParams (s.params.put n (paramStored n v)) := by
        unfold State.actOnLimit
        rw [if_neg (by omega), if_neg (by omega), if_neg (by omega)]
      rw [if_neg hne, hact]
      exact ⟨dirties_one (u := s.setParams (s.params.put n (paramStored n v))) rfl (by simp) (by simp), by
        refine eq_of_parts ?_ ?_ ?_ ?_ ?_ ?_ ?_ ?_ ?_ ?_ ?_ ?_ ?_ <;> simp [State.setParams]⟩

end Sys2Proof.Machine
end

section
/-! PROOFS. The end of a session, said once: SESSION_DONE, the slot empty, and a staged curve taking effect. -/

namespace Sys2Proof.Machine

open Sys2Proof

variable {s t w : State}

/-! ### The end of a session (R33, R63) -/

/-- The end of a session in which no curve is staged. -/
theorem finishSession_of_none (d : SessionDone) (h : w.rfs.staged = none) :
    w.finishSession d = (w.notify .P (.sessionDone d)).setSession none := by
  have hstaged : ((w.notify .P (.sessionDone d)).setSession none).rfs.staged = none := by simpa [State.setSession] using h
  unfold State.finishSession State.applyStagedCurve
  rw [hstaged]

/-- The state in which a staged curve has become the working curve, SESSION_DONE is placed and the slot is empty. -/
def State.curveTaken (w : State) (d : SessionDone) (c : Curve) : State :=
  (((w.notify .P (.sessionDone d)).setSession none).setCurve c).setStagedCurve none

/-- The end of a session in which a curve is staged. -/
theorem finishSession_of_some (d : SessionDone) {c : Curve} (h : w.rfs.staged = some c) :
    w.finishSession d = ((w.curveTaken d c).dirty curveKey).notify .P (.curveApplied c) := by
  have hstaged : ((w.notify .P (.sessionDone d)).setSession none).rfs.staged = some c := by simpa [State.setSession] using h
  unfold State.finishSession State.applyStagedCurve
  rw [hstaged]
  rfl

/-- The notices of the end of a session. -/
def endNotices (r : RefStore) (d : SessionDone) : List (Port × Notice) :=
  (.P, .sessionDone d) :: match r.staged with
    | some c => [(.P, .curveApplied c)]
    | none => []

theorem finishSession_ports (w : State) (d : SessionDone) :
    (w.finishSession d).ports = w.ports.placeAll (endNotices w.rfs d) := by
  unfold endNotices
  cases h : w.rfs.staged with
  | none =>
    rw [finishSession_of_none d h]
    simp [State.setSession]
  | some c =>
    rw [finishSession_of_some d h]
    simp [State.curveTaken, State.setSession, State.setCurve, State.setStagedCurve]

theorem finishSession_rfs_of_none (d : SessionDone) (h : w.rfs.staged = none) : (w.finishSession d).rfs = w.rfs := by
  rw [finishSession_of_none d h]
  simp [State.setSession]

theorem finishSession_rfs_of_some (d : SessionDone) {c : Curve} (h : w.rfs.staged = some c) :
    (w.finishSession d).rfs = { w.rfs with curve := c, staged := none } := by
  rw [finishSession_of_some d h]
  simp [State.curveTaken, State.setSession, State.setCurve, State.setStagedCurve]

/-- A new working curve leaves every view but its own. -/
theorem curveTaken_viewOf (w : State) (d : SessionDone) (c : Curve) {k : Nat} (hk : k ≠ curveKey) :
    (w.curveTaken d c).viewOf k = w.viewOf k := by
  have hne : k ≠ 596 := hk
  have hview : ∀ v : State, ((v.setCurve c).setStagedCurve none).viewOf k = v.viewOf k := fun v => by
    unfold State.viewOf
    simp [State.setCurve, State.setStagedCurve, State.refSet, State.asm, State.drawer, State.profile, State.cell, hne]
  rw [State.curveTaken, hview, setSession_viewOf, notify_viewOf]

/-- A statement `D` of what was dirtied, the keys `l` and then those it names: it reads the Record Store and the views of these
keys, and one key more can be dirtied behind `l`. -/
structure DirtyForm (l : List Nat) (D : State → List Nat → Prop) : Prop where
  congr : ∀ {x y : State} {m : List Nat}, D x m → y.rst = x.rst → (∀ k ∈ l ++ m, y.viewOf k = x.viewOf k) → D y m
  snoc : ∀ {x : State} {k : Nat}, D x [] → k ∉ l → D (x.dirty k) [k]

theorem dirtyForm_dirties (s : State) (l : List Nat) : DirtyForm l fun x m => Dirties s x (l ++ m) where
  congr h hrst hview := Dirties.congr h hrst hview
  snoc {x k} h hk := by
    rw [List.append_nil] at h
    exact h.snoc hk

/-- What the end of a session dirties: nothing more, or the curve record behind what was dirtied before (R63). -/
theorem finishSession_dirties {l : List Nat} {D : State → List Nat → Prop} (hD : DirtyForm l D) (d : SessionDone)
    (hk : curveKey ∉ l) (h : D w []) :
    (w.rfs.staged = none → D (w.finishSession d) []) ∧
      ∀ c, w.rfs.staged = some c → D (w.finishSession d) [curveKey] := by
  refine ⟨fun hn => ?_, fun c hc => ?_⟩
  · rw [finishSession_of_none d hn]
    exact hD.congr h (by simp [State.setSession]) fun k _ => by simp
  · rw [finishSession_of_some d hc]
    have htaken : D (w.curveTaken d c) [] := hD.congr h (by simp [State.curveTaken, State.setSession, State.setCurve,
      State.setStagedCurve]) fun k hkl => curveTaken_viewOf w d c fun e => hk (e ▸ by simpa using hkl)
    exact hD.congr (hD.snoc htaken hk) (by simp) fun k _ => by simp

/-- The reply behind the notices of an event. -/
def Ports.replies (x : Ports) : Option Reply → Ports
  | some r => x.reply .P r
  | none => x

/-- The end of a session, for an event that dirtied the keys `l` and placed the notices `before`. -/
theorem sessionEnds_of_form {r : RefStore} {l : List Nat} {D : State → List Nat → Prop} (hD : DirtyForm l D)
    {before : List (Port × Notice)} {d : SessionDone} {rep : Option Reply} (hk : curveKey ∉ l)
    (hports : w.ports = s.ports.placeAll before) (hrfs : w.rfs = r) (hdirty : D w []) (hocu : t.ocu = none)
    (hports' : t.ports = (w.finishSession d).ports.replies rep) (hrfs' : t.rfs = (w.finishSession d).rfs)
    (hrst : t.rst = (w.finishSession d).rst) (hview : ∀ k, t.viewOf k = (w.finishSession d).viewOf k) :
    SessionEnds s t r (D t) before d rep := by
  obtain ⟨hnone, hsome⟩ := finishSession_dirties hD d hk hdirty
  subst hrfs
  refine ⟨hocu, fun u hu => ⟨?_, fun hn => ⟨?_, ?_⟩, fun c hc => ⟨?_, ?_⟩⟩⟩
  · have hplaced : u.ports = (s.ports.placeAll before).placeAll (endNotices w.rfs d) := by
      rw [hu, placed_ports_eq, placeAll_append]
      rfl
    rw [hports', finishSession_ports, hports, ← hplaced]
    cases rep with
    | none => rfl
    | some x => exact (replied_ports_eq u .P x).symm
  · rw [hrfs', finishSession_rfs_of_none d hn]
  · exact hD.congr (hnone hn) hrst fun k _ => hview k
  · rw [hrfs', finishSession_rfs_of_some d hc]
  · exact hD.congr (hsome c hc) hrst fun k _ => hview k

theorem sessionEnds_of_finish {r : RefStore} {l : List Nat} {before : List (Port × Notice)} {d : SessionDone}
    {rep : Option Reply} (hk : curveKey ∉ l) (hports : w.ports = s.ports.placeAll before) (hrfs : w.rfs = r)
    (hdirty : Dirties s w l) (hocu : t.ocu = none) (hports' : t.ports = (w.finishSession d).ports.replies rep)
    (hrfs' : t.rfs = (w.finishSession d).rfs) (hrst : t.rst = (w.finishSession d).rst)
    (hview : ∀ k, t.viewOf k = (w.finishSession d).viewOf k) :
    SessionEnds s t r (fun m => Dirties s t (l ++ m)) before d rep :=
  sessionEnds_of_form (dirtyForm_dirties s l) hk hports hrfs (by rwa [List.append_nil]) hocu hports' hrfs' hrst hview

/-- The end of a session in a request of port P, whose reply is held behind its notices. -/
theorem sessionEnds_replied_form {l : List Nat} {D : State → List Nat → Prop} (hD : DirtyForm l D)
    {before : List (Port × Notice)} {r : RefStore} (d : SessionDone) (x : Reply) (hk : curveKey ∉ l)
    (hports : w.ports = s.ports.placeAll before) (hrfs : w.rfs = r) (hdirty : D w []) :
    SessionEnds s ((w.finishSession d).replied .P x) r (D ((w.finishSession d).replied .P x)) before d (some x) :=
  sessionEnds_of_form hD hk hports hrfs hdirty (by simp) (replied_ports_eq _ _ _) (by simp only [replied_frame])
    (by simp only [replied_frame]) fun _ => replied_viewOf _ _ _ _

theorem sessionEnds_replied {l : List Nat} {before : List (Port × Notice)} {r : RefStore} (d : SessionDone) (x : Reply)
    (hk : curveKey ∉ l) (hports : w.ports = s.ports.placeAll before) (hrfs : w.rfs = r) (hdirty : Dirties s w l) :
    SessionEnds s ((w.finishSession d).replied .P x) r (fun m => Dirties s ((w.finishSession d).replied .P x) (l ++ m)) before d
      (some x) :=
  sessionEnds_replied_form (dirtyForm_dirties s l) d x hk hports hrfs (by rwa [List.append_nil])

end Sys2Proof.Machine
end

section
/-! PROOFS. LOCK_EXPIRY, SESSION_ABANDON and the close of a MEASURE session (O18, O23, O21). -/

namespace Sys2Proof.Machine

open Sys2Proof

variable {s t : State}

/-! ### Records of a session -/

/-- A record that has no pocket and gets none signals nothing (R20). -/
theorem changeAsm_unpocketed {a : Nat} {r : AsmRecord} (h : (s.asm a).state.free) (hr : r.state.free) :
    s.changeAsm a r = s.setAsm a r := by
  obtain ⟨hi, hb, he⟩ := h
  refine changeAsm_quiet a r (pocketOf_none hi hb he) ?_
  have hasm : ((s.setAsm a r).asm a).state.free := by
    rw [State.setAsm_asm]
    split
    · exact hr
    · exact ⟨hi, hb, he⟩
  obtain ⟨hi', hb', he'⟩ := hasm
  exact pocketOf_none hi' hb' he'

theorem restorePrior_free (r : AsmRecord) (h : r.state.free) : r.restorePrior.state.free := by
  unfold AsmRecord.restorePrior
  split
  · next p _ => cases p <;> exact ⟨nofun, nofun, nofun⟩
  · exact h

theorem closed_free (r : AsmRecord) (k temp n : Nat) (m : Measured) : (closedRecord r k temp n m).state.free := by
  cases m <;> exact ⟨nofun, nofun, nofun⟩

theorem restorePrior_some {r : AsmRecord} {x : PriorState} (h : r.prior = some x) :
    r.restorePrior = { r with state := x.toState, prior := none } := by
  unfold AsmRecord.restorePrior
  rw [h]

@[simp] theorem setAsm_ports (s : State) (a : Nat) (r : AsmRecord) : (s.setAsm a r).ports = s.ports := rfl

theorem setAsm_notify (s : State) (a : Nat) (r : AsmRecord) (p : Port) (n : Notice) :
    (s.setAsm a r).notify p n = (s.notify p n).setAsm a r := by
  rw [notify_eq, notify_eq]
  cases p <;> rfl

/-! ### LOCK_EXPIRY (R15, R35) -/

/-- The lock of a record that is not MEASURING expires. -/
theorem expireLock_of_idle {a : Nat} {p : Port} (hp : (s.asm a).holder = some p) (hm : (s.asm a).state ≠ .measuring) :
    s.expireLock a = (s.setAsm a (s.asm a).unlocked).notify p (.lockExpired a) := by
  unfold State.expireLock
  rw [hp]
  dsimp only
  rw [if_neg hm]

/-- The lock of the subject of a session expires: the record is unlocked and in its prior state, and the session ends. -/
theorem expireLock_of_measuring {a : Nat} {p : Port} {x : Session} (ha : a < 512) (hp : (s.asm a).holder = some p)
    (hm : (s.asm a).state = .measuring) (hx : s.ocu = some x) : s.expireLock a =
      (((s.setAsm a (s.asm a).unlocked.restorePrior).notify p (.lockExpired a)).finishSession (endedWithout x .aborted)) := by
  have hstate : (((s.setAsm a (s.asm a).unlocked).notify p (.lockExpired a)).asm a) = (s.asm a).unlocked := by
    simp [State.setAsm_asm, ha]
  have hfree : (s.asm a).unlocked.state.free := by
    show (s.asm a).state.free
    rw [hm]
    exact free_measuring
  unfold State.expireLock
  rw [hp]
  dsimp only
  rw [if_pos hm, hx]
  dsimp only
  rw [changeAsm_unpocketed (by rw [hstate]; exact hfree) (by rw [hstate]; exact restorePrior_free _ hfree), hstate]
  congr 1
  rw [setAsm_notify, setAsm_notify, setAsm_setAsm]

/-- What a lock expiry reports, in the order of its events (R15, R36, R63). -/
theorem expireLock_ports (s : State) {a : Nat} (ha : a < 512) : (s.expireLock a).ports = s.ports.placeAll (expiryNotices s a) := by
  unfold expiryNotices
  cases hp : (s.asm a).holder with
  | none => simp [State.expireLock, hp]
  | some p =>
    by_cases hm : (s.asm a).state = .measuring
    · cases hx : s.ocu with
      | none => simp [State.expireLock, hp, hm, hx]
      | some x =>
        rw [expireLock_of_measuring ha hp hm hx, finishSession_ports]
        have hrfs : ((s.setAsm a (s.asm a).unlocked.restorePrior).notify p (.lockExpired a)).rfs = s.rfs := by simp
        rw [hrfs]
        cases hst : s.rfs.staged <;> simp [hm, endNotices, hst]
    · rw [expireLock_of_idle hp hm]
      cases s.ocu <;> simp [hm]

/-- Settles O18, by the two equations of an expired lock. -/
theorem lockExpiryReleases : Obligations.LockExpiryReleases := by
  unfold Obligations.LockExpiryReleases
  intro a p s hact
  have hexec : exec (.lockExpiry a) s = .next (if s.lockDue a then s.expireLock a else s) := by
    rw [exec_event rfl]
    show Host.Outcome.next (if s.phase.active && s.lockDue a then s.expireLock a else s) = _
    rw [hact, Bool.true_and]
  refine ⟨fun h => ?_, fun hp hlimit => ⟨fun hm => ?_, fun k l r hocu hm hr => ?_⟩⟩
  · have hdue : s.lockDue a = false := by
      unfold State.lockDue
      rcases h with h | h
      · simp [h]
      · simp [h]
    rw [hexec, hdue]
    rfl
  · have hdue : s.lockDue a = true := by simp [State.lockDue, hp, hlimit]
    rw [hexec, hdue, if_pos rfl, expireLock_of_idle hp hm]
    rfl
  · have hdue : s.lockDue a = true := by simp [State.lockDue, hp, hlimit]
    have hrec : (s.asm a).unlocked.restorePrior =
        { s.asm a with state := r.toState, prior := none, holder := none, idle := 0 } :=
      restorePrior_some (r := (s.asm a).unlocked) hr
    refine ⟨_, by rw [hexec, hdue, if_pos rfl, expireLock_of_measuring a.isLt hp hm hocu], fun b hb => ?_, ?_, ?_, ?_⟩
    · simp [State.setAsm_asm, Ne.symm hb]
    · simp [State.setAsm_asm, hrec]
    · exact sessionEnds_of_finish (l := []) (by simp) (by simp) (by simp) (dirties_nil (by simp)) (by simp) rfl rfl rfl
        fun _ => rfl
    · refine eq_of_parts ?_ ?_ ?_ ?_ ?_ ?_ ?_ ?_ ?_ ?_ ?_ ?_ ?_ <;> simp

end Sys2Proof.Machine
end

section
/-! PROOFS. SESSION_ABANDON, the close of a MEASURE session, the openings and READING (O23, O21, O19, O20). -/

namespace Sys2Proof.Machine

open Sys2Proof

variable {s t : State} {p : Port} {i : Instr}

theorem touchNamed_of_some {a : Nat} (h : namedAsm s.ocu i = some a) : s.touchNamed p i = s.touch p a := by
  unfold State.touchNamed
  rw [h]

/-- A record of the session's subject, its lock released, written once (R17). -/
theorem dirty_setAsm (s : State) (a k : Nat) (r : AsmRecord) :
    (s.dirty k).setAsm a r = { s.setAsm a r with rst := (s.dirty k).rst } := by
  rw [dirty_eq]
  rfl

@[simp] theorem setAsm_rst (s : State) (a : Nat) (r : AsmRecord) : (s.setAsm a r).rst = s.rst := rfl

theorem lt_of_measuring {a : Nat} (h : (s.asm a).state = .measuring) : a < 512 := by
  refine Nat.lt_of_not_le fun ha => ?_
  rw [State.asm, tget_beyond _ _ _ ha] at h
  cases h

theorem restorePrior_unlocked_idle (r : AsmRecord) (n : Nat) :
    { r with idle := n }.restorePrior.unlocked = r.restorePrior.unlocked := by
  obtain ⟨st, prior, _⟩ := r
  cases prior <;> rfl

/-! ### SESSION_ABANDON (R34) -/

/-- An abandoned MEASURE session: its subject unlocked and in its prior state. -/
theorem abandonSession_measure {a k : Nat} {l : List (Nat × Nat)} (hx : s.ocu = some ⟨.measure a k, l⟩)
    (hm : (s.asm a).state = .measuring) (ha : a < 512) : (abandonSession s).1 =
      (s.setAsm a (s.asm a).restorePrior.unlocked).finishSession (endedWithout ⟨.measure a k, l⟩ .abandoned) ∧
      (abandonSession s).2 = accept .empty := by
  have hfree : (s.asm a).state.free := by rw [hm]; exact free_measuring
  unfold abandonSession
  rw [hx]
  refine ⟨?_, rfl⟩
  dsimp only [State.returnSubject, State.releaseSubject]
  rw [changeAsm_unpocketed hfree (restorePrior_free _ hfree), State.setAsm_asm, if_pos ⟨rfl, ha⟩, setAsm_setAsm]

/-- An abandoned ZERO or SPAN session leaves records and sets. -/
theorem abandonSession_calibration {x : Session} (hx : s.ocu = some x) (h : ∀ a k, x.kind ≠ .measure a k) :
    abandonSession s = (s.finishSession (endedWithout x .abandoned), accept .empty) := by
  unfold abandonSession
  rw [hx]
  obtain ⟨k, l⟩ := x
  cases k with
  | measure a k => exact absurd rfl (h a k)
  | zero k => rfl
  | span k lm dm => rfl

/-- Settles O23, by the kind of the session. -/
theorem abandonRestoresTheRecord : Obligations.AbandonRestoresTheRecord := by
  unfold Obligations.AbandonRestoresTheRecord
  intro x tag s h hx hmeasuring
  by_cases hk : ∀ a k, x.kind ≠ .measure a k
  · have hnamed : namedAsm s.ocu .sessionAbandon = none := by
      rw [hx]
      obtain ⟨k, l⟩ := x
      cases k with
      | measure a k => exact absurd rfl (hk a k)
      | zero k => rfl
      | span k lm dm => rfl
    refine ⟨_, exec_accepted (i := .sessionAbandon) rfl h (by
      rw [touchNamed_of_none hnamed]
      exact abandonSession_calibration hx hk), ?_, ?_, fun a k r hmk => absurd hmk (hk a k), fun _ => by simp⟩
    · exact sessionEnds_replied (l := []) (before := []) _ _ (by simp) rfl rfl (dirties_nil rfl)
    · refine eq_of_parts ?_ ?_ ?_ ?_ ?_ ?_ ?_ ?_ ?_ ?_ ?_ ?_ ?_ <;> simp
  · push Not at hk
    obtain ⟨a, k, hk⟩ := hk
    obtain ⟨kind, l⟩ := x
    subst hk
    have hm := hmeasuring a k rfl
    have ha := lt_of_measuring hm
    have hnamed : namedAsm s.ocu .sessionAbandon = some a := by rw [hx]; rfl
    obtain ⟨u, hu⟩ : ∃ u, u = s.touch .P a := ⟨_, rfl⟩
    have huasm : u.asm a = { s.asm a with idle := if (s.asm a).holder = some .P then 0 else (s.asm a).idle } := by
      rw [hu, touch_asm _ a ha]
    have hum : (u.asm a).state = .measuring := by rw [huasm]; exact hm
    obtain ⟨hstate, hbody⟩ := abandonSession_measure (s := u) (by rw [hu]; simpa using hx) hum ha
    have hset : u.setAsm a (u.asm a).restorePrior.unlocked = s.setAsm a (s.asm a).restorePrior.unlocked := by
      rw [hu, touch_setAsm, ← hu, huasm]
      congr 1
      exact restorePrior_unlocked_idle (s.asm a) _
    refine ⟨_, exec_accepted (i := .sessionAbandon) rfl h (t := (s.setAsm a (s.asm a).restorePrior.unlocked).finishSession
        (endedWithout ⟨.measure a k, l⟩ .abandoned)) (c := false) (b := .empty) (by
      rw [touchNamed_of_some hnamed, ← hu]
      exact Prod.ext (hset ▸ hstate) hbody), ?_, ?_, fun b j r hb hlt hr => ?_, fun hne => absurd rfl (hne a k)⟩
    · exact sessionEnds_replied (l := []) (before := []) _ _ (by simp) rfl rfl (dirties_nil rfl)
    · refine eq_of_parts ?_ ?_ ?_ ?_ ?_ ?_ ?_ ?_ ?_ ?_ ?_ ?_ ?_ <;> simp
    · cases hb
      refine ⟨fun b hb => by simp [State.setAsm_asm, Ne.symm hb], ?_⟩
      simp [State.setAsm_asm, ha, restorePrior_some hr, AsmRecord.unlocked]

end Sys2Proof.Machine
end

section
/-! PROOFS. The close of a MEASURE session, the openings, READING, and the requests on reference sets (O21, O19, O20, O24). -/

namespace Sys2Proof.Machine

open Sys2Proof

variable {s t : State} {p : Port} {i : Instr}

/-! ### The close of a MEASURE session (R33, R47, R48) -/

theorem heldValue_eq_min (v : Nat) : heldValue v = min v 4194303 := by
  unfold heldValue
  split <;> omega

/-- A closed MEASURE session: the record with the result, unlocked, and dirtied before the session ends. -/
theorem closeMeasure_eq {a k temp : Nat} {x : Session} {j : Nat} (hx : x.kind = .measure a j)
    (hm : (s.asm a).state = .measuring) (ha : a < 512) : closeMeasure s x a k temp =
      ((((s.setAsm a (closedRecord (s.asm a) k temp x.readings.length (s.measureResult x a k temp))).dirty a).setAsm a
        (closedRecord (s.asm a) k temp x.readings.length (s.measureResult x a k temp)).unlocked).finishSession
          (measuredDone x temp (s.measureResult x a k temp)),
        accept (.sessionDone (measuredDone x temp (s.measureResult x a k temp)))) := by
  have hfree : (s.asm a).state.free := by rw [hm]; exact free_measuring
  unfold closeMeasure
  dsimp only
  rw [changeAsm_unpocketed hfree (closed_free _ _ _ _ _), State.releaseSubject, hx]
  dsimp only
  have hasm : ((s.setAsm a (closedRecord (s.asm a) k temp x.readings.length (s.measureResult x a k temp))).dirty a).asm a =
      closedRecord (s.asm a) k temp x.readings.length (s.measureResult x a k temp) := by simp [State.setAsm_asm, ha]
  rw [hasm]

/-- The record that a MEASURE close writes, unlocked. -/
theorem closedRecord_unlocked_idle (r : AsmRecord) (n k temp total : Nat) (m : Measured) :
    (closedRecord { r with idle := n } k temp total m).unlocked = (closedRecord r k temp total m).unlocked := by
  cases m <;> rfl

/-- Settles O21, by the one equation of the close. -/
theorem measureCloseWritesTheResult : Obligations.MeasureCloseWritesTheResult := by
  unfold Obligations.MeasureCloseWritesTheResult
  intro a k l temp m tag s h ha htemp hocu hm hres
  obtain ⟨u, hu⟩ : ∃ u, u = s.touch .P a := ⟨_, rfl⟩
  have hnamed : namedAsm s.ocu (.sessionClose temp) = some a := by rw [hocu]; rfl
  have huasm : u.asm a = { s.asm a with idle := if (s.asm a).holder = some .P then 0 else (s.asm a).idle } := by
    rw [hu, touch_asm _ a ha]
  have huocu : u.ocu = some ⟨.measure a k, l⟩ := by rw [hu]; simpa using hocu
  have hum : (u.asm a).state = .measuring := by rw [huasm]; exact hm
  have hmu : u.measureResult ⟨.measure a k, l⟩ a k temp = m := by
    rw [hres, State.measureResult, huasm, hu]
    simp
  have hclose := closeMeasure_eq (s := u) (k := k) (temp := temp) (x := ⟨.measure a k, l⟩) rfl hum ha
  rw [hmu] at hclose
  obtain ⟨v, hv⟩ : ∃ v, v = u.setAsm a (closedRecord (u.asm a) k temp l.length m) := ⟨_, rfl⟩
  obtain ⟨w, hw⟩ : ∃ w, w = (v.dirty a).setAsm a (closedRecord (s.asm a) k temp l.length m).unlocked := ⟨_, rfl⟩
  have hunlocked : (closedRecord (u.asm a) k temp l.length m).unlocked = (closedRecord (s.asm a) k temp l.length m).unlocked := by
    rw [huasm, closedRecord_unlocked_idle]
  have hx : handler (.sessionClose temp) (s.touchNamed .P (.sessionClose temp)) =
      (w.finishSession (measuredDone ⟨.measure a k, l⟩ temp m),
        acceptClamped false (.sessionDone (measuredDone ⟨.measure a k, l⟩ temp m))) := by
    rw [touchNamed_of_some hnamed, ← hu]
    simp only [handler, closeSession, huocu]
    rw [if_neg (by omega), Int.toNat_natCast, hclose, hunlocked, ← hv, ← hw]
    rfl
  have hvw : v = s.setAsm a (closedRecord (u.asm a) k temp l.length m) := by rw [hv, hu, touch_setAsm]
  have hwasm : ∀ b, w.asm b = if a = b ∧ a < 512 then (closedRecord (s.asm a) k temp l.length m).unlocked else s.asm b := by
    intro b
    rw [hw, State.setAsm_asm, hvw]
    by_cases hb : a = b ∧ a < 512
    · rw [if_pos hb, if_pos hb]
    · rw [if_neg hb, if_neg hb]
      simp [State.setAsm_asm, hb]
  have hdirty : Dirties s w [a] := by
    refine dirties_one (u := v) (by rw [hvw]; rfl) (by rw [hw]; rfl) ?_
    have hview : (closedRecord (s.asm a) k temp l.length m).unlocked.view = (v.asm a).view := by
      rw [hv, State.setAsm_asm, if_pos ⟨rfl, ha⟩, ← hunlocked]
      rfl
    have hlt : a < 512 := ha
    unfold State.viewOf
    rw [if_pos hlt, if_pos hlt, hwasm, if_pos ⟨rfl, ha⟩, hview]
  refine ⟨_, measuredDone ⟨.measure a k, l⟩ temp m, exec_accepted rfl h hx, fun b hb => ?_, ?_, ?_, fun L R n c hL => ⟨?_, ?_⟩, fun y z n c hL => ⟨?_, ?_⟩⟩
  · simp [hwasm, Ne.symm hb]
  · refine eq_of_parts ?_ ?_ ?_ ?_ ?_ ?_ ?_ ?_ ?_ ?_ ?_ ?_ ?_ <;> simp [hw, hvw]
  · exact sessionEnds_replied (w := w) (l := [a]) (before := []) _ _
      (by rw [List.mem_singleton]; intro e; rw [← e] at ha; exact absurd ha (by decide)) (by simp [hw, hvw]) (by simp [hw, hvw]) hdirty
  · simp only [replied_frame, finishSession_frame, hwasm]
    rw [if_pos ⟨trivial, ha⟩, hL]
    rfl
  · rw [hL]
    rfl
  · simp only [replied_frame, finishSession_frame, hwasm]
    rw [if_pos ⟨trivial, ha⟩, hL]
    cases z <;> simp [closedRecord, AsmRecord.failed, AsmRecord.unlocked, AsmRecord.enter, AsmState.mayMeasure,
      AsmState.mayStock, AsmState.mayBind, heldValue_eq_min]
  · rw [hL]
    cases z <;> simp [measuredDone, heldValue_eq_min, SessionKind.subject]

/-! ### Openings and readings (R28, R30, R52, R55) -/

theorem measureOpen_cases {r : AsmRecord} {x : PriorState} (h : r.measurable = some x) :
    r.state = .unmeasured ∨ r.state = .quarantined ∨ r.state = .ready ∧ r.stock = none := by
  unfold AsmRecord.measurable at h
  split at h
  case h_1 hst => exact .inl hst
  case h_2 hst => exact .inr (.inl hst)
  case h_3 hst =>
    split at h
    · next hs => exact .inr (.inr ⟨hst, Option.isNone_iff_eq_none.mp hs⟩)
    · cases h
  case h_4 => cases h

/-- Settles O19, by the one equation of each opening. -/
theorem sessionsOpen : Obligations.SessionsOpen := by
  unfold Obligations.SessionsOpen
  intro a k lm dm pr tag r s hocu hr
  refine ⟨fun h ha hholder hactive hmeasurable => ?_, fun hk hcert => ⟨fun h => ?_, fun h h1 h2 h3 h4 hblank hinvalid => ?_⟩⟩
  · have hlt : a < 512 := by omega
    obtain ⟨u, hu⟩ : ∃ u, u = s.touch .P a := ⟨_, rfl⟩
    have huasm : u.asm a = { s.asm a with idle := if (s.asm a).holder = some .P then 0 else (s.asm a).idle } := by
      rw [hu, touch_asm _ a hlt]
    have huocu : u.ocu = none := by rw [hu]; simpa using hocu
    have huactive : u.rfs.active = some k := by rw [hu]; simpa using hactive
    have hmu : (u.asm a).measurable = some pr := by
      rw [huasm]
      exact hmeasurable
    have hfree : (s.asm a).state.free := measurable_free hmeasurable
    have hopened : (u.asm a).opened pr = r := by
      rw [hr, huasm]
      rfl
    have hfreeu : ((u.setSession (some ⟨.measure a k, []⟩)).asm a).state.free := by
      show (u.asm a).state.free
      rw [huasm]
      exact hfree
    have hrfree : r.state.free := by rw [hr]; exact free_measuring
    have hstate : (u.setSession (some ⟨.measure a k, []⟩)).setAsm a r = (s.setSession (some ⟨.measure a k, []⟩)).setAsm a r := by
      show (u.setAsm a r).setSession _ = _
      rw [hu, touch_setAsm]
      rfl
    refine exec_accepted rfl h ?_
    rw [touchNamed_of_some rfl, ← hu]
    obtain ⟨-, -, -, pr', k', hpr, hk, hx⟩ := (measureOpen_checked u a).2 (by
      have hch := (measureOpen_cases hmeasurable)
      simp [firstOf, huasm, huocu, huactive, hholder, ha]
      grind)
    rw [hmu] at hpr
    cases hpr
    have hk' : k' = k := by
      rw [huactive] at hk
      exact (Option.some.inj hk).symm
    rw [handler, hx, hk', changeAsm_unpocketed hfreeu (by rw [hopened]; exact hrfree), hopened, hstate]
    rfl
  · refine exec_accepted rfl h ?_
    rw [touchNamed_of_none rfl]
    obtain ⟨-, -, -, hx⟩ := (zeroOpen_checked s k).2 (by simp [firstOf, hk, hocu, hcert])
    exact hx
  · refine exec_accepted rfl h ?_
    rw [touchNamed_of_none rfl]
    obtain ⟨-, -, -, hx⟩ := (spanOpen_checked s k lm dm).2 (by simp [firstOf, hk, hocu, hcert, h1, h2, h3, h4, hblank, hinvalid])
    exact hx

end Sys2Proof.Machine
end

section
/-! PROOFS. READING and the requests on reference sets and the curve (O20, O24). -/

namespace Sys2Proof.Machine

open Sys2Proof

variable {s t : State}

/-! ### READING (R30) -/

/-- Settles O20, by the kind of the session. -/
theorem readingJoinsTheList : Obligations.ReadingJoinsTheList := by
  unfold Obligations.ReadingJoinsTheList
  intro z x tag n s h hocu hz hx hlen hholder
  have hadd : ∀ u : State, u.ocu = some n → addReading z x u =
      (u.setSession (some { n with readings := n.readings ++ [(z, x)] }), accept (.readingCount (n.readings.length + 1))) := by
    intro u hu
    obtain ⟨m, hm, -, -, -, hx⟩ := (addReading_checked u z x).2 (by simp [firstOf, hu]; omega)
    rw [hu] at hm
    cases hm
    exact hx
  refine exec_accepted rfl h ?_
  obtain ⟨kind, l⟩ := n
  cases kind with
  | measure a k =>
    rw [touchNamed_of_some (a := a) (by rw [hocu]; rfl), touch_of_holder (hholder a k rfl)]
    exact hadd _ hocu
  | zero k =>
    rw [touchNamed_of_none (by rw [hocu]; rfl)]
    exact hadd _ hocu
  | span k lm dm =>
    rw [touchNamed_of_none (by rw [hocu]; rfl)]
    exact hadd _ hocu

/-! ### Reference sets and the curve (R59 to R62) -/

/-- A change of a reference set, dirtied and answered. -/
theorem refSet_written (s : State) {k : Nat} (hk : k < 4) (r : RefSet) (x : Reply) :
    (((s.setRefSet k r).dirty (refKey k)).replied .P x).refSet k = r ∧
      (∀ j, j ≠ k → (((s.setRefSet k r).dirty (refKey k)).replied .P x).refSet j = s.refSet j) ∧
      (((s.setRefSet k r).dirty (refKey k)).replied .P x).rfs =
        { s.rfs with sets := (((s.setRefSet k r).dirty (refKey k)).replied .P x).rfs.sets } ∧
      Dirties s (((s.setRefSet k r).dirty (refKey k)).replied .P x) [592 + k] ∧
      ((s.setRefSet k r).dirty (refKey k)).replied .P x = { s.replied .P x with
        rfs := (((s.setRefSet k r).dirty (refKey k)).replied .P x).rfs
        rst := (((s.setRefSet k r).dirty (refKey k)).replied .P x).rst } := by
  refine ⟨by simp [State.setRefSet_refSet, hk], fun j hj => by simp [State.setRefSet_refSet, Ne.symm hj], by simp [State.setRefSet],
    dirties_one (u := s.setRefSet k r) rfl (by simp [refKey]) (by simp), ?_⟩
  refine eq_of_parts ?_ ?_ ?_ ?_ ?_ ?_ ?_ ?_ ?_ ?_ ?_ ?_ ?_ <;> simp [State.setRefSet]

/-- The nine clamped values of a WRITE_CURVE (R62). -/
theorem clampedCurve_eq {l : List Int} {c : Curve} (hl : l.length = 9) (hc : c.toList = l.map (clampInt (-500) 500)) :
    clampedCurve l = c := by
  refine Vector.toList_inj.mp ?_
  rw [hc, toList_eq_map 0 (clampedCurve l)]
  refine List.ext_getElem (by simp [hl]) fun i hi hi' => ?_
  have hi9 : i < 9 := by simpa using hi
  simp only [List.getElem_map, List.getElem_range, clampedCurve, tget_tgen, if_pos hi9]
  simp [List.getD_eq_getElem?_getD, hl, hi9]

/-- Settles O24, by the accepted form of each request. -/
theorem referenceRequestsWrite : Obligations.ReferenceRequestsWrite := by
  unfold Obligations.ReferenceRequestsWrite
  refine ⟨fun k z x a b lm dm tag s hk => ⟨fun h hocu hcert => ⟨fun hactive => ?_, fun hactive => ?_⟩,
    fun h hcal hset => ?_, fun h hmnt hactive hset => ?_⟩, fun l c tag s h hl hc => ⟨fun hocu => ?_, fun hocu => ?_⟩⟩
  · obtain ⟨-, -, -, hx⟩ := (selectReference_checked s k).2 (by simp [firstOf, hk, hocu, hcert])
    rw [if_neg hactive] at hx
    refine ⟨_, exec_accepted rfl h (by rw [touchNamed_of_none rfl]; exact hx), by simp [State.setActive],
      dirties_one (u := s.setActive (some k)) rfl (by simp) (by simp), ?_⟩
    refine eq_of_parts ?_ ?_ ?_ ?_ ?_ ?_ ?_ ?_ ?_ ?_ ?_ ?_ ?_ <;> simp [State.setActive]
  · obtain ⟨-, -, -, hx⟩ := (selectReference_checked s k).2 (by simp [firstOf, hk, hocu, hcert])
    rw [if_pos hactive] at hx
    exact exec_accepted rfl h (by rw [touchNamed_of_none rfl]; exact hx)
  · obtain ⟨hk4, -, -, hx⟩ := (certifyReference_checked s k).2 (by
      have hany : (s.ocu.any fun y => decide (y.kind.calibrates = some k)) = false := by
        cases hs : s.ocu with
        | none => rfl
        | some y => simpa using hcal y hs
      simp [firstOf, hk, hany, hset, RefSet.isSpanned, RefSet.certified])
    rw [hset] at hx
    refine ⟨_, exec_accepted rfl h (by rw [touchNamed_of_none rfl]; exact hx), ?_⟩
    exact refSet_written s hk4 _ _
  · obtain ⟨hk4, -, -, hx⟩ := (unlockReference_checked s k).2 (by
      simp [firstOf, hk, hset, hmnt, hactive, RefSet.certified])
    rw [hset] at hx
    refine ⟨_, exec_accepted rfl h (by rw [touchNamed_of_none rfl]; exact hx), ?_⟩
    exact refSet_written s hk4 _ _
  · have hx : writeCurve l s = (s.setStagedCurve (some c), acceptClamped (decide (c.toList ≠ l)) (.curveWritten false)) := by
      unfold writeCurve
      simp only [hl, ne_eq, not_true_eq_false, if_false, hocu, if_true, clampedCurve_eq hl hc]
    exact exec_accepted rfl h (by rw [touchNamed_of_none rfl]; exact hx)
  · have hx : writeCurve l s = (if c = s.rfs.curve then s else (s.setCurve c).dirty curveKey,
        acceptClamped (decide (c.toList ≠ l)) (.curveWritten true)) := by
      unfold writeCurve
      simp only [hl, ne_eq, not_true_eq_false, if_false, hocu, Option.isSome_none, Bool.false_eq_true, clampedCurve_eq hl hc]
      split <;> rfl
    refine ⟨_, exec_accepted rfl h (by rw [touchNamed_of_none rfl]; exact hx), ?_, fun heq => ?_, fun hne => ?_, ?_⟩
    · split
      · next heq => simp [heq]
      · simp [State.setCurve]
    · simp [heq]
    · rw [if_neg hne]
      exact dirties_one (u := s.setCurve c) rfl (by simp) (by simp)
    · split
      · rfl
      · refine eq_of_parts ?_ ?_ ?_ ?_ ?_ ?_ ?_ ?_ ?_ ?_ ?_ ?_ ?_ <;> simp [State.setCurve]

end Sys2Proof.Machine
end

section
/-! PROOFS. What the sweep of a calibrating close does to the Record Store, in the words of `SweepDirties` (R58). -/

namespace Sys2Proof.Machine

open Sys2Proof

variable {s t v : State} {k : Nat}

/-! ### One key of the sweep -/

/-- A swept key while a commit is in flight: it joins the tail unless it waits, and the redirty mark of its own commit is
cleared. -/
theorem sweepDirty_rst_of_flight {c : Commit} (h : t.rst.flight = some c) : (t.sweepDirty k).rst = { t.rst with
    queue := t.rst.queue ++ [k].filter fun j => decide (j ∉ t.rst.queue)
    flight := some { c with redirty := !decide (c.key = k) && c.redirty } } := by
  unfold State.sweepDirty
  rw [h]
  dsimp only
  by_cases hc : c.key = k
  · rw [if_pos hc]
    by_cases hk : k ∈ t.rst.queue
    · rw [if_pos (by simpa [State.setFlight] using hk)]
      simp [State.setFlight, hk, hc]
    · rw [if_neg (by simpa [State.setFlight] using hk)]
      simp [State.setFlight, State.setCommitQueue, hk, hc]
  · have hk : k ≠ c.key := Ne.symm hc
    rw [if_neg hc, dirty_rst_of_flight h]
    by_cases hq : k ∈ t.rst.queue <;> simp [hc, hk, hq]

theorem sweepDirty_of_idle (h : t.rst.flight = none) : t.sweepDirty k = t.dirty k := by
  unfold State.sweepDirty
  rw [h]

theorem sweepDirty_viewOf (t : State) (k j : Nat) : (t.sweepDirty k).viewOf j = t.viewOf j :=
  viewOf_of_rst (sweepDirty_eq t k) j

theorem sweepDirty_willWrite (t : State) (k : Nat) : (t.sweepDirty k).willWrite k := by
  cases hf : t.rst.flight with
  | none =>
    rw [sweepDirty_of_idle hf]
    exact (dirty_dirties t k).2.1 k (by simp)
  | some c =>
    refine .inl ?_
    rw [sweepDirty_rst_of_flight hf]
    by_cases hk : k ∈ t.rst.queue <;> simp [hk]

theorem willWrite_sweepDirty {j : Nat} (h : t.willWrite j) : (t.sweepDirty k).willWrite j := by
  by_cases hjk : j = k
  · rw [hjk]
    exact sweepDirty_willWrite t k
  · cases hf : t.rst.flight with
    | none =>
      rw [sweepDirty_of_idle hf]
      exact willWrite_dirty h
    | some c =>
      unfold State.willWrite at h ⊢
      rw [sweepDirty_viewOf, sweepDirty_rst_of_flight hf]
      rcases h with hq | ⟨f, hfl, hkey, hw⟩
      · exact .inl (List.mem_append_left _ hq)
      · rw [hf] at hfl
        cases hfl
        exact .inr ⟨_, rfl, hkey, hw.imp_left fun hr => by simp [hkey, hjk, hr]⟩

theorem queued_sweepDirty {j : Nat} (hjk : j ≠ k) : (t.sweepDirty k).queued j ↔ t.queued j := by
  cases hf : t.rst.flight with
  | none =>
    rw [sweepDirty_of_idle hf]
    exact (dirty_dirties t k).2.2.1 j (by simpa using hjk)
  | some c =>
    unfold State.queued
    rw [sweepDirty_rst_of_flight hf]
    simp [hjk, hf]

/-! ### All keys of the sweep -/

theorem foldl_sweepDirty_viewOf (l : List Nat) (t : State) (j : Nat) : (l.foldl State.sweepDirty t).viewOf j = t.viewOf j := by
  induction l generalizing t with
  | nil => rfl
  | cons k l ih => exact (ih _).trans (sweepDirty_viewOf t k j)

theorem willWrite_foldl_sweepDirty (l : List Nat) {j : Nat} (h : t.willWrite j) : (l.foldl State.sweepDirty t).willWrite j := by
  induction l generalizing t with
  | nil => exact h
  | cons k l ih => exact ih (willWrite_sweepDirty h)

theorem foldl_sweepDirty_willWrite (l : List Nat) (t : State) {j : Nat} (hj : j ∈ l) :
    (l.foldl State.sweepDirty t).willWrite j := by
  induction l generalizing t with
  | nil => cases hj
  | cons k l ih =>
    rcases List.mem_cons.mp hj with rfl | hj
    · exact willWrite_foldl_sweepDirty l (sweepDirty_willWrite t j)
    · exact ih _ hj

theorem queued_foldl_sweepDirty (l : List Nat) (t : State) {j : Nat} (hj : j ∉ l) :
    (l.foldl State.sweepDirty t).queued j ↔ t.queued j := by
  induction l generalizing t with
  | nil => rfl
  | cons k l ih =>
    obtain ⟨hjk, hjl⟩ : j ≠ k ∧ j ∉ l := by simpa using hj
    exact (ih _ hjl).trans (queued_sweepDirty hjk)

theorem foldl_sweepDirty_rst_of_flight (l : List Nat) (hl : l.Nodup) {t : State} {c : Commit} (h : t.rst.flight = some c) :
    (l.foldl State.sweepDirty t).rst = { t.rst with
      queue := t.rst.queue ++ l.filter fun j => decide (j ∉ t.rst.queue)
      flight := some { c with redirty := !decide (c.key ∈ l) && c.redirty } } := by
  induction l generalizing t c with
  | nil => simp [← h]
  | cons k l ih =>
    obtain ⟨hk, hl⟩ := List.nodup_cons.mp hl
    have hone := sweepDirty_rst_of_flight (k := k) h
    have hfilter : l.filter (fun j => decide (j ∉ t.rst.queue ++ [k].filter fun i => decide (i ∉ t.rst.queue))) =
        l.filter fun j => decide (j ∉ t.rst.queue) := List.filter_congr fun j hj => by
      have hjk : j ≠ k := fun e => hk (e ▸ hj)
      simp [hjk]
    rw [List.foldl_cons, ih hl (by rw [hone]), hone]
    dsimp only
    rw [hfilter, List.append_assoc, ← List.filter_append]
    by_cases hc : c.key = k <;> simp [hc]

theorem foldl_sweepDirty_pages (l : List Nat) (t : State) : (l.foldl State.sweepDirty t).rst.pages = t.rst.pages := by
  induction l generalizing t with
  | nil => rfl
  | cons k l ih => exact (ih _).trans (sweepDirty_flightFrom t k).1

/-! ### The set's key behind them -/

theorem requeueDirty_viewOf (t : State) (k j : Nat) : (t.requeueDirty k).viewOf j = t.viewOf j :=
  (dirty_viewOf _ k j).trans rfl

theorem willWrite_requeueDirty {j : Nat} (hjk : j ≠ k) (h : t.willWrite j) : (t.requeueDirty k).willWrite j := by
  refine willWrite_dirty (t := t.setCommitQueue (t.rst.queue.erase k)) ?_
  exact h.imp_left fun hq => (List.mem_erase_of_ne hjk).mpr hq

theorem queued_requeueDirty {j : Nat} (hjk : j ≠ k) : (t.requeueDirty k).queued j ↔ t.queued j := by
  refine ((dirty_dirties (t.setCommitQueue (t.rst.queue.erase k)) k).2.2.1 j (by simpa using hjk)).trans ?_
  unfold State.queued
  simp [State.setCommitQueue, List.mem_erase_of_ne hjk]

/-- The dirtying of a calibrating close: the swept keys, then the key of the set. -/
theorem sweepDirties_requeued {l : List Nat} {r : Nat} (hl : l.Nodup) (hr : r ∉ l) :
    SweepDirties v ((l.foldl State.sweepDirty v).requeueDirty r) l r [] := by
  obtain ⟨u, hu⟩ : ∃ u, u = l.foldl State.sweepDirty v := ⟨_, rfl⟩
  have hpages : u.rst.pages = v.rst.pages := hu ▸ foldl_sweepDirty_pages l v
  rw [← hu]
  refine ⟨?_, fun j hj => ?_, fun j hj => ?_, fun c hc hnodup => ?_, fun j q hjq hf hq => ?_⟩
  · rw [(requeueDirty_flightFrom u r).1, hpages]
  · rcases List.mem_append.mp hj with hj | hj
    · exact willWrite_requeueDirty (fun e => hr (e ▸ hj)) (hu ▸ foldl_sweepDirty_willWrite l v hj)
    · rw [List.mem_singleton.mp hj]
      exact (dirty_dirties _ r).2.1 r (by simp)
  · simp only [List.mem_append, List.mem_singleton, not_or] at hj
    exact (queued_requeueDirty hj.2).trans (hu ▸ queued_foldl_sweepDirty l v hj.1)
  · have hswept := foldl_sweepDirty_rst_of_flight l hl hc
    rw [← hu] at hswept
    obtain ⟨w, hw⟩ : ∃ w, w = u.setCommitQueue (u.rst.queue.erase r) := ⟨_, rfl⟩
    have hrest : r ∉ l.filter fun j => decide (j ∉ v.rst.queue) := fun h => hr (List.mem_filter.mp h).1
    have hqueue : w.rst.queue = v.rst.queue.erase r ++ l.filter fun j => decide (j ∉ v.rst.queue) := by
      rw [hw]
      show u.rst.queue.erase r = _
      rw [hswept]
      by_cases hq : r ∈ v.rst.queue
      · exact List.erase_append_left _ hq
      · rw [List.erase_of_not_mem hq]
        exact List.erase_of_not_mem (by simp [hq, hr])
    have hout : r ∉ w.rst.queue := by
      rw [hqueue]
      simp [hr, hnodup.mem_erase_iff]
    have hflight : w.rst.flight = some { c with redirty := !decide (c.key ∈ l) && c.redirty } := by
      rw [hw]
      show u.rst.flight = _
      rw [hswept]
    have hreq : u.requeueDirty r = w.dirty r := by rw [hw]; rfl
    rw [hreq, dirty_rst_of_flight hflight]
    dsimp only
    rw [hqueue] at hout ⊢
    have hkeep : decide (r ∉ v.rst.queue.erase r ++ l.filter fun j => decide (j ∉ v.rst.queue)) = true := decide_eq_true hout
    refine ⟨?_, ?_⟩
    · by_cases hk : c.key = r
      · simp [hk]
      · simp [Ne.symm hk, hnodup.mem_erase_iff, hr]
    · by_cases hk : c.key = r
      · have hkl : c.key ∉ l := hk ▸ hr
        simp [hk, hr, hnodup.mem_erase_iff]
      · simp [hk]
  · cases l with
    | nil =>
      obtain ⟨rfl, rfl⟩ : r = j ∧ ([] : List Nat) = q := by simpa using hjq
      obtain ⟨i, m, hrst, him⟩ := dirty_rst_of_idle (t := u.setCommitQueue (u.rst.queue.erase r)) (k := r) (by rw [hu]; exact hf)
      have hqueue : (u.setCommitQueue (u.rst.queue.erase r)).rst.queue = [] := by
        rw [hu]
        show v.rst.queue.erase r = []
        rw [hq]
        rfl
      rw [hqueue] at him
      obtain ⟨rfl, rfl⟩ : i = r ∧ m = [] := by simpa using him
      rw [requeueDirty_viewOf]
      exact ⟨congrArg Store.queue hrst, congrArg Store.flight hrst⟩
    | cons a l =>
      obtain ⟨rfl, rfl⟩ : a = j ∧ l ++ [r] = q := by simpa using hjq
      obtain ⟨hal, hl⟩ := List.nodup_cons.mp hl
      obtain ⟨har, hrl⟩ : ¬r = a ∧ r ∉ l := by simpa using hr
      have hone : (v.sweepDirty a).rst = ⟨v.rst.pages, [], some ⟨a, v.viewOf a, false⟩⟩ := by
        rw [sweepDirty_of_idle hf]
        obtain ⟨i, m, hrst, him⟩ := dirty_rst_of_idle (t := v) (k := a) hf
        obtain ⟨rfl, rfl⟩ : i = a ∧ m = [] := by simpa [hq] using him
        exact hrst
      have hswept : u.rst = ⟨v.rst.pages, l, some ⟨a, v.viewOf a, false⟩⟩ := by
        rw [hu, List.foldl_cons, foldl_sweepDirty_rst_of_flight l hl (by rw [hone]), hone]
        simp
      have hflight : (u.setCommitQueue (u.rst.queue.erase r)).rst.flight = some ⟨a, v.viewOf a, false⟩ := by
        show u.rst.flight = _
        rw [hswept]
      have hqueue : (u.setCommitQueue (u.rst.queue.erase r)).rst.queue = l := by
        show u.rst.queue.erase r = l
        rw [hswept]
        exact List.erase_of_not_mem hrl
      have hview : (u.requeueDirty r).viewOf a = v.viewOf a :=
        (requeueDirty_viewOf u r a).trans (hu ▸ foldl_sweepDirty_viewOf (a :: l) v a)
      have hrst : (u.requeueDirty r).rst = _ := dirty_rst_of_flight hflight
      rw [hview, hrst]
      dsimp only
      rw [hqueue]
      simp [hrl, har, Ne.symm har]

/-! ### What follows the sweep -/

theorem SweepDirties.congr {u : State} {w m : List Nat} {r : Nat} (h : SweepDirties s t w r m) (hrst : u.rst = t.rst)
    (hview : ∀ k ∈ w ++ r :: m, u.viewOf k = t.viewOf k) : SweepDirties s u w r m := by
  obtain ⟨hpages, hwrite, hqueued, hflight, hidle⟩ := h
  refine ⟨by rw [hrst, hpages], fun k hk => ?_, fun k hk => ?_, fun c hc => ?_, fun k q hl hf hq => ?_⟩
  · have hw := hwrite k hk
    unfold State.willWrite at hw ⊢
    rwa [hrst, hview k hk]
  · rw [← hqueued k hk]
    unfold State.queued
    rw [hrst]
  · rw [hrst]
    exact hflight c hc
  · rw [hrst, hview k (by rw [hl]; simp)]
    exact hidle k q hl hf hq

/-- One more key dirtied, behind the sweep. -/
theorem SweepDirties.snoc {w m : List Nat} {r : Nat} (h : SweepDirties s t w r m) (hk : k ∉ w ++ r :: m) :
    SweepDirties s (t.dirty k) w r (m ++ [k]) := by
  obtain ⟨hpages, hwrite, hqueued, hflight, hidle⟩ := h
  obtain ⟨hdpages, hdwrite, hdqueued, -, hdflight, -⟩ := dirty_dirties t k
  refine ⟨hdpages.trans hpages, fun j hj => ?_, fun j hj => ?_, fun c hc hnodup => ?_, fun j q hl hf hq => ?_⟩
  · rw [← List.cons_append, ← List.append_assoc] at hj
    rcases List.mem_append.mp hj with hj | hj
    · exact willWrite_dirty (hwrite j hj)
    · exact hdwrite j hj
  · rw [← List.cons_append, ← List.append_assoc, List.mem_append, not_or] at hj
    exact (hdqueued j hj.2).trans (hqueued j hj.1)
  · simp only [List.mem_append, List.mem_cons, not_or] at hk
    obtain ⟨hkw, hkr, hkm⟩ := hk
    obtain ⟨hqueue, hfl⟩ := hflight c hc hnodup
    obtain ⟨hdq, hdf⟩ := hdflight _ hfl
    have hwaits : k ∈ t.rst.queue ↔ k ∈ s.rst.queue := by
      rw [hqueue]
      simp [hnodup.mem_erase_iff, hkw, hkr, hkm]
    refine ⟨?_, ?_⟩
    · rw [hdq, hqueue, ← hqueue, ← List.cons_append, List.filter_append, ← List.append_assoc, ← hqueue]
      congr 1
      refine List.filter_congr fun j hj => ?_
      rw [List.mem_singleton.mp hj]
      simp [hwaits, hkr]
    · rw [hdf]
      by_cases hck : c.key = k
      · simp [hck, hkw, hkr, hkm, hwaits]
      · simp [hck]
  · have hjk : ∃ q', w ++ r :: m = j :: q' ∧ q = q' ++ [k] := by
      cases w with
      | nil => exact ⟨m, by simp_all, by simp_all⟩
      | cons a w => exact ⟨w ++ r :: m, by simp_all, by simp_all⟩
    obtain ⟨q', hl', rfl⟩ := hjk
    obtain ⟨hqueue, hfl⟩ := hidle j q' hl' hf hq
    obtain ⟨hdq, hdf⟩ := hdflight _ hfl
    rw [hl'] at hk
    obtain ⟨hkj, hkq⟩ : k ≠ j ∧ k ∉ q' := by simpa using hk
    rw [hdq, hdf, dirty_viewOf, hqueue]
    simp [hkj, hkq, Ne.symm hkj]

end Sys2Proof.Machine
end

section
/-! PROOFS. What the idle builder takes next, and what a signal does at the Handoff Builder (R162, R167). -/

namespace Sys2Proof.Machine

open Sys2Proof

variable {s t w : State}

/-! ### The next build (R162, R163) -/

/-- The idle builder takes the build of a BUILDING slot. -/
theorem kickBuilder_slot {n : Nat} {l : List Nat} {h : Held} (hb : w.hob.builder = none) (hq : w.hob.slotBuilds = n :: l)
    (hslot : w.slot n = .building h) :
    w.kickBuilder = ((w.setHob { w.hob with slotBuilds := l }).setSlot n
      (.building { h with marks := h.marks.map fun _ => false })).startBuild (.slot n) h.ident := by
  have hslot' : ∀ x, (w.setHob { w.hob with slotBuilds := l, builder := x }).slot n = .building h := fun _ => hslot
  unfold State.kickBuilder
  simp only [hb, hq, hslot']

/-- With no slot build waiting the idle builder takes the build of a PENDING buffer. -/
theorem kickBuilder_readAhead {c : Nat} {l : List Nat} {i : Ident} (hb : w.hob.builder = none) (hq : w.hob.slotBuilds = [])
    (hr : w.hob.readAheads = c :: l) (hbuf : w.buffer c = .pending i) :
    w.kickBuilder = (w.setHob { w.hob with readAheads := l }).startBuild (.readAhead c) i := by
  have hbuf' : ∀ x y, (w.setHob { w.hob with slotBuilds := x, readAheads := l, builder := y }).buffer c = .pending i :=
    fun _ _ => hbuf
  unfold State.kickBuilder
  simp only [hb, hq, hr, hbuf']

/-- With nothing waiting the builder stays idle. -/
theorem kickBuilder_idle (hb : w.hob.builder = none) (hq : w.hob.slotBuilds = []) (hr : w.hob.readAheads = []) :
    w.kickBuilder = w := by
  unfold State.kickBuilder
  simp only [hb, hq, hr]

/-- With no slot build waiting the builder leaves the slots and the buffers. -/
theorem kickBuilder_slots (hq : w.hob.slotBuilds = []) (n : Nat) : w.kickBuilder.slot n = w.slot n := by
  unfold State.kickBuilder
  cases hb : w.hob.builder with
  | some b => rfl
  | none =>
    cases hr : w.hob.readAheads with
    | nil => simp only [hq]
    | cons c l =>
      simp only [hq]
      split <;> rfl

theorem kickBuilder_buffer (w : State) (c : Nat) : w.kickBuilder.buffer c = w.buffer c := by
  unfold State.kickBuilder
  split
  · rfl
  · split
    · dsimp only
      split <;> rfl
    · dsimp only
      split <;> rfl
    · rfl

/-- An idle builder takes its next build. -/
theorem kickBuilder_takesNext (s : State) (hb : w.hob.builder = none) :
    TakesNext s w.kickBuilder w.slot w.hob.slotBuilds w.hob.readAheads := by
  refine ⟨fun n l h hq hn hslot => ?_, fun hq => ⟨kickBuilder_slots hq, fun c l i hr hbuf => ?_, fun hr => ?_⟩⟩
  · rw [kickBuilder_slot hb hq hslot]
    have hslots : ∀ m, ((w.setHob { w.hob with slotBuilds := l }).setSlot n
        (.building { h with marks := h.marks.map fun _ => false })).slot m =
          if n = m ∧ n < 4 then .building { h with marks := h.marks.map fun _ => false } else w.slot m :=
      fun m => by rw [State.setSlot_slot]; rfl
    exact ⟨(hslots n).trans (if_pos ⟨rfl, hn⟩), fun m hm => (hslots m).trans (if_neg fun e => hm e.1.symm), rfl⟩
  · rw [kickBuilder_buffer] at hbuf
    rw [kickBuilder_readAhead hb hq hr hbuf, ← hq]
    rfl
  · rw [kickBuilder_idle hb hq hr]
    have hhob : ∀ x : Handoff, x.slotBuilds = [] → x.readAheads = [] → x.builder = none →
        x = ⟨x.slots, x.buffers, [], [], none⟩ := fun ⟨_, _, _, _, _⟩ h1 h2 h3 => by
      cases h1
      cases h2
      cases h3
      rfl
    exact hhob _ hq hr hb

/-- The next build, read in a state with the same slots, buffers and profiles. -/
theorem TakesNext.congr {v : State} {slots slots' : Nat → Slot} {q r : List Nat} (h : TakesNext s w slots q r)
    (hhob : v.hob = w.hob) (hctb : v.ctb = w.ctb) (hslots : ∀ n, slots' n = slots n) : TakesNext s v slots' q r := by
  have hslot : ∀ n, v.slot n = w.slot n := fun n => by simp only [State.slot, hhob]
  have hbuf : ∀ n, v.buffer n = w.buffer n := fun n => by simp only [State.buffer, hhob]
  have hfresh : ∀ x i, freshBuild v x i = freshBuild w x i := fun x i => by
    simp only [freshBuild, State.profile, State.cell, hctb]
  unfold TakesNext at h ⊢
  simp only [hslot, hbuf, hfresh, hhob, hslots]
  exact h

/-! ### A signal (R167, Table 8.6) -/

theorem covers_eq (g : Signal) (i : Ident) : g.covers i = covers g i := by
  cases g <;> simp [Signal.covers, covers, Ident.covers]

theorem map_true_eq_mapIdx (l : List Bool) : (l.map fun _ => true) = l.mapIdx fun _ m => m || true := by
  apply List.ext_getElem
  · rw [List.length_map, List.length_mapIdx]
  · intro n _ _
    rw [List.getElem_map, List.getElem_mapIdx, Bool.or_true]

/-- The marks that a signal sets, by their place in the list. -/
theorem mark_eq_markedBy (h : Held) (g : Signal) : h.mark g = markedBy g h := by
  unfold Held.mark markedBy
  rw [covers_eq]
  split
  · next hc =>
    cases g with
    | pocket c p =>
      have hp : h.ident.start ≤ p := by
        simp [covers] at hc
        omega
      refine congrArg (fun m => ({ h with marks := m } : Held)) ?_
      apply List.ext_getElem
      · rw [List.length_set, List.length_mapIdx]
      · intro n _ _
        rw [List.getElem_set, List.getElem_mapIdx]
        by_cases he : p - h.ident.start = n
        · have hs : h.ident.start + n = p := by omega
          simp [he, hs]
        · have hs : ¬h.ident.start + n = p := by omega
          simp [he, hs]
    | cell c => exact congrArg _ (map_true_eq_mapIdx h.marks)
    | all => exact congrArg _ (map_true_eq_mapIdx h.marks)
  · rfl

/-- The slots under a signal. -/
theorem slot_of_disturbed {v : State} {g : Signal} (h : v.hob.slots = tmap (Slot.disturbed g) s.hob.slots) {marked : Nat → Slot}
    (hmarked : ∀ n, marked n = match s.slot n with
      | .building h => .building (markedBy g h)
      | .complete h b x => .complete (markedBy g h) b x
      | .free => .free) (n : Nat) : v.slot n = marked n := by
  have hslot : v.slot n = (s.slot n).disturbed g := by
    rw [State.slot, h]
    exact tget_tmap (Slot.disturbed g) .free s.hob.slots n
  rw [hslot, hmarked]
  cases s.slot n <;> simp [Slot.disturbed, mark_eq_markedBy]

theorem tget_disturbed (g : Signal) (v : Vector Buffer 16) (e : Nat) :
    tget .empty (tmap (Buffer.disturbed g false) v) e = (tget .empty v e).disturbed g false :=
  tget_tmap (Buffer.disturbed g false) .empty v e

/-- The buffers of a signal while a build of a slot, or none, is being formed. -/
theorem disturb_hob_of_slot {g : Signal} (h : ∀ e, s.formingReadAhead e = false) : (s.disturb g).hob =
    { s.hob with slots := tmap (Slot.disturbed g) s.hob.slots, buffers := tmap (Buffer.disturbed g false) s.hob.buffers } := by
  unfold State.disturb
  rcases hb : s.hob.builder with _ | ⟨_ | c, dt, b⟩
  · rfl
  · rfl
  · have hforming := h c
    simp [State.formingReadAhead, hb] at hforming

/-- The state a signal leaves while the read-ahead build of cell `c` is being formed, before the builder goes on. -/
def State.disturbedForming (s : State) (g : Signal) (c : Nat) : State :=
  s.setHob { s.hob with
    slots := tmap (Slot.disturbed g) s.hob.slots
    buffers := tset (tmap (Buffer.disturbed g false) s.hob.buffers) c ((s.buffer c).disturbed g true) }

theorem disturb_of_forming {g : Signal} {c : Nat} {dt : Int} {b : Block} (h : s.hob.builder = some ⟨.readAhead c, dt, b⟩) :
    s.disturb g = if covers g b.ident then (s.disturbedForming g c).dropBuild.kickBuilder else s.disturbedForming g c := by
  unfold State.disturb State.disturbedForming
  simp only [h, covers_eq]

/-- What a signal makes of a buffer. -/
theorem disturb_buffer (s : State) (g : Signal) (e : Nat) :
    (s.disturb g).buffer e = (s.buffer e).disturbed g (s.formingReadAhead e) := by
  by_cases hf : ∀ e, s.formingReadAhead e = false
  · rw [State.buffer, disturb_hob_of_slot hf, hf e]
    exact tget_disturbed g _ e
  · obtain ⟨c, hc⟩ : ∃ c, s.formingReadAhead c = true := by simpa using hf
    rcases hb : s.hob.builder with _ | ⟨x, dt, b⟩
    · simp [State.formingReadAhead, hb] at hc
    · obtain rfl : x = .readAhead c := by simpa [State.formingReadAhead, hb] using hc
      have hforming : s.formingReadAhead e = decide (c = e) := by simp [State.formingReadAhead, hb]
      have hbuf : (s.disturbedForming g c).buffer e = (s.buffer e).disturbed g (decide (c = e)) := by
        show tget Buffer.empty (tset _ c _) e = _
        rw [tget_tset, tget_disturbed]
        by_cases hce : c = e
        · subst hce
          by_cases hlt : c < 16
          · simp [hlt]
          · rw [if_neg fun h => hlt h.2]
            simp [State.buffer, tget_beyond _ _ _ (Nat.not_lt.mp hlt), Buffer.disturbed]
        · rw [if_neg fun h => hce h.1, decide_eq_false hce]
          rfl
      rw [disturb_of_forming hb, hforming, ← hbuf]
      split
      · exact kickBuilder_buffer _ e
      · rfl

/-- A signal of any form does at the Handoff Builder what `DisturbedBy` says. -/
theorem disturbedBy_disturb (s : State) (g : Signal) : DisturbedBy s (s.disturb g) g := by
  refine ⟨fun e => ?_, fun marked hmarked => ⟨fun hnone => ?_, fun b hb e he hcov => ?_⟩⟩
  · rw [disturb_buffer]
    cases s.buffer e <;> simp [Buffer.disturbed, covers_eq]
  · have hhob : (s.disturb g).hob = { s.hob with slots := (s.disturb g).hob.slots, buffers := (s.disturb g).hob.buffers } ∧
        (s.disturb g).hob.slots = tmap (Slot.disturbed g) s.hob.slots := by
      by_cases hf : ∀ e, s.formingReadAhead e = false
      · rw [disturb_hob_of_slot hf]
        exact ⟨rfl, rfl⟩
      · obtain ⟨c, hc⟩ : ∃ c, s.formingReadAhead c = true := by simpa using hf
        rcases hb : s.hob.builder with _ | ⟨x, dt, b⟩
        · simp [State.formingReadAhead, hb] at hc
        · obtain rfl : x = .readAhead c := by simpa [State.formingReadAhead, hb] using hc
          have hcov : covers g b.ident = false := hnone _ hb c rfl
          rw [disturb_of_forming hb, hcov]
          exact ⟨rfl, rfl⟩
    exact ⟨hhob.1, slot_of_disturbed hhob.2 hmarked⟩
  · obtain ⟨x, dt, bl⟩ := b
    obtain rfl : x = .readAhead e := he
    have hcov' : covers g bl.ident = true := hcov
    have hnext : s.disturb g = (s.disturbedForming g e).dropBuild.kickBuilder := by
      rw [disturb_of_forming hb, hcov']
      rfl
    have htakes := kickBuilder_takesNext s (w := (s.disturbedForming g e).dropBuild) rfl
    rw [hnext]
    exact TakesNext.congr htakes rfl rfl fun n => (slot_of_disturbed (v := (s.disturbedForming g e).dropBuild) rfl hmarked n).symm

/-- The next build reads nothing but the Handoff Builder and the profiles. -/
theorem kickBuilder_hob_congr {v : State} (hhob : v.hob = w.hob) (hprofile : ∀ c, v.profile c = w.profile c) :
    v.kickBuilder.hob = w.kickBuilder.hob := by
  have hstart : ∀ (h : Handoff) (x : Target) (i : Ident), ((v.setHob h).startBuild x i).hob = ((w.setHob h).startBuild x i).hob :=
    fun h x i => by
    have hsame : ∀ c, (v.setHob h).profile c = (w.setHob h).profile c := hprofile
    simp only [State.startBuild, hsame]
    rfl
  have hslot : ∀ (h : Handoff) (n : Nat), (v.setHob h).slot n = (w.setHob h).slot n := fun _ _ => rfl
  have hbuf : ∀ (h : Handoff) (n : Nat), (v.setHob h).buffer n = (w.setHob h).buffer n := fun _ _ => rfl
  unfold State.kickBuilder
  rw [hhob]
  split
  · exact hhob
  · split
    · next n q _ =>
      dsimp only
      rw [hslot]
      split
      · exact hstart _ _ _
      · rfl
    · dsimp only
      rw [hbuf]
      split
      · exact hstart _ _ _
      · rfl
    · exact hhob

/-- A signal reads nothing but the Handoff Builder and the profiles. -/
theorem disturb_hob_congr {v : State} (g : Signal) (hhob : v.hob = s.hob)
    (hprofile : ∀ c, v.profile c = s.profile c) :
    (v.disturb g).hob = (s.disturb g).hob := by
  by_cases hf : ∀ e, s.formingReadAhead e = false
  · have hf' : ∀ e, v.formingReadAhead e = false := fun e => by
      rw [← hf e]
      simp only [State.formingReadAhead, hhob]
    rw [disturb_hob_of_slot hf, disturb_hob_of_slot hf', hhob]
  · obtain ⟨c, hc⟩ : ∃ c, s.formingReadAhead c = true := by simpa using hf
    rcases hb : s.hob.builder with _ | ⟨x, dt, b⟩
    · simp [State.formingReadAhead, hb] at hc
    · obtain rfl : x = .readAhead c := by simpa [State.formingReadAhead, hb] using hc
      have hdis : (v.disturbedForming g c).hob = (s.disturbedForming g c).hob := by
        simp only [State.disturbedForming, State.setHob, State.buffer, hhob]
      have hdrop : (v.disturbedForming g c).dropBuild.hob = (s.disturbedForming g c).dropBuild.hob := by
        simp only [State.dropBuild, State.setHob, hdis]
      rw [disturb_of_forming hb, disturb_of_forming (hhob ▸ hb)]
      split
      · exact kickBuilder_hob_congr hdrop hprofile
      · exact hdis

/-- The effect of a signal, read in a state with the same Handoff Builder and profiles. -/
theorem DisturbedBy.congr_profile {v u : State} {g : Signal} (h : DisturbedBy s t g) (hs : v.hob = s.hob) (ht : u.hob = t.hob)
    (hprofile : ∀ c, u.profile c = t.profile c) : DisturbedBy v u g := by
  have hslot : ∀ n, u.slot n = t.slot n := fun n => by simp only [State.slot, ht]
  have hbuf : ∀ n, u.buffer n = t.buffer n := fun n => by simp only [State.buffer, ht]
  have hslot' : ∀ n, v.slot n = s.slot n := fun n => by simp only [State.slot, hs]
  have hbuf' : ∀ n, v.buffer n = s.buffer n := fun n => by simp only [State.buffer, hs]
  have hforming : ∀ e, v.formingReadAhead e = s.formingReadAhead e := fun e => by simp only [State.formingReadAhead, hs]
  have hfresh : ∀ x i, freshBuild u x i = freshBuild t x i := fun x i => by simp only [freshBuild, hprofile]
  unfold DisturbedBy TakesNext at h ⊢
  simp only [hslot, hbuf, hslot', hbuf', hforming, hfresh, hs, ht]
  exact h

theorem DisturbedBy.congr {v u : State} {g : Signal} (h : DisturbedBy s t g) (hs : v.hob = s.hob) (ht : u.hob = t.hob)
    (hctb : u.ctb = t.ctb) : DisturbedBy v u g :=
  DisturbedBy.congr_profile h hs ht fun c => by simp only [State.profile, State.cell, hctb]

end Sys2Proof.Machine
end

section
/-! PROOFS. The close of a ZERO or SPAN session (O22). -/

namespace Sys2Proof.Machine

open Sys2Proof

variable {s t w : State} {k : Nat}

/-! ### The sweep (R58) -/

/-- The keys that a calibrating close sweeps. -/
def State.sweptKeys (s : State) (k : Nat) : List Nat := (List.range 512).filter fun b => (s.asm b).measuredWith k

theorem SweepDirties.of_rst {v : State} {l m : List Nat} {r : Nat} (h : SweepDirties v t l r m) (hrst : v.rst = s.rst) :
    SweepDirties s t l r m := by
  unfold SweepDirties State.queued at h ⊢
  rwa [hrst] at h

theorem dirtyForm_sweepDirties (s : State) (l : List Nat) (r : Nat) :
    DirtyForm (l ++ [r]) fun x m => SweepDirties s x l r m where
  congr h hrst hview := SweepDirties.congr h hrst (by simpa using hview)
  snoc h hk := SweepDirties.snoc h hk

/-- A record measured with the set has a pocket. -/
def State.sweptPocket (s : State) (k : Nat) : Prop :=
  ∃ b, (s.asm b).measuredWith k = true ∧ ((s.asm b).state = .issuing ∨ (s.asm b).state = .issued ∨ (s.asm b).state = .exhausted)

/-- The state a sweep leaves before it dirties. -/
theorem sweep_eq (s : State) (k : Nat) : ∃ u, s.sweep k = ((s.sweptKeys k).foldl State.sweepDirty u).requeueDirty (refKey k) ∧
    u.rst = s.rst ∧ (s.sweptPocket k → u.hob = (s.disturb .all).hob) ∧ (¬ s.sweptPocket k → u.hob = s.hob) := by
  obtain ⟨v, hv⟩ : ∃ v : State, v = { s with atb := tmap (fun r : AsmRecord => if r.measuredWith k then r.clearMark else r) s.atb } :=
    ⟨_, rfl⟩
  have hswept : ∀ b, (s.asm b).measuredWith k = true → b ∈ (List.range 512).filter fun b => (s.asm b).measuredWith k := by
    intro b hb
    refine List.mem_filter.mpr ⟨List.mem_range.mpr (Nat.lt_of_not_le fun hlt => ?_), hb⟩
    rw [State.asm, tget_beyond _ _ _ hlt] at hb
    cases hb
  unfold State.sweep
  dsimp only
  rw [← hv]
  split
  · next h =>
    obtain ⟨b, hb, hst⟩ := List.any_eq_true.mp h
    have hp : s.sweptPocket k := by
      refine ⟨b, (List.mem_filter.mp hb).2, ?_⟩
      revert hst
      cases (s.asm b).state <;> simp
    exact ⟨_, rfl, by simp [hv], fun _ => disturb_hob_congr .all (by rw [hv]) (fun _ => by rw [hv]; rfl), fun hn => absurd hp hn⟩
  · next h =>
    have hn : ¬ s.sweptPocket k := fun ⟨b, hb, hst⟩ => by
      refine h (List.any_eq_true.mpr ⟨b, hswept b hb, ?_⟩)
      rcases hst with h | h | h <;> rw [h]
    exact ⟨_, rfl, by rw [hv], fun h => absurd h hn, fun _ => by rw [hv]⟩

theorem asm_sweep (s : State) (k b : Nat) :
    (s.sweep k).asm b = if (s.asm b).measuredWith k then (s.asm b).clearMark else s.asm b := by
  rw [State.asm, (sweep_frame s k).1]
  exact tget_tmap (fun r : AsmRecord => if r.measuredWith k then r.clearMark else r) (blankRecord .vacant) s.atb b

theorem sweep_hob (s : State) (k : Nat) :
    (s.sweptPocket k → (s.sweep k).hob = (s.disturb .all).hob) ∧ (¬ s.sweptPocket k → (s.sweep k).hob = s.hob) := by
  obtain ⟨u, hu, -, hyes, hno⟩ := sweep_eq s k
  have hhob : (s.sweep k).hob = u.hob := by
    rw [hu]
    simp only [requeueDirty_frame, foldl_sweepDirty_frame]
  rw [hhob]
  exact ⟨hyes, hno⟩

theorem sweep_dirties (s : State) (k : Nat) (hk : k < 4) : SweepDirties s (s.sweep k) (s.sweptKeys k) (refKey k) [] := by
  obtain ⟨u, hu, hrst, -⟩ := sweep_eq s k
  have hnodup : (s.sweptKeys k).Nodup := List.nodup_range.filter _
  have hkey : refKey k ∉ s.sweptKeys k := fun h => by
    have hlt := List.mem_range.mp (List.mem_filter.mp h).1
    unfold refKey at hlt
    omega
  rw [hu]
  exact (sweepDirties_requeued hnodup hkey).of_rst hrst

/-! ### The closes -/

/-- A close that calibrates: the set written, the sweep, the end of the session. -/
theorem close_calibrated {tag : Byte} {temp : Int} {new : RefSet} {d : SessionDone} (h : s.taken .P (.sessionClose temp) = some tag)
    (hk : k < 4) (hnamed : namedAsm s.ocu (.sessionClose temp) = none)
    (hclose : closeSession temp s = (((s.setRefSet k new).sweep k).finishSession d, accept (.sessionDone d))) :
    ∃ t, exec (.sessionClose temp) s = .next t ∧ t.refSet k = new ∧ (∀ j, j ≠ k → t.refSet j = s.refSet j) ∧
      t = { s with atb := t.atb, ocu := t.ocu, rfs := t.rfs, hob := t.hob, rst := t.rst, ports := t.ports } ∧
      (∀ b, t.asm b = if (s.asm b).measuredWith k then (s.asm b).clearMark else s.asm b) ∧
      SessionEnds s t { s.rfs with sets := t.rfs.sets } (SweepDirties s t (s.sweptKeys k) (592 + k)) [] d
        (some (okReply tag false (.sessionDone d))) ∧
      (¬ s.sweptPocket k → t.hob = s.hob) ∧
      (s.sweptPocket k → t.hob = (s.disturb .all).hob ∧ DisturbedBy s t .all) := by
  obtain ⟨v, hv⟩ : ∃ v, v = s.setRefSet k new := ⟨_, rfl⟩
  have hx : handler (.sessionClose temp) (s.touchNamed .P (.sessionClose temp)) =
      ((v.sweep k).finishSession d, acceptClamped false (.sessionDone d)) := by
    rw [touchNamed_of_none hnamed, hv]
    exact hclose
  have hexec := exec_accepted rfl h hx
  obtain ⟨t, ht⟩ : ∃ t, t = ((v.sweep k).finishSession d).replied .P (okReply tag false (.sessionDone d)) := ⟨_, rfl⟩
  have href : ∀ j, t.refSet j = if k = j ∧ k < 4 then new else s.refSet j := fun j => by
    rw [ht, ← State.setRefSet_refSet]
    simp [hv]
  have hhob : t.hob = (v.sweep k).hob := by rw [ht]; simp only [replied_frame, finishSession_frame]
  have hsweep := sweep_hob v k
  have hvhob : v.hob = s.hob := by rw [hv]; rfl
  have hpocket : v.sweptPocket k ↔ s.sweptPocket k := by rw [hv]; rfl
  have hkeys : v.sweptKeys k = s.sweptKeys k := by rw [hv]; rfl
  have hrfs : (v.sweep k).rfs = { s.rfs with sets := t.rfs.sets } := by
    have hset : (v.sweep k).rfs = v.rfs := by simp only [sweep_frame]
    have hsets : t.rfs.sets = v.rfs.sets := by
      rw [← hset, ht]
      cases hs : (v.sweep k).rfs.staged with
      | none => simp only [replied_frame, finishSession_rfs_of_none d hs]
      | some c => simp only [replied_frame, finishSession_rfs_of_some d hs]
    rw [hset, hsets, hv]
    rfl
  have hdirty : SweepDirties s (v.sweep k) (s.sweptKeys k) (592 + k) [] :=
    hkeys ▸ (sweep_dirties v k hk).of_rst (by rw [hv]; rfl)
  refine ⟨t, ht ▸ hexec, (href k).trans (if_pos ⟨rfl, hk⟩), fun j hj => (href j).trans (if_neg fun e => hj e.1.symm), ?_,
    fun b => ?_, ?_, fun hn => ?_, fun hp => ?_⟩
  · rw [ht]
    refine eq_of_parts ?_ ?_ ?_ ?_ ?_ ?_ ?_ ?_ ?_ ?_ ?_ ?_ ?_ <;> simp [hv, State.setRefSet]
  · have hasm : t.asm b = (v.sweep k).asm b := by rw [ht]; simp
    rw [hasm, asm_sweep, hv]
    rfl
  · rw [ht]
    refine sessionEnds_replied_form (dirtyForm_sweepDirties s (s.sweptKeys k) (592 + k)) d _ (fun h => ?_) ?_ (ht ▸ hrfs) hdirty
    · rcases List.mem_append.mp h with h | h
      · exact absurd (List.mem_range.mp (List.mem_filter.mp h).1) (by decide)
      · have hkey : 596 = 592 + k := List.mem_singleton.mp h
        omega
    · show (v.sweep k).ports = s.ports
      simp [hv, State.setRefSet]
  · rw [hhob, hsweep.2 fun hp => hn (hpocket.mp hp), hvhob]
  · have hdis : t.hob = (s.disturb .all).hob := by
      rw [hhob, hsweep.1 (hpocket.mpr hp)]
      exact disturb_hob_congr .all hvhob (fun _ => by rw [hv]; rfl)
    exact ⟨hdis, DisturbedBy.congr (disturbedBy_disturb s .all) rfl hdis (by rw [ht]; simp [hv, State.setRefSet])⟩

/-- A close that leaves the set as it was: the end of the session, and nothing else. -/
theorem close_uncalibrated {tag : Byte} {temp : Int} {d : SessionDone} (h : s.taken .P (.sessionClose temp) = some tag)
    (hnamed : namedAsm s.ocu (.sessionClose temp) = none)
    (hclose : closeSession temp s = (s.finishSession d, accept (.sessionDone d))) :
    ∃ t, exec (.sessionClose temp) s = .next t ∧
      t = { s with ocu := t.ocu, rfs := t.rfs, rst := t.rst, ports := t.ports } ∧
      SessionEnds s t s.rfs (Dirties s t) [] d (some (okReply tag false (.sessionDone d))) := by
  have hx : handler (.sessionClose temp) (s.touchNamed .P (.sessionClose temp)) =
      (s.finishSession d, acceptClamped false (.sessionDone d)) := by
    rw [touchNamed_of_none hnamed]
    exact hclose
  refine ⟨_, exec_accepted rfl h hx, ?_, sessionEnds_replied (l := []) (before := []) d _ (by simp) rfl rfl (dirties_nil rfl)⟩
  refine eq_of_parts ?_ ?_ ?_ ?_ ?_ ?_ ?_ ?_ ?_ ?_ ?_ ?_ ?_ <;> simp

/-- Settles O22, by the close that calibrates and the close that does not. -/
theorem calibrationWritesAndSweeps : Obligations.CalibrationWritesAndSweeps := by
  unfold Obligations.CalibrationWritesAndSweeps
  intro k kind l temp n new o d tag s h hk htemp hocu hd
  have htemp' : ¬((temp : Int) < 0 ∨ (600 : Int) < temp) := by omega
  refine ⟨fun hcal => ?_, fun hcal => ?_⟩
  · have hclose : namedAsm s.ocu (.sessionClose temp) = none ∧
        closeSession temp s = (((s.setRefSet k new).sweep k).finishSession d, accept (.sessionDone d)) := by
      rcases hcal with ⟨rfl, rfl, z, x, hz, rfl⟩ | ⟨lm, dm, rfl, rfl, a, b, hc, rfl⟩
      · refine ⟨by rw [hocu]; rfl, ?_⟩
        simp only [closeSession, hocu, if_neg htemp', closeZero, hz]
        rw [hd]
        rfl
      · refine ⟨by rw [hocu]; rfl, ?_⟩
        simp only [closeSession, hocu, if_neg htemp', closeSpan, hc]
        rw [hd]
        rfl
    obtain ⟨t, hexec, hset, hsets, hframe, hasm, hends, hno, hyes⟩ := close_calibrated h hk hclose.1 hclose.2
    refine ⟨t, hexec, hset, hsets, hframe, hasm, hends, fun hn => hno fun ⟨b, hb, hst⟩ => ?_, hyes⟩
    obtain ⟨h1, h2, h3⟩ := hn b hb
    rcases hst with h | h | h
    · exact h1 h
    · exact h2 h
    · exact h3 h
  · refine close_uncalibrated h ?_ ?_
    · rcases hcal with ⟨rfl, -⟩ | ⟨lm, dm, rfl, -⟩ <;> rw [hocu] <;> rfl
    · rcases hcal with ⟨rfl, rfl, rfl, hz⟩ | ⟨lm, dm, rfl, ⟨rfl, rfl, hc⟩ | ⟨rfl, hc⟩⟩
      · simp only [closeSession, hocu, if_neg htemp', closeZero, hz]
        rw [hd]
        rfl
      · simp only [closeSession, hocu, if_neg htemp', closeSpan, hc]
        rw [hd]
        rfl
      · simp only [closeSession, hocu, if_neg htemp', closeSpan, hc]
        rw [hd]
        rfl

end Sys2Proof.Machine
end

section
/-! PROOFS. WRITE_CELL and the pick list at the Crib Controller (O45, O46). -/

namespace Sys2Proof.Machine

open Sys2Proof

variable {s t : State}

theorem clampNat_eq_max {lo hi : Nat} (h : lo ≤ hi) (v : Nat) : clampNat lo hi v = max lo (min hi v) := by
  unfold clampNat
  split
  · omega
  · split <;> omega

theorem clampInt_eq_max {lo hi : Int} (h : lo ≤ hi) (v : Int) : clampInt lo hi v = max lo (min hi v) := by
  unfold clampInt
  split
  · omega
  · split <;> omega

/-- The profile that lawful arguments give (R116). -/
theorem profileOf_some {size unit form order factor auto : Nat} {datum : Int} {u : CellUnit} {f : RadiusForm} {o : ByteOrder}
    {q : Bool} (hsize : size ≤ 128) (hu : unitOf unit = some u) (hf : radiusFormOf form = some f)
    (ho : byteOrderOf order = some o) (hq : autoRequestOf auto = some q) :
    profileOf size unit form order datum factor auto =
      some ⟨size, u, f, o, max (-1000000) (min 1000000 datum), max 4 (min 16 factor), q⟩ := by
  unfold profileOf
  rw [hu, hf, ho, hq, decide_eq_true hsize]
  dsimp only
  rw [clampInt_eq_max (by decide), clampNat_eq_max (by decide)]

/-- Settles O45, by the one equation of an accepted WRITE_CELL and the effect of a signal. -/
theorem profileIsWrittenWhole : Obligations.ProfileIsWrittenWhole := by
  unfold Obligations.ProfileIsWrittenWhole
  refine ⟨fun c size unit form order factor auto datum u f o q pr tag s h hc hsize hu hf ho hq hpockets hpicks hpr => ?_,
    fun g s => ⟨disturbedBy_disturb s g, disturb_eq s g⟩⟩
  obtain ⟨hc16, pr', hpr', hx⟩ := (writeCell_checked s c size unit form order factor auto datum).2 (by
    have hany : (((List.range 128).any fun x => decide (size ≤ x) && decide (s.pocket c x ≠ .empty)) ||
        s.picks.any fun k => decide (k.cell = c) && decide (size ≤ k.pocket)) = false := by
      rw [Bool.or_eq_false_iff, List.any_eq_false, List.any_eq_false]
      refine ⟨fun p _ => ?_, fun k hk => ?_⟩
      · by_cases hp : size ≤ p
        · simp [hpockets p hp]
        · simp [hp]
      · by_cases hkc : k.cell = c
        · simp [hpicks k hk hkc]
        · simp [hkc]
    rw [hany]
    simp [firstOf, hc, hsize, hu, hf, ho, hq])
  rw [profileOf_some hsize hu hf ho hq, ← hpr] at hpr'
  cases hpr'
  obtain ⟨v, hv⟩ : ∃ v, v = (s.setProfile c pr).disturb (.cell c) := ⟨_, rfl⟩
  have hvctb : v.ctb = (s.setProfile c pr).ctb := by rw [hv]; simp
  have hvrst : v.rst = s.rst := by rw [hv]; simp [State.setProfile]
  rw [← hv] at hx
  obtain ⟨x, hx'⟩ : ∃ x, x = okReply tag (decide (pr.datum ≠ datum) || decide (pr.factor ≠ factor)) (.profile pr) := ⟨_, rfl⟩
  have hexec := exec_accepted rfl h (by rw [touchNamed_of_none rfl]; exact hx)
  rw [← hx'] at hexec
  have hctb : ((v.dirty (cellKey c)).replied .C x).ctb = (s.setProfile c pr).ctb := by simp [hvctb]
  have hcell : ∀ e, ((v.dirty (cellKey c)).replied .C x).cell e = (s.setProfile c pr).cell e := fun e => by
    simp only [State.cell, hctb]
  refine ⟨_, hexec, ?_, fun e he => ?_, fun e p => ?_, ?_, ?_, ?_, ?_⟩
  · rw [State.profile, hcell]
    exact (State.setProfile_profile s c c pr).trans (if_pos ⟨rfl, hc16⟩)
  · rw [State.profile, hcell]
    exact (State.setProfile_profile s c e pr).trans (if_neg fun h => he h.1.symm)
  · rw [State.pocket, hcell]
    exact State.setProfile_pocket s c e p pr
  · rw [State.picks, hctb]
    rfl
  · exact dirties_one (u := v) hvrst (by simp [cellKey]) (by simp)
  · refine DisturbedBy.congr (disturbedBy_disturb (s.setProfile c pr) (.cell c)) rfl ?_ ?_
    · rw [← hv]; simp
    · rw [← hv]; simp
  · rw [hx']
    refine eq_of_parts ?_ ?_ ?_ ?_ ?_ ?_ ?_ ?_ ?_ ?_ ?_ ?_ ?_ <;> simp [hv, State.setProfile]

/-- Settles O46, by the accepted form of each request. -/
theorem toolRequestsJoinAndLeave : Obligations.ToolRequestsJoinAndLeave := by
  unfold Obligations.ToolRequestsJoinAndLeave
  refine fun c p f st tag s hc hp => ⟨fun h hf hf' hsize hst hpicks hlen => ?_, fun k h hk hne => ?_⟩
  · have hnone : findPick s.picks c p = none := List.find?_eq_none.mpr fun k hk => by simpa [Pick.names] using hpicks k hk
    have hstate : (s.pocket c p).isReserved = false ∧ (s.pocket c p).pickState = st := by
      rcases hst with ⟨he, rfl⟩ | ⟨⟨a, ha⟩, rfl⟩
      · simp [he, Pocket.isReserved, Pocket.pickState]
      · simp [ha, Pocket.isReserved, Pocket.pickState]
    obtain ⟨-, -, hx⟩ := (requestTool_checked s c p f).2 (by
      simp only [firstOf_eq_none, List.forall_mem_cons, List.not_mem_nil, false_implies, implies_true, and_true,
        decide_eq_false_iff_not, hnone, hstate.1]
      refine ⟨by omega, by omega, by omega, rfl, by omega⟩)
    rw [hstate.2] at hx
    exact exec_accepted rfl h (by rw [touchNamed_of_none rfl]; exact hx)
  · obtain ⟨k', hk', -, hx⟩ := (withdrawRequest_checked s c p).2 (by
      simp only [firstOf_eq_none, List.forall_mem_cons, List.not_mem_nil, false_implies, implies_true, and_true,
        decide_eq_false_iff_not, hk]
      refine ⟨by omega, rfl, by simpa using hne⟩)
    rw [hk] at hk'
    cases hk'
    have hremove : removePick s.picks c p = s.picks.filter fun x => ¬ (x.cell = c ∧ x.pocket = p) :=
      List.filter_congr fun x _ => by simp [Pick.names]
    rw [hremove] at hx
    exact exec_accepted rfl h (by rw [touchNamed_of_none rfl]; exact hx)

end Sys2Proof.Machine
end

section
/-! PROOFS. REGISTER, RETURN_FROM_REGRIND, RETIRE and SET_LIFE (O36, O37, O43). -/

namespace Sys2Proof.Machine

open Sys2Proof

variable {s t : State} {a : Nat} {i : Instr} {tag : Byte} {r : AsmRecord} {c : Bool} {b : Body}

/-! ### A record written by a request of port C that names it -/

/-- A record as a request of port C that names it finds it (R14). -/
theorem touch_asm_C (s : State) (ha : a < 512) : (s.touch .C a).asm a = { s.asm a with idle := idleAfterC (s.asm a) } :=
  touch_asm .C a ha

/-- A record written and not dirtied. -/
theorem record_written (ha : a < 512) (hi : requestPort i = some .C) (hn : namedAsm s.ocu i = some a)
    (h : s.taken .C i = some tag) (hx : handler i (s.touch .C a) = ((s.touch .C a).setAsm a r, acceptClamped c b)) :
    ∃ t, exec i s = .next t ∧ OthersStay s t a ∧ t.asm a = r ∧ t.rst = s.rst ∧
      t = { s.replied .C (okReply tag c b) with atb := t.atb, rst := t.rst } := by
  rw [touch_setAsm] at hx
  refine ⟨_, exec_accepted hi h (by rw [touchNamed_of_some hn]; exact hx), fun e he => ?_, ?_, by simp, ?_⟩
  · simp [State.setAsm_asm, Ne.symm he]
  · simp [State.setAsm_asm, ha]
  · refine eq_of_parts ?_ ?_ ?_ ?_ ?_ ?_ ?_ ?_ ?_ ?_ ?_ ?_ ?_ <;> simp [State.setAsm]

/-- A record written and dirtied. -/
theorem record_dirtied (ha : a < 512) (hi : requestPort i = some .C) (hn : namedAsm s.ocu i = some a)
    (h : s.taken .C i = some tag) (hx : handler i (s.touch .C a) = (((s.touch .C a).setAsm a r).dirty a, acceptClamped c b)) :
    ∃ t, exec i s = .next t ∧ OthersStay s t a ∧ t.asm a = r ∧ Dirties s t [a] ∧
      t = { s.replied .C (okReply tag c b) with atb := t.atb, rst := t.rst } := by
  rw [touch_setAsm] at hx
  refine ⟨_, exec_accepted hi h (by rw [touchNamed_of_some hn]; exact hx), fun e he => ?_, ?_,
    dirties_one (u := s.setAsm a r) rfl (by simp) (by simp), ?_⟩
  · simp [State.setAsm_asm, Ne.symm he]
  · simp [State.setAsm_asm, ha]
  · refine eq_of_parts ?_ ?_ ?_ ?_ ?_ ?_ ?_ ?_ ?_ ?_ ?_ ?_ ?_ <;> simp [State.setAsm]

/-- A request of port C on a record that its block refuses: the reply, and the idle timer of the record. -/
theorem record_refused {st : Status} (hi : requestPort i = some .C) (hn : namedAsm s.ocu i = some a)
    (h : s.taken .C i = some tag) (hx : handler i (s.touch .C a) = (s.touch .C a, refuse st)) :
    exec i s = .next ((s.setAsm a { s.asm a with idle := idleAfterC (s.asm a) }).replied .C ⟨st, false, tag, .empty⟩) := by
  have hkeep := handler_port_keep h
  rw [touchNamed_of_some hn, hx] at hkeep
  have hwritten : s.setAsm a { s.asm a with idle := idleAfterC (s.asm a) } = s.touch .C a := (touch_eq .C a).symm
  rw [exec_taken hi h, touchNamed_of_some hn, hx, hwritten]
  exact congrArg _ (answer_replied tag _ hkeep rfl)

theorem free_unmeasured : AsmState.unmeasured.free := ⟨nofun, nofun, nofun⟩

theorem free_vacant : AsmState.vacant.free := ⟨nofun, nofun, nofun⟩

/-! ### REGISTER and RETURN_FROM_REGRIND (R96, R98) -/

/-- Settles O36, by the one record that each request writes. -/
theorem recordsBeginAnew : Obligations.RecordsBeginAnew := by
  unfold Obligations.RecordsBeginAnew
  intro a f nl nr mode limit warn l w m tag s ha hholder
  have ha' : a < 512 := by omega
  obtain ⟨u, hu⟩ : ∃ u, u = s.touch .C a := ⟨_, rfl⟩
  have huasm : u.asm a = { s.asm a with idle := idleAfterC (s.asm a) } := by rw [hu, touch_asm_C s ha']
  refine ⟨fun h hm hf hnl hnr hst hl hw => ?_, fun h hop hst hstock => ?_⟩
  · obtain ⟨-, -, m', hm', hx⟩ := (registerAsm_checked u a f nl nr mode limit warn).2 (by
      have hf' : (f.any fun x => decide (x < 1 ∨ 255 < x)) = false := by
        cases f with
        | none => rfl
        | some x =>
          have hx := hf x rfl
          simp
          omega
      have hnl' : (nl.any fun x => decide (4000000 < x.1 ∨ 4000000 < x.2)) = false := by
        cases nl with
        | none => rfl
        | some x => simpa using hnl x.1 x.2 rfl
      have hnr' : (nr.any fun x => decide (500000 < x.1 ∨ 500000 < x.2)) = false := by
        cases nr with
        | none => rfl
        | some x => simpa using hnr x.1 x.2 rfl
      have hlock : (u.asm a).holder ≠ some .P := by rw [huasm]; exact hholder
      have hstate : (u.asm a).state = .vacant ∨ (u.asm a).state = .lost := by rw [huasm]; exact hst
      rw [hf', hnl', hnr', hm]
      simp [firstOf, hlock, hstate, ha])
    rw [hm] at hm'
    cases hm'
    have hl' : lifeLimitOf limit = l := by rw [hl, lifeLimitOf, clampNat_eq_max (by decide)]; omega
    have hw' : warnOf warn = w := by rw [hw, warnOf, clampNat_eq_max (by decide)]; omega
    have hfree : (u.asm a).state.free := by
      rw [huasm]
      rcases hst with h | h <;> exact ⟨by simp [h], by simp [h], by simp [h]⟩
    rw [hl', hw', changeAsm_unpocketed hfree free_unmeasured, hu] at hx
    have hbool : (decide (l ≠ limit) || decide (w ≠ warn)) = decide (l ≠ limit ∨ w ≠ warn) := by simp
    rw [hbool] at hx
    obtain ⟨t, hexec, hothers, hasm, hdirty, ht⟩ := record_dirtied ha' rfl rfl h hx
    refine ⟨t, hexec, hothers, hasm.trans ?_, hdirty, ht⟩
    rw [← hu, huasm]
    rfl
  · obtain ⟨-, -, -, -, hx⟩ := (returnFromRegrind_checked u a).2 (by
      have hop' : u.inOperation a = false := by rw [hu]; simpa using hop
      have hlock : (u.asm a).holder ≠ some .P := by rw [huasm]; exact hholder
      have hstate : (u.asm a).state = .regrind ∧ (u.asm a).stock = none := by rw [huasm]; exact ⟨hst, hstock⟩
      simp [firstOf, hlock, hstate, ha, hop'])
    have hfree : (u.asm a).state.free := by
      rw [huasm]
      exact ⟨by simp [hst], by simp [hst], by simp [hst]⟩
    rw [changeAsm_unpocketed hfree free_unmeasured, hu] at hx
    obtain ⟨t, hexec, hothers, hasm, hdirty, ht⟩ := record_dirtied ha' rfl rfl h hx
    refine ⟨t, hexec, hothers, hasm.trans ?_, hdirty, ht⟩
    rw [← hu, huasm]
    simp [AsmRecord.reground, AsmRecord.enter, AsmState.mayMeasure, AsmState.mayReject, AsmState.mayStock, AsmState.mayBind, hstock]

/-! ### RETIRE (R97) -/

theorem setDrawer_setDrawer (s : State) (d : Nat) (x y : Drawer) : (s.setDrawer d x).setDrawer d y = s.setDrawer d y := by
  show { s with drc := { s.drc with drawers := tset (tset s.drc.drawers d x) d y } } = _
  rw [tset_tset]
  rfl

theorem setDrawer_notify (s : State) (d : Nat) (x : Drawer) (p : Port) (n : Notice) :
    (s.setDrawer d x).notify p n = (s.notify p n).setDrawer d x := by
  rw [notify_eq, notify_eq]
  cases p <;> rfl

theorem setDrawer_same (s : State) {d : Nat} (hd : d < 64) (x : Drawer) : (s.setDrawer d x).drawer d = x := by
  simp [State.setDrawer_drawer, hd]

/-- The notice of a comparison of presence with stock (R86). -/
def mismatchNotices (r : Drawer) (d : Nat) : List (Port × Notice) :=
  if r.agrees then [] else [(.C, .stockMismatch d r.stock r.present)]

/-- The comparison of a drawer that was just written. -/
theorem comparePresence_setDrawer (s : State) {d : Nat} (hd : d < 64) (r : Drawer) :
    (s.setDrawer d r).comparePresence d = (s.placed (mismatchNotices r d)).setDrawer d { r with mismatch := !r.agrees } := by
  unfold State.comparePresence mismatchNotices
  rw [setDrawer_same s hd]
  dsimp only
  rw [setDrawer_setDrawer, setDrawer_setDrawer, setDrawer_notify]
  cases r.agrees <;> rfl

/-- A drawer that has lost its stock. -/
def Drawer.cleared (r : Drawer) : Drawer :=
  { r with stock := none, mismatch := if r.state = .closed then r.present else r.mismatch }

/-- The notices of a drawer that loses its stock. -/
def clearNotices (r : Drawer) (d : Nat) : List (Port × Notice) :=
  if r.state = .closed ∧ r.present = true then [(.C, .stockMismatch d none true)] else []

/-- What the loss of a drawer's stock writes, before the drawer is dirtied. -/
theorem clearStock_eq (s : State) {d : Nat} (hd : d < 64) : s.clearStock d =
    ((s.placed (clearNotices (s.drawer d) d)).setDrawer d (s.drawer d).cleared).commitDrawer d (s.drawer d) := by
  unfold State.clearStock State.setStock
  dsimp only
  congr 1
  unfold clearNotices Drawer.cleared
  by_cases hc : (s.drawer d).state = .closed
  · rw [if_pos hc, comparePresence_setDrawer s hd]
    cases hp : (s.drawer d).present <;> simp [mismatchNotices, Drawer.agrees, hc]
  · rw [if_neg hc, if_neg hc, if_neg fun h => hc h.1]
    rfl

/-- A drawer written, for the views: that of its own key alone. -/
theorem setDrawer_viewOf (s : State) (d : Nat) (x : Drawer) {k : Nat} (hk : k < 512) : (s.setDrawer d x).viewOf k = s.viewOf k := by
  unfold State.viewOf
  rw [if_pos hk, if_pos hk]
  rfl

@[simp] theorem placed_viewOf (s : State) (l : List (Port × Notice)) (k : Nat) : (s.placed l).viewOf k = s.viewOf k := by
  induction l generalizing s with
  | nil => rfl
  | cons n l ih => rw [placed_cons, ih, notify_viewOf]

/-- The drawer dirtied when its stock or its mark changed (R68), behind what was dirtied before. -/
theorem commitDrawer_dirties {l : List Nat} {d : Nat} {old : Drawer} (h : Dirties s t l) (hd : 512 + d ∉ l) :
    Dirties s (t.commitDrawer d old) (if (t.drawer d).stock = old.stock ∧ (t.drawer d).mismatch = old.mismatch then l
      else l ++ [512 + d]) := by
  unfold State.commitDrawer
  split
  · exact h
  · exact h.snoc hd

/-- Settles O37, by the record that is written and the drawer that loses its stock. -/
theorem retireEmptiesTheRecord : Obligations.RetireEmptiesTheRecord := by
  unfold Obligations.RetireEmptiesTheRecord
  intro a tag s h ha hholder hop
  have ha' : a < 512 := by omega
  obtain ⟨u, hu⟩ : ∃ u, u = s.touch .C a := ⟨_, rfl⟩
  have huasm : u.asm a = { s.asm a with idle := idleAfterC (s.asm a) } := by rw [hu, touch_asm_C s ha']
  have hop' : u.inOperation a = false := by rw [hu]; simpa using hop
  have hlock : (u.asm a).holder ≠ some .P := by rw [huasm]; exact hholder
  have hudrawer : ∀ d, u.drawer d = s.drawer d := fun d => by rw [hu]; simp
  refine ⟨fun d hstock hmark => ?_, fun hst => ?_⟩
  · refine record_refused rfl rfl h ?_
    rw [← hu]
    refine (retireAsm_checked u a).1 _ ?_
    have hustock : (u.asm a).stock = some d := by rw [huasm]; exact hstock
    simp [firstOf, ha, hlock, hop', hustock, hudrawer, hmark]
  have hust : (u.asm a).state = .unmeasured ∨ (u.asm a).state = .quarantined ∨ (u.asm a).state = .ready ∨
      (u.asm a).state = .regrind ∨ (u.asm a).state = .lost := by rw [huasm]; exact hst
  have hfree : (u.asm a).state.free := by
    rcases hust with h | h | h | h | h <;> rw [h] <;> exact ⟨nofun, nofun, nofun⟩
  have hretired : (u.asm a).retired = { s.asm a with
      state := .vacant, prior := none, family := none, nomLength := none, nomRadius := none, geometry := none, facts := none,
      rejected := none, staged := none, stock := none, binding := none, idle := idleAfterC (s.asm a) } := by
    rw [huasm]
    rfl
  refine ⟨fun hstock => ?_, fun d hstock hd hmark => ?_⟩
  · have hustock : (u.asm a).stock = none := by rw [huasm]; exact hstock
    obtain ⟨-, -, -, hx⟩ := (retireAsm_checked u a).2 (by simp [firstOf, ha, hlock, hop', hustock, hust])
    rw [hustock] at hx
    dsimp only at hx
    rw [changeAsm_unpocketed hfree free_vacant, hu] at hx
    obtain ⟨t, hexec, hothers, hasm, hdirty, ht⟩ := record_dirtied ha' rfl rfl h hx
    refine ⟨t, hexec, hothers, hasm.trans ?_, hdirty, ht⟩
    rw [← hu, hretired]
    simp [hstock]
  · have hd' : d < 64 := by omega
    have hustock : (u.asm a).stock = some d := by rw [huasm]; exact hstock
    obtain ⟨-, -, -, hx⟩ := (retireAsm_checked u a).2 (by simp [firstOf, ha, hlock, hop', hustock, hust, hudrawer, hmark])
    rw [hustock] at hx
    dsimp only at hx
    rw [changeAsm_unpocketed hfree free_vacant, hretired, hu, touch_setAsm] at hx
    obtain ⟨r, hr⟩ : ∃ r : AsmRecord, r = { s.asm a with
      state := .vacant, prior := none, family := none, nomLength := none, nomRadius := none, geometry := none, facts := none,
      rejected := none, staged := none, stock := none, binding := none, idle := idleAfterC (s.asm a) } := ⟨_, rfl⟩
    rw [← hr] at hx ⊢
    obtain ⟨w, hw⟩ : ∃ w, w = (s.setAsm a r).dirty a := ⟨_, rfl⟩
    have hwdirty : Dirties s w [a] := dirties_one (u := s.setAsm a r) rfl (by rw [hw]) (by rw [hw]; simp)
    have hwdrawer : ∀ e, w.drawer e = s.drawer e := fun e => by rw [hw]; simp
    rw [← hw, clearStock_eq w hd', hwdrawer] at hx
    obtain ⟨v, hv⟩ : ∃ v, v = (w.placed (clearNotices (s.drawer d) d)).setDrawer d (s.drawer d).cleared := ⟨_, rfl⟩
    have hvdirty : Dirties s v [a] := hwdirty.congr (by rw [hv]; simp) fun k hk => by
      rw [hv, setDrawer_viewOf _ _ _ (List.mem_singleton.mp hk ▸ ha'), placed_viewOf]
    rw [← hv] at hx
    have hvdrawer : ∀ e, v.drawer e = if d = e ∧ d < 64 then (s.drawer d).cleared else s.drawer e := fun e => by
      rw [hv, State.setDrawer_drawer]
      simp [hwdrawer]
    refine ⟨_, exec_accepted rfl h (by rw [touchNamed_of_some rfl]; exact hx), fun e he => ?_, ?_, ?_, fun e he => ?_, ?_, ?_,
      ?_, ?_, ?_⟩
    · simp [hv, hw, State.setAsm_asm, Ne.symm he]
    · simp [hv, hw, State.setAsm_asm, ha']
    · simp [hvdrawer, hd', Drawer.cleared]
    · simp [hvdrawer, Ne.symm he]
    · simp [hv, hw]
    · simp [hv, hw]
    · obtain ⟨x, hx⟩ : ∃ x, x = v.commitDrawer d (s.drawer d) := ⟨_, rfl⟩
      have hxdirty := commitDrawer_dirties (old := s.drawer d) hvdirty (d := d) (by simp; omega)
      rw [← hx] at hxdirty ⊢
      have hxdrawer : (x.replied .C (okReply tag false .empty)).drawer d = v.drawer d := by simp [hx]
      rw [hxdrawer]
      exact hxdirty.congr (by simp) fun k _ => by simp
    · refine eq_of_parts ?_ ?_ ?_ ?_ ?_ ?_ ?_ ?_ ?_ ?_ ?_ ?_ ?_ <;> simp [hv, hw]
    · simp [hv, hw, clearNotices]

/-! ### SET_LIFE (R144 to R146) -/

theorem stagesLife_iff {x : AsmState} : x.stagesLife = true ↔ x = .issuing ∨ x = .issued ∨ x = .exhausted := by
  cases x <;> simp [AsmState.stagesLife]

theorem warned_withLife (r : AsmRecord) (m : LifeMode) (l w : Nat) :
    r.withLife m l w = { r with mode := m, limit := l, warn := w, staged := none, warned := decide (l * 8 * w ≤ r.used * 100) } :=
  rfl

/-- When the life fields applied at once change the persistent view. -/
theorem withLife_viewChanged (r : AsmRecord) (m : LifeMode) (l w : Nat) : r.viewChanged (r.withLife m l w) =
    decide ((m, l, w, (none : Option (Nat × Nat)), decide (l * 8 * w ≤ r.used * 100)) ≠ (r.mode, r.limit, r.warn, r.staged, r.warned)) := by
  rw [warned_withLife]
  unfold AsmRecord.viewChanged
  rw [decide_eq_decide, not_iff_not]
  simp only [AsmRecord.view, AsmRecord.mk.injEq, Prod.mk.injEq, true_and, and_true]
  grind

/-- When a staged limit changes the persistent view. -/
theorem staged_viewChanged (r : AsmRecord) (x : Option (Nat × Nat)) :
    r.viewChanged { r with staged := x } = decide (r.staged ≠ x) := by
  unfold AsmRecord.viewChanged
  rw [decide_eq_decide, not_iff_not]
  simp only [AsmRecord.view, AsmRecord.mk.injEq, true_and, and_true]

theorem remaining_eq (r : AsmRecord) : r.remaining = remainingOf r.mode r.limit r.used := by
  unfold AsmRecord.remaining remainingOf AsmRecord.wornOut AsmRecord.units
  cases r.mode <;> simp

/-- A record written, and dirtied when its persistent view changed in more than used (R22). -/
theorem record_committed {v : Bool} (ha : a < 512) (hi : requestPort i = some .C) (hn : namedAsm s.ocu i = some a)
    (h : s.taken .C i = some tag) (hv : ((s.touch .C a).asm a).viewChanged r = v)
    (hx : handler i (s.touch .C a) =
      (((s.touch .C a).setAsm a r).commitChange a ((s.touch .C a).asm a), acceptClamped c b)) :
    ∃ t, exec i s = .next t ∧ OthersStay s t a ∧ t.asm a = r ∧ (v = false → t.rst = s.rst) ∧ (v = true → Dirties s t [a]) ∧
      t = { s.replied .C (okReply tag c b) with atb := t.atb, rst := t.rst } := by
  have hnew : ((s.touch .C a).setAsm a r).asm a = r := by simp [State.setAsm_asm, ha]
  unfold State.commitChange at hx
  rw [hnew, hv] at hx
  cases v with
  | false =>
    obtain ⟨t, hexec, hothers, hasm, hrst, ht⟩ := record_written ha hi hn h hx
    exact ⟨t, hexec, hothers, hasm, fun _ => hrst, nofun, ht⟩
  | true =>
    obtain ⟨t, hexec, hothers, hasm, hdirty, ht⟩ := record_dirtied ha hi hn h hx
    exact ⟨t, hexec, hothers, hasm, nofun, fun _ => hdirty, ht⟩

/-- Settles O43, by the state of the assembly: applied, refused, or staged. -/
theorem setLifeAppliesOrStages : Obligations.SetLifeAppliesOrStages := by
  unfold Obligations.SetLifeAppliesOrStages
  intro a mode limit warn l w m warned tag r s h ha hm hr hvacant hl hw hwarned
  subst hr
  have ha' : a < 512 := by omega
  obtain ⟨u, hu⟩ : ∃ u, u = s.touch .C a := ⟨_, rfl⟩
  have huasm : u.asm a = { s.asm a with idle := idleAfterC (s.asm a) } := by rw [hu, touch_asm_C s ha']
  have hl' : lifeLimitOf limit = l := by rw [hl, lifeLimitOf, clampNat_eq_max (by decide)]; omega
  have hw' : warnOf warn = w := by rw [hw, warnOf, clampNat_eq_max (by decide)]; omega
  have hbool : (decide (l ≠ limit) || decide (w ≠ warn)) = decide (l ≠ limit ∨ w ≠ warn) := by simp
  have huvacant : (u.asm a).state ≠ .vacant := by rw [huasm]; exact hvacant
  have hustate : (u.asm a).state = (s.asm a).state := by rw [huasm]
  have humode : (u.asm a).mode = (s.asm a).mode := by rw [huasm]
  have hchecked := setLife_checked u a mode limit warn
  rw [hl', hw', hbool, hm] at hchecked
  refine ⟨fun h1 h2 h3 => ?_, fun hst => ⟨fun hne => ?_, fun heq => ?_⟩⟩
  · obtain ⟨-, m', r', b, hm', hr', hb, hx⟩ := hchecked.2 (by simp [firstOf, ha, hvacant, hustate, h1, h2, h3])
    cases hm'
    have hstages : (u.asm a).state.stagesLife = false := by
      rw [hustate]
      exact Bool.eq_false_iff.mpr fun h => by
        rcases stagesLife_iff.mp h with h | h | h
        · exact h1 h
        · exact h2 h
        · exact h3 h
    rw [hstages] at hr' hb
    have hfree : (u.asm a).state.free := by rw [hustate]; exact ⟨h1, h2, h3⟩
    have hfree' : r'.state.free := by rw [hr']; exact hfree
    rw [changeAsm_unpocketed hfree hfree', hu] at hx
    obtain ⟨t, hexec, hothers, hasm, hrst, hdirty, ht⟩ := record_committed ha' rfl rfl h rfl hx
    have hrec : r' = { (s.asm a).withLife m l w with idle := idleAfterC (s.asm a) } := by rw [hr', huasm]; rfl
    have hview : ((s.touch .C a).asm a).viewChanged r' = decide ((m, l, w, (none : Option (Nat × Nat)), warned) ≠
        ((s.asm a).mode, (s.asm a).limit, (s.asm a).warn, (s.asm a).staged, (s.asm a).warned)) := by
      rw [← hu, huasm, hrec, hwarned]
      exact withLife_viewChanged (s.asm a) m l w
    rw [hview] at hrst hdirty
    refine ⟨t, hexec, hothers, ?_, fun heq => hrst (by simp [heq]), fun hne => hdirty (decide_eq_true hne), ?_⟩
    · rw [hasm, hrec, hwarned]
      rfl
    · rw [ht, hb, remaining_eq, hrec, hwarned]
      rfl
  · refine record_refused rfl rfl h ?_
    rw [← hu]
    refine hchecked.1 _ ?_
    simp [firstOf, ha, hvacant, hustate, hst, humode, hne]
  · obtain ⟨-, m', r', b, hm', hr', hb, hx⟩ := hchecked.2 (by simp [firstOf, ha, huvacant, humode, heq])
    have hstages : (u.asm a).state.stagesLife = true := by rw [hustate]; exact stagesLife_iff.mpr hst
    rw [hstages] at hr' hb
    have hsame : (u.asm a).handoffChanged r' = false := by
      rw [hr']
      simp [AsmRecord.handoffChanged, AsmRecord.markSet]
    rw [changeAsm_same a r' hsame, hu] at hx
    obtain ⟨t, hexec, hothers, hasm, hrst, hdirty, ht⟩ := record_committed ha' rfl rfl h rfl hx
    have hrec : r' = { s.asm a with staged := some (l, w), idle := idleAfterC (s.asm a) } := by rw [hr', huasm]; rfl
    have hview : ((s.touch .C a).asm a).viewChanged r' = decide ((s.asm a).staged ≠ some (l, w)) := by
      rw [← hu, huasm, hrec]
      exact staged_viewChanged (s.asm a) (some (l, w))
    rw [hview] at hrst hdirty
    refine ⟨t, hexec, hothers, hasm.trans hrec, fun heq => hrst (by simp [heq]), fun hne => hdirty (by simpa using hne), ?_⟩
    rw [ht, hb, hrec]
    rfl

end Sys2Proof.Machine
end

section
/-! PROOFS. The lines and the switches of the drawers: openings outside a pulse, closes with no operation (O29, O31, O32). -/

namespace Sys2Proof.Machine

open Sys2Proof

variable {s t w : State} {d n oc : Nat}

/-! ### Lines (R60, R70, R79, R189, R199) -/

theorem attention_iff (s : State) (p : Port) :
    s.attention p = true ↔ (s.port p).notices ≠ [] ∧ s.phase ≠ .held ∧ s.phase ≠ .off := by
  unfold State.attention
  cases s.phase <;> simp

theorem driverEnable_iff (s : State) :
    s.driverEnable = true ↔ (∃ e, s.drc.driver.pulsing = some e) ∧ (s.phase = .running ∨ s.phase = .drain) := by
  unfold State.driverEnable
  cases s.phase <;> simp [Phase.active, Option.isSome_iff_exists]

theorem place_notices_ne_nil (x : PortState) (n : Notice) : (x.place n).notices ≠ [] := by
  unfold PortState.place
  by_cases h : x.notices.length < 16
  · simp [h]
  · intro he
    simp [h] at he
    simp [he] at h

/-- The reset input asserted holds the part. -/
theorem assertReset_phase (o : PageOutcome) (h : s.phase ≠ .off) : (s.assertReset o).phase = .held := by
  unfold State.assertReset
  cases hp : s.phase with
  | off => exact absurd hp h
  | held => exact hp
  | running => simp
  | drain => simp
  | load c => simp

/-- Settles O32, by the definition of each line. -/
theorem linesFollowTheirLevels : Obligations.LinesFollowTheirLevels := by
  unfold Obligations.LinesFollowTheirLevels
  intro d b p s
  refine ⟨fun hheld hoff => ?_, fun hstill => ?_, rfl, rfl, attention_iff s p, driverEnable_iff s, fun n => ?_, fun t ht hoff => ?_⟩
  · rw [exec_event rfl]
    show Host.Outcome.next (s.seePresence d b) = _
    unfold State.seePresence State.whileLoading
    cases hp : s.phase with
    | off => exact absurd hp hoff
    | held => exact absurd hp hheld
    | running => rfl
    | drain => rfl
    | load c => rfl
  · rw [exec_event rfl]
    show Host.Outcome.next (s.seePresence d b) = _
    unfold State.seePresence State.whileLoading
    rcases hstill with hp | hp <;> rw [hp] <;> rfl
  · rw [attention_iff, notify_port, if_pos rfl]
    simp [place_notices_ne_nil]
  · rw [exec_event rfl] at ht
    cases ht
    have hheld : (s.assertReset .former).phase = .held := assertReset_phase _ hoff
    have hattention : (s.assertReset .former).attention p = false := by
      unfold State.attention
      rw [hheld]
    have henable : (s.assertReset .former).driverEnable = false := by
      unfold State.driverEnable
      rw [hheld]
      rfl
    exact ⟨hattention, henable⟩

/-! ### Openings outside a pulse (R71) -/

/-- The drawer as an opening leaves it. -/
def Drawer.openedNow (r : Drawer) : Drawer :=
  { r with state := .opened, attempts := 0, waitTimer := 0, openTimer := 0, levelOpen := true }

/-- The open level written and the drawer opened, other parts of the Drawer Controller written between. -/
theorem openDrawer_setOpenLevel (s : State) (hd : d < 64) :
    (s.setOpenLevel d true).openDrawer d = s.setDrawer d (s.drawer d).openedNow := by
  unfold State.openDrawer State.setOpenLevel
  rw [setDrawer_same s hd, setDrawer_setDrawer]
  rfl

theorem seeOpen_of_active (h : s.phase.active = true) (hl : (s.drawer d).levelOpen = false) :
    s.seeOpen d = (s.setOpenLevel d true).openEvent d := by
  unfold State.seeOpen
  dsimp only
  rw [if_pos h, if_neg (by simp [hl])]

theorem seeOpen_of_load {c : Cause} (h : s.phase = .load c) : s.seeOpen d = s.setOpenLevel d true := by
  unfold State.seeOpen State.whileLoading
  simp [h, Phase.active]

theorem seeOpen_stays (h : s.phase.active = true ∧ (s.drawer d).levelOpen = true ∨ s.phase = .held ∨ s.phase = .off) :
    s.seeOpen d = s := by
  unfold State.seeOpen State.whileLoading
  rcases h with ⟨h, hl⟩ | h | h
  · simp [h, hl]
  · simp [h, Phase.active]
  · simp [h, Phase.active]

/-- A drawer at rest forced open. -/
theorem openEvent_forced (s : State) (hd : d < 64) (h : (s.drawer d).state = .closed ∨ (s.drawer d).state = .jammed) :
    (s.setOpenLevel d true).openEvent d = (s.setDrawer d (s.drawer d).openedNow).placed
      [(.C, .drawerForced d (s.drawer d).state (s.drawer d).stock)] := by
  have hlevel : (s.setOpenLevel d true).drawer d = { s.drawer d with levelOpen := true } := setDrawer_same s hd _
  unfold State.openEvent
  rw [openDrawer_setOpenLevel s hd, hlevel]
  rcases h with h | h <;> simp only [h] <;> rfl

/-- A drawer of the release set opened outside a pulse: it leaves the release queue. -/
theorem openEvent_waiting (s : State) (hd : d < 64) (h : (s.drawer d).state.releasing = true) (hp : (s.drawer d).state ≠ .pulsing) :
    ∃ q, q = (if (s.drawer d).state = .queued then s.drc.queue.erase d else s.drc.queue) ∧
      (s.setOpenLevel d true).openEvent d = (((s.setReleaseQueue q).setDrawer d (s.drawer d).openedNow).placed
        [(.C, .drawerOpened d (s.drawer d).attempts false)]).reportOpened d false := by
  have hlevel : (s.setOpenLevel d true).drawer d = { s.drawer d with levelOpen := true } := setDrawer_same s hd _
  have hopen : ∀ q, ((s.setOpenLevel d true).setReleaseQueue q).openDrawer d =
      (s.setReleaseQueue q).setDrawer d (s.drawer d).openedNow := fun q => openDrawer_setOpenLevel (s.setReleaseQueue q) hd
  refine ⟨_, rfl, ?_⟩
  unfold State.openEvent
  rw [hlevel]
  cases hs : (s.drawer d).state with
  | queued =>
    simp only [hs, if_true]
    exact congrArg (fun x => (State.notify x .C _).reportOpened d false) (hopen _)
  | retryWait =>
    rw [if_neg nofun]
    simp only [hs]
    exact congrArg (fun x => (State.notify x .C _).reportOpened d false) (hopen s.drc.queue)
  | backoff =>
    rw [if_neg nofun]
    simp only [hs]
    exact congrArg (fun x => (State.notify x .C _).reportOpened d false) (hopen s.drc.queue)
  | pulsing => exact absurd hs hp
  | closed => rw [hs] at h; cases h
  | opened => rw [hs] at h; cases h
  | jammed => rw [hs] at h; cases h

/-- Settles O29, by the state of the drawer. -/
theorem openingsOutsideAPulse : Obligations.OpeningsOutsideAPulse := by
  unfold Obligations.OpeningsOutsideAPulse
  intro d s
  have hd : d.val < 64 := d.isLt
  have hexec : exec (.openSeen d) s = .next (s.seeOpen d) := exec_event rfl s
  rw [hexec]
  refine ⟨fun c hc => congrArg _ (seeOpen_of_load hc), fun h => congrArg _ (seeOpen_stays h), fun hactive hl hp ho => ⟨_, rfl, ?_⟩⟩
  rw [seeOpen_of_active hactive hl]
  by_cases hforced : (s.drawer d).state = .closed ∨ (s.drawer d).state = .jammed
  · rw [openEvent_forced s hd hforced]
    have hq : (s.drawer d).state ≠ .queued := by rcases hforced with h | h <;> rw [h] <;> nofun
    have hr : (s.drawer d).state.releasing = false := by rcases hforced with h | h <;> rw [h] <;> rfl
    refine ⟨?_, fun e he => ?_, ?_, ?_, ?_, fun _ => ⟨?_, ?_⟩, fun h => ?_⟩
    · simp [State.setDrawer_drawer, hd, Drawer.openedNow]
    · simp [State.setDrawer_drawer, Ne.symm he]
    · simp
    · simp [hq]
    · refine eq_of_parts ?_ ?_ ?_ ?_ ?_ ?_ ?_ ?_ ?_ ?_ ?_ ?_ ?_ <;> simp
    · simp
    · simp
    · rw [hr] at h
      cases h
  · have hr : (s.drawer d).state.releasing = true := by
      revert hforced hp ho
      cases (s.drawer d).state <;> simp [DrawerState.releasing]
    obtain ⟨q, hq, ht⟩ := openEvent_waiting s hd hr hp
    rw [ht]
    refine ⟨?_, fun e he => ?_, ?_, ?_, ?_, fun h => absurd h hforced, fun _ => ⟨fun e he => ?_, ?_, ?_⟩⟩
    · simp [State.setDrawer_drawer, hd, Drawer.openedNow]
    · simp [State.setDrawer_drawer, Ne.symm he]
    · simp
    · simp [hq]
    · refine eq_of_parts ?_ ?_ ?_ ?_ ?_ ?_ ?_ ?_ ?_ ?_ ?_ ?_ ?_ <;> simp
    · simp [reportOpened_op, Ne.symm he]
    · simp [reportOpened_op, hd]
    · simp

/-! ### Closes with no operation (R72, R86) -/

/-- The drawer as a close with no operation leaves it. -/
def Drawer.closedNow (r : Drawer) : Drawer :=
  { r with state := .closed, attempts := 0, openReported := false, openTimer := 0, levelOpen := false }

theorem seeClose_of_active (h : s.phase.active = true) (hl : (s.drawer d).levelOpen = true) :
    s.seeClose d = (s.setOpenLevel d false).closeEvent d := by
  unfold State.seeClose
  dsimp only
  rw [if_pos h, if_pos hl]

theorem seeClose_of_load {c : Cause} (h : s.phase = .load c) : s.seeClose d = s.setOpenLevel d false := by
  unfold State.seeClose State.whileLoading
  simp [h, Phase.active]

theorem seeClose_stays (h : s.phase.active = true ∧ (s.drawer d).levelOpen = false ∨ s.phase = .held ∨ s.phase = .off) :
    s.seeClose d = s := by
  unfold State.seeClose State.whileLoading
  rcases h with ⟨h, hl⟩ | h | h
  · simp [h, hl]
  · simp [h, Phase.active]
  · simp [h, Phase.active]

/-- The level written and the drawer closed, before the operation or the comparison. -/
theorem closeDrawer_setOpenLevel (s : State) (hd : d < 64) :
    (s.setOpenLevel d false).setDrawer d { (s.setOpenLevel d false).drawer d with
      state := .closed, attempts := 0, openReported := false, openTimer := 0 } = s.setDrawer d (s.drawer d).closedNow := by
  unfold State.setOpenLevel
  rw [setDrawer_same s hd, setDrawer_setDrawer]
  rfl

/-- The close of a drawer with no operation. -/
theorem closeEvent_idle (s : State) (hd : d < 64) (ho : s.op d = none) : (s.setOpenLevel d false).closeEvent d =
    ((s.placed (mismatchNotices (s.drawer d).closedNow d)).setDrawer d
      { (s.drawer d).closedNow with mismatch := !(s.drawer d).closedNow.agrees }).commitDrawer d (s.drawer d) := by
  unfold State.closeEvent
  rw [closeDrawer_setOpenLevel s hd]
  have hop : (s.setDrawer d (s.drawer d).closedNow).op d = none := ho
  simp only [hop]
  rw [comparePresence_setDrawer s hd]
  unfold State.setOpenLevel State.commitDrawer
  rw [setDrawer_same s hd]

/-- Settles O31, by the comparison of presence with stock. -/
theorem closeComparesPresence : Obligations.CloseComparesPresence := by
  unfold Obligations.CloseComparesPresence
  intro d s
  have hd : d.val < 64 := d.isLt
  have hexec : exec (.closeSeen d) s = .next (s.seeClose d) := exec_event rfl s
  rw [hexec]
  refine ⟨fun c hc => congrArg _ (seeClose_of_load hc), fun h => congrArg _ (seeClose_stays h),
    fun hactive hl ho => ⟨_, rfl, ?_⟩⟩
  obtain ⟨v, hv⟩ : ∃ v, v = (s.placed (mismatchNotices (s.drawer d).closedNow d)).setDrawer d
    { (s.drawer d).closedNow with mismatch := !(s.drawer d).closedNow.agrees } := ⟨_, rfl⟩
  have hmark : (!(s.drawer d).closedNow.agrees) = decide ((s.drawer d).present ≠ (s.drawer d).stock.isSome) := by
    by_cases h : (s.drawer d).present = (s.drawer d).stock.isSome <;> simp [Drawer.agrees, Drawer.closedNow, h]
  have hvdrawer : ∀ e, v.drawer e = if d.val = e ∧ d.val < 64 then
      { (s.drawer d).closedNow with mismatch := !(s.drawer d).closedNow.agrees } else s.drawer e := fun e => by
    rw [hv, State.setDrawer_drawer]
    simp
  have hdirty := commitDrawer_dirties (s := s) (t := v) (l := []) (d := d.val) (old := s.drawer d)
    (dirties_nil (by rw [hv]; simp)) (by simp)
  rw [seeClose_of_active hactive hl, closeEvent_idle s hd ho, ← hv]
  have hcommit : ∀ e, (v.commitDrawer d (s.drawer d)).drawer e = v.drawer e := fun e => by simp
  refine ⟨?_, fun e he => ?_, ?_, ?_, ?_, fun heq => ?_, fun hne => ?_, ?_⟩
  · rw [hcommit, hvdrawer, if_pos ⟨rfl, hd⟩, hmark]
    rfl
  · rw [hcommit, hvdrawer, if_neg fun h => he h.1.symm]
  · simp [hv]
  · simp [hv]
  · refine eq_of_parts ?_ ?_ ?_ ?_ ?_ ?_ ?_ ?_ ?_ ?_ ?_ ?_ ?_ <;> simp [hv]
  · rw [hcommit] at heq
    have hstock : (v.drawer d).stock = (s.drawer d).stock := by rw [hvdrawer, if_pos ⟨rfl, hd⟩]; rfl
    rw [if_pos ⟨hstock, heq⟩] at hdirty
    exact hdirty.2.2.2.1 rfl
  · rw [hcommit] at hne
    rw [if_neg fun h => hne h.2] at hdirty
    exact hdirty
  · by_cases h : (s.drawer d).present = (s.drawer d).stock.isSome <;>
      simp [hv, mismatchNotices, Drawer.agrees, Drawer.closedNow, h]

end Sys2Proof.Machine
end

section
/-! PROOFS. How the driver goes on, and what a drawer released into it becomes (O25, O26, O30, O33, O35). -/

namespace Sys2Proof.Machine

open Sys2Proof

variable {s t w : State} {d n oc : Nat}

/-! ### The next head of the queue (R74, R76) -/

theorem DriverGoesOn.of_drc {v : State} (h : DriverGoesOn s t d oc) (ht : v.drc = t.drc) : DriverGoesOn s v d oc := by
  have hdrawer : ∀ e, v.drawer e = t.drawer e := fun e => by simp only [State.drawer, ht]
  unfold DriverGoesOn OtherDrawersStay at h ⊢
  simpa only [hdrawer, ht] using h

/-- An idle driver takes the next head; `w` is `s` but for the drawer `d`, the overcurrent count and the end of the pulse. -/
theorem kickDriver_goesOn (hdriver : w.drc.driver = { s.drc.driver with pulsing := none, pulseTimer := 0, overcurrents := oc })
    (hqueue : w.drc.queue = s.drc.queue) (hdrawers : OtherDrawersStay s w d) (hparams : w.params = s.params)
    (hgo : s.drc.queue = [] ∨ s.drc.driver.fault = false ∧ w.pins.sense ≠ .asserted) :
    DriverGoesOn s w.kickDriver d oc ∧ (d ∉ s.drc.queue → w.kickDriver.drawer d = w.drawer d) ∧
      w.kickDriver = { w with drc := w.kickDriver.drc } := by
  cases hq : s.drc.queue with
  | nil =>
    rw [kickDriver_empty (hqueue.trans hq)]
    exact ⟨⟨fun _ => ⟨hdrawers, hqueue.trans hq, hdriver⟩, fun e q he => by rw [hq] at he; cases he⟩, fun _ => rfl, rfl⟩
  | cons e q =>
    have hgo' : s.drc.driver.fault = false ∧ w.pins.sense ≠ .asserted := hgo.resolve_left (by rw [hq]; nofun)
    obtain ⟨hfault, hsense⟩ := hgo'
    have htakes := kickDriver_takes (s := w) (by rw [hdriver]) (by rw [hdriver]; exact hfault) (hqueue.trans hq) hsense
    have hdrawer : ∀ x, ((w.setReleaseQueue q).beginPulse e).drawer x =
        if e = x ∧ e < 64 then { w.drawer e with state := .pulsing } else w.drawer x := fun x => by
      unfold State.beginPulse
      rw [State.setDriver_drawer, State.setDrawer_drawer]
      rfl
    rw [htakes]
    refine ⟨⟨fun h => (nomatch hq.symm.trans h), fun x p hx hne hlt => ?_⟩, fun hd => ?_, rfl⟩
    · rw [hq] at hx
      cases hx
      refine ⟨?_, fun y hyd hye => ?_, rfl, ?_⟩
      · rw [hdrawer, if_pos ⟨rfl, hlt⟩, hdrawers e hne]
      · rw [hdrawer, if_neg fun h => hye h.1.symm, hdrawers y hyd]
      · show { w.drc.driver with pulsing := some e, pulseTimer := 0, pulseWidth := w.params.pulseWidth, bus := e } = _
        rw [hdriver, hparams]
    · rw [hdrawer, if_neg fun h => hd (by rw [← h.1]; simp)]

/-- Settles O30, by the end of the pulse and the next head. -/
theorem openingEndsAPulse : Obligations.OpeningEndsAPulse := by
  unfold Obligations.OpeningEndsAPulse
  intro d s hactive hl hp hnot hgo
  have hd : d.val < 64 := d.isLt
  have hexec : exec (.openSeen d) s = .next (s.seeOpen d) := exec_event rfl s
  have hlevel : (s.setOpenLevel d true).drawer d = { s.drawer d with levelOpen := true } := setDrawer_same s hd _
  obtain ⟨w, hw⟩ : ∃ w, w = ((((s.endPulse.setOvercurrents 0).setDrawer d (s.drawer d).openedNow).placed
    [(.C, .drawerOpened d (s.drawer d).attempts true)]).reportOpened d true) := ⟨_, rfl⟩
  have hopened : (s.setOpenLevel d true).openEvent d = w.kickDriver := by
    have hopen : (((s.setOpenLevel d true).endPulse.setOvercurrents 0).openDrawer d) =
        (s.endPulse.setOvercurrents 0).setDrawer d (s.drawer d).openedNow := openDrawer_setOpenLevel (s.endPulse.setOvercurrents 0) hd
    unfold State.openEvent
    rw [hlevel]
    simp only [hp]
    rw [hw, hopen]
    rfl
  have hwdrawer : ∀ e, w.drawer e = if d.val = e ∧ d.val < 64 then (s.drawer d).openedNow else s.drawer e := fun e => by
    rw [hw]
    simp only [reportOpened_frame, placed_frame]
    exact State.setDrawer_drawer _ _ _ _
  obtain ⟨hgoes, hkept, hframe⟩ := kickDriver_goesOn (s := s) (w := w) (d := d.val) (oc := 0)
    (by rw [hw]; simp [State.endPulse, State.setOvercurrents]) (by rw [hw]; simp [State.endPulse, State.setOvercurrents])
    (fun e he => by rw [hwdrawer, if_neg fun h => he h.1.symm]) (by rw [hw]; simp [State.endPulse, State.setOvercurrents])
    (by rw [hw]; simpa [State.endPulse, State.setOvercurrents] using hgo)
  rw [hexec, seeOpen_of_active hactive hl, hopened]
  refine ⟨_, rfl, ?_, ?_, fun e he => ?_, ?_, ?_, hgoes⟩
  · rw [hkept hnot, hwdrawer, if_pos ⟨rfl, hd⟩]
    rfl
  · rw [hframe]
    show w.op d = _
    rw [hw, reportOpened_op, if_pos ⟨rfl, hd⟩]
    simp [State.endPulse, State.setOvercurrents]
  · rw [hframe]
    show w.op e = _
    rw [hw, reportOpened_op, if_neg fun h => he h.1.symm]
    simp [State.endPulse, State.setOvercurrents]
  · rw [hframe]
    refine eq_of_parts ?_ ?_ ?_ ?_ ?_ ?_ ?_ ?_ ?_ ?_ ?_ ?_ ?_ <;> simp [hw, State.endPulse, State.setOvercurrents]
  · rw [hframe]
    show w.ports = _
    rw [hw]
    simp [State.endPulse, State.setOvercurrents]

/-! ### The end of an operation that is no ISSUE (R111) -/

/-- OP_DONE of an operation rolled back that is no ISSUE. -/
def rolledBackDone (s : State) (d : Nat) (o : Operation) (x : OpOutcome) : OpDone :=
  ⟨d, o, x, none, (s.asm o.asm).state, (s.asm o.asm).stockedMark, if o.kind = .stock then some false else none⟩

/-- The rollback of an operation that is no ISSUE. -/
theorem rollback_of_plain {o : Operation} (x : OpOutcome) (ho : w.op d = some o) (hk : ∀ c p l k, o.kind ≠ .issue c p l k) :
    w.rollback d x = (w.setOp d none).placed [(.C, .opDone (rolledBackDone w d o x))] := by
  obtain ⟨kind, a, r⟩ := o
  unfold State.rollback
  rw [ho]
  cases kind with
  | issue c p l k => exact absurd rfl (hk c p l k)
  | stock => rfl
  | withdraw => rfl
  | giveBack k => rfl

/-! ### A failed attempt (R78 to R80) -/

/-- The drawer as a failed attempt that neither faults nor jams leaves it. -/
def Drawer.waits (r : Drawer) (x : Params) (n : Nat) : Drawer :=
  { r with
    attempts := n
    waitTimer := 0
    state := if n % (x.quickRetries + 1) = 0 then .backoff else .retryWait
    waitTime := if n % (x.quickRetries + 1) = 0 then x.backOff * 1000 else x.quickRetryWait }

/-- A failed attempt below the attempt limit. -/
theorem failedAttempt_waits (hn : n = (w.drawer d).attempts + 1) (hoc : w.drc.driver.overcurrents ≠ 3)
    (hlt : n < w.params.attemptLimit) : w.failedAttempt d = w.setDrawer d ((w.drawer d).waits w.params n) := by
  unfold State.failedAttempt Drawer.waits
  rw [if_neg hoc, ← hn, if_neg (by omega)]
  split <;> rfl

/-- A failed attempt at the attempt limit. -/
theorem failedAttempt_jams (hn : n = (w.drawer d).attempts + 1) (hoc : w.drc.driver.overcurrents ≠ 3)
    (hle : w.params.attemptLimit ≤ n) :
    w.failedAttempt d = ((w.drawerRest d .jammed n).placed [(.C, .drawerJammed d n)]).rollback d .jammed := by
  unfold State.failedAttempt
  rw [if_neg hoc, ← hn, if_pos hle]
  rfl

/-- The state in which a pulse has ended, for the failed attempt to be counted. -/
def State.pulseEnded (s : State) (oc : Nat) (x : Sense) : State :=
  (s.endPulse.setOvercurrents oc).setPins { s.pins with sense := x }

/-- The events that end a pulse as a failed attempt. -/
theorem exec_failedAttempt {i : Instr} (hactive : s.phase.active = true) (hp : s.drc.driver.pulsing = some d)
    (hi : i = .pulseWidthElapsed ∧ s.drc.driver.pulseWidth ≤ s.drc.driver.pulseTimer ∧ oc = 0 ∨
      i = .overcurrent ∧ oc = s.drc.driver.overcurrents + 1) :
    exec i s = .next ((s.pulseEnded oc (if i = .overcurrent then .spent else s.pins.sense)).failedAttempt d).kickDriver := by
  rcases hi with ⟨rfl, hdue, rfl⟩ | ⟨rfl, rfl⟩
  · rw [exec_event rfl]
    show Host.Outcome.next (if s.phase.active && s.pulseDue then s.elapsePulse else s) = _
    rw [if_pos (by simp [hactive, State.pulseDue, hp, hdue])]
    unfold State.elapsePulse
    rw [hp]
    rfl
  · rw [exec_event rfl]
    show Host.Outcome.next s.assertSense = _
    unfold State.assertSense
    rw [hactive, if_pos rfl]
    simp only [hp]
    rfl

/-- The driver goes on behind a failed attempt, after what became of the drawer. -/
theorem pulseEnded_goesOn {x : Sense} {r : Drawer} (hwdrc : w.drc = ((s.pulseEnded oc x).setDrawer d r).drc)
    (hparams : w.params = s.params) (hpins : w.pins = { s.pins with sense := x })
    (hgo : s.drc.queue = [] ∨ s.drc.driver.fault = false ∧ x ≠ .asserted) (hd : d < 64) (hnot : d ∉ s.drc.queue) :
    DriverGoesOn s w.kickDriver d oc ∧ w.kickDriver.drawer d = r ∧ w.kickDriver = { w with drc := w.kickDriver.drc } := by
  have hdrawer : ∀ e, w.drawer e = if d = e ∧ d < 64 then r else s.drawer e := fun e => by
    rw [State.drawer, hwdrc]
    exact State.setDrawer_drawer _ _ _ _
  obtain ⟨hgoes, hkept, hframe⟩ := kickDriver_goesOn (s := s) (w := w) (d := d) (oc := oc) (by rw [hwdrc]; rfl) (by rw [hwdrc]; rfl)
    (fun e he => by rw [hdrawer, if_neg fun h => he h.1.symm]) hparams (by rw [hpins]; exact hgo)
  exact ⟨hgoes, by rw [hkept hnot, hdrawer, if_pos ⟨rfl, hd⟩], hframe⟩

/-- Settles O33, by the attempt count and the operation. -/
theorem failedAttempts : Obligations.FailedAttempts := by
  unfold Obligations.FailedAttempts
  refine ⟨fun i d n oc s hactive hd hp hst hnot hfault hn hi => ?_, fun s => ⟨fun h => ?_, fun h => ?_⟩⟩
  · obtain ⟨x, hx⟩ : ∃ x, x = if i = .overcurrent then Sense.spent else s.pins.sense := ⟨_, rfl⟩
    have hexec := exec_failedAttempt (oc := oc) hactive hp (hi.imp (fun h => ⟨h.1, h.2.1, h.2.2.1⟩) fun h => ⟨h.1, h.2.1⟩)
    rw [← hx] at hexec
    have hgo : s.drc.queue = [] ∨ s.drc.driver.fault = false ∧ x ≠ .asserted := by
      rcases hi with ⟨rfl, -, -, hgo⟩ | ⟨rfl, -, -⟩
      · exact hgo.imp id fun h => ⟨hfault, by rw [hx]; exact h⟩
      · exact .inr ⟨hfault, by rw [hx]; nofun⟩
    have hoc : (s.pulseEnded oc x).drc.driver.overcurrents ≠ 3 := by
      show oc ≠ 3
      rcases hi with ⟨-, -, rfl, -⟩ | ⟨-, -, h⟩
      · nofun
      · exact h
    refine ⟨fun hlt => ?_, fun o hle ho hk => ?_⟩
    · rw [failedAttempt_waits (w := s.pulseEnded oc x) hn hoc hlt] at hexec
      obtain ⟨hgoes, hdrawer, hframe⟩ := pulseEnded_goesOn (w := (s.pulseEnded oc x).setDrawer d ((s.drawer d).waits s.params n))
        rfl rfl rfl hgo hd hnot
      refine ⟨_, hexec, hdrawer, hgoes, ?_⟩
      rw [← hx]
      exact hframe
    · have hop : (((s.pulseEnded oc x).drawerRest d .jammed n).placed [(.C, .drawerJammed d n)]).op d = some o := by
        simpa [State.pulseEnded, State.endPulse, State.setOvercurrents, State.drawerRest] using ho
      rw [failedAttempt_jams (w := s.pulseEnded oc x) hn hoc hle, rollback_of_plain .jammed hop hk] at hexec
      obtain ⟨w, hw⟩ : ∃ w, w = ((((s.pulseEnded oc x).drawerRest d .jammed n).placed [(.C, .drawerJammed d n)]).setOp d none).placed
        [(.C, .opDone (rolledBackDone s d o .jammed))] := ⟨_, rfl⟩
      have hdone : rolledBackDone (((s.pulseEnded oc x).drawerRest d .jammed n).placed [(.C, .drawerJammed d n)]) d o .jammed =
          rolledBackDone s d o .jammed := by
        simp [rolledBackDone, State.pulseEnded, State.endPulse, State.setOvercurrents, State.drawerRest]
      rw [hdone, ← hw] at hexec
      obtain ⟨hgoes, hdrawer, hframe⟩ := pulseEnded_goesOn (s := s) (w := w) (d := d) (oc := oc) (x := x)
        (r := { s.drawer d with state := .jammed, attempts := n, waitTimer := 0 }) (by
          rw [hw]
          simp [State.pulseEnded, State.endPulse, State.setOvercurrents, State.drawerRest]) (by
          rw [hw]
          simp [State.pulseEnded, State.endPulse, State.setOvercurrents, State.drawerRest]) (by
          rw [hw]
          simp [State.pulseEnded, State.endPulse, State.setOvercurrents, State.drawerRest]) hgo hd hnot
      have hwop : ∀ e, w.op e = if d = e ∧ d < 64 then none else s.op e := fun e => by
        rw [hw]
        simp [State.setOp_op, State.pulseEnded, State.endPulse, State.setOvercurrents, State.drawerRest]
      refine ⟨_, hexec, hdrawer, hgoes, ?_, fun e he => ?_, ?_, ?_⟩
      · rw [hframe]
        exact (hwop d).trans (if_pos ⟨rfl, hd⟩)
      · rw [hframe]
        exact (hwop e).trans (if_neg fun h => he h.1.symm)
      · rw [hframe, ← hx]
        refine eq_of_parts ?_ ?_ ?_ ?_ ?_ ?_ ?_ ?_ ?_ ?_ ?_ ?_ ?_ <;>
          simp [hw, State.pulseEnded, State.endPulse, State.setOvercurrents, State.drawerRest]
      · rw [hframe]
        show w.ports = _
        rw [hw]
        simp [State.pulseEnded, State.endPulse, State.setOvercurrents, State.drawerRest, rolledBackDone]
  · rw [exec_event rfl]
    show Host.Outcome.next (if s.phase.active && s.pulseDue then s.elapsePulse else s) = _
    have hno : (s.phase.active && s.pulseDue) = false := by
      rcases h with h | h | h
      · simp [h]
      · simp [State.pulseDue, h]
      · simp [State.pulseDue, h]
    rw [hno]
    rfl
  · rw [exec_event rfl]
    show Host.Outcome.next s.assertSense = _
    unfold State.assertSense
    rcases h with h | h
    · simp only [h]
      rfl
    · simp only [h]
      cases s.phase.active <;> rfl

end Sys2Proof.Machine
end

section
/-! PROOFS. A drawer that joins the release queue: behind a BUSY driver, or taken at once (O25, O35); CANCEL_DRAWER (O26). -/

namespace Sys2Proof.Machine

open Sys2Proof

variable {s t w : State} {d n : Nat}

/-! ### A drawer that joins the release queue (R73 to R76) -/

theorem JoinsQueue.of_drc {v : State} (h : JoinsQueue s t d n) (ht : v.drc = t.drc) : JoinsQueue s v d n := by
  unfold JoinsQueue at h ⊢
  simpa only [State.drawer, ht] using h

theorem BeginsPulse.of_drc {v : State} (h : BeginsPulse s t d n) (ht : v.drc = t.drc) : BeginsPulse s v d n := by
  unfold BeginsPulse at h ⊢
  simpa only [State.drawer, ht] using h

theorem PulseFailsAtStart.of_drc {v : State} (h : PulseFailsAtStart s t d n) (ht : v.drc = t.drc) (hp : v.pins = t.pins) :
    PulseFailsAtStart s v d n := by
  unfold PulseFailsAtStart Waits at h ⊢
  simpa only [State.drawer, ht, hp] using h

theorem OtherDrawersStay.of_drc {v : State} (h : OtherDrawersStay s t d) (ht : v.drc = t.drc) : OtherDrawersStay s v d := by
  unfold OtherDrawersStay at h ⊢
  simpa only [State.drawer, ht] using h

/-- What the statements on a release read of the state before it. -/
def SameRelease (s w : State) : Prop := w.drc = s.drc ∧ w.params = s.params ∧ w.pins = s.pins

theorem queueDrawer_drawer (w : State) (d n e : Nat) : (w.queueDrawer d n).drawer e =
    if d = e ∧ d < 64 then { w.drawer d with state := .queued, attempts := n, waitTimer := 0 } else w.drawer e :=
  State.setDrawer_drawer _ _ _ _

/-- Behind a BUSY driver the drawer waits at the tail. -/
theorem queueDrawer_joins (hsame : SameRelease s w) (hd : d < 64) (hbusy : s.drc.driver.pulsing.isSome = true) :
    JoinsQueue s (w.queueDrawer d n).kickDriver d n ∧ OtherDrawersStay s (w.queueDrawer d n).kickDriver d ∧
      (w.queueDrawer d n).kickDriver = { w with drc := (w.queueDrawer d n).kickDriver.drc } := by
  obtain ⟨hdrc, -, -⟩ := hsame
  have hdrawer : ∀ e, w.drawer e = s.drawer e := fun e => by simp only [State.drawer, hdrc]
  have hstays : (w.queueDrawer d n).kickDriver = w.queueDrawer d n := by
    refine kickDriver_stays (.inl ?_)
    show w.drc.driver.pulsing.isSome = true
    rw [hdrc]
    exact hbusy
  rw [hstays]
  refine ⟨⟨?_, ?_, ?_⟩, fun e he => ?_, rfl⟩
  · rw [queueDrawer_drawer, if_pos ⟨rfl, hd⟩, hdrawer]
  · show w.drc.queue ++ [d] = _
    rw [hdrc]
  · show w.drc.driver = _
    rw [hdrc]
  · rw [queueDrawer_drawer, if_neg fun h => he h.1.symm, hdrawer]

/-- The drawer taken at once by an idle driver, its pulse begun. -/
def State.pulseBegun (w : State) (d n : Nat) : State :=
  (w.setDrawer d { w.drawer d with state := .pulsing, attempts := n, waitTimer := 0 }).setDriver
    { w.drc.driver with pulsing := some d, pulseTimer := 0, pulseWidth := w.params.pulseWidth, bus := d }

theorem beginPulse_queued (w : State) (hd : d < 64) (hq : w.drc.queue = []) :
    ((w.queueDrawer d n).setReleaseQueue []).beginPulse d = w.pulseBegun d n := by
  have hempty : w.setReleaseQueue [] = w := by rw [← hq]; rfl
  have hdrawer : ((w.queueDrawer d n).setReleaseQueue []).drawer d =
      { w.drawer d with state := .queued, attempts := n, waitTimer := 0 } := setDrawer_same w hd _
  have hset : ∀ r, ((w.queueDrawer d n).setReleaseQueue []).setDrawer d r = w.setDrawer d r := fun r => by
    have htwice := setDrawer_setDrawer (w.setReleaseQueue []) d
      { w.drawer d with state := .queued, attempts := n, waitTimer := 0 } r
    exact htwice.trans (by rw [hempty])
  unfold State.beginPulse State.pulseBegun
  rw [hdrawer, hset]
  rfl

theorem pulseBegun_drawer (w : State) (d n e : Nat) : (w.pulseBegun d n).drawer e =
    if d = e ∧ d < 64 then { w.drawer d with state := .pulsing, attempts := n, waitTimer := 0 } else w.drawer e :=
  State.setDrawer_drawer _ _ _ _

/-- An idle driver takes the drawer at once. -/
theorem queueDrawer_begins (hsame : SameRelease s w) (hd : d < 64) (hidle : s.drc.driver.pulsing = none)
    (hfault : s.drc.driver.fault = false) (hq : s.drc.queue = []) (hsense : s.pins.sense ≠ .asserted) :
    BeginsPulse s (w.queueDrawer d n).kickDriver d n ∧ OtherDrawersStay s (w.queueDrawer d n).kickDriver d ∧
      (w.queueDrawer d n).kickDriver = { w with drc := (w.queueDrawer d n).kickDriver.drc } := by
  obtain ⟨hdrc, hparams, hpins⟩ := hsame
  have hdrawer : ∀ e, w.drawer e = s.drawer e := fun e => by simp only [State.drawer, hdrc]
  have hwq : w.drc.queue = [] := by rw [hdrc, hq]
  have htakes : (w.queueDrawer d n).kickDriver = w.pulseBegun d n := by
    rw [← beginPulse_queued w hd hwq]
    refine kickDriver_takes ?_ ?_ ?_ ?_
    · show w.drc.driver.pulsing = none
      rw [hdrc, hidle]
    · show w.drc.driver.fault = false
      rw [hdrc, hfault]
    · show w.drc.queue ++ [d] = [d]
      rw [hwq]
      rfl
    · show w.pins.sense ≠ .asserted
      rw [hpins]
      exact hsense
  rw [htakes]
  refine ⟨⟨?_, ?_, ?_⟩, fun e he => ?_, rfl⟩
  · rw [pulseBegun_drawer, if_pos ⟨rfl, hd⟩, hdrawer]
  · show w.drc.queue = s.drc.queue
    rw [hdrc]
  · show { w.drc.driver with pulsing := some d, pulseTimer := 0, pulseWidth := w.params.pulseWidth, bus := d } = _
    rw [hdrc, hparams]
  · rw [pulseBegun_drawer, if_neg fun h => he h.1.symm, hdrawer]

/-- An idle driver that finds the sense input asserted takes the one drawer of the queue and ends its pulse. -/
theorem kickDriver_fails (hidle : w.drc.driver.pulsing = none) (hfault : w.drc.driver.fault = false) (hq : w.drc.queue = [d])
    (hsense : w.pins.sense = .asserted) :
    w.kickDriver = ((w.setReleaseQueue []).beginPulse d).overcurrentPulse d := by
  have hpins : ((w.setReleaseQueue []).beginPulse d).pins.sense = .asserted := hsense
  unfold State.kickDriver
  rw [hq]
  simp only [List.length_cons, List.length_nil, State.runDriver, hidle, hfault, hq, hpins]
  rfl

/-- An idle driver takes the drawer at once, and the sense input found asserted ends its pulse. -/
theorem queueDrawer_fails (hsame : SameRelease s w) (hd : d < 64) (hidle : s.drc.driver.pulsing = none)
    (hfault : s.drc.driver.fault = false) (hq : s.drc.queue = []) (hsense : s.pins.sense = .asserted)
    (hoc : s.drc.driver.overcurrents < 2) (hn : n + 1 < s.params.attemptLimit) :
    PulseFailsAtStart s (w.queueDrawer d n).kickDriver d (n + 1) ∧ OtherDrawersStay s (w.queueDrawer d n).kickDriver d ∧
      (w.queueDrawer d n).kickDriver = { w with
        drc := (w.queueDrawer d n).kickDriver.drc, pins := (w.queueDrawer d n).kickDriver.pins } := by
  obtain ⟨hdrc, hparams, hpins⟩ := hsame
  have hdrawer : ∀ e, w.drawer e = s.drawer e := fun e => by simp only [State.drawer, hdrc]
  have hwq : w.drc.queue = [] := by rw [hdrc, hq]
  obtain ⟨v, hv⟩ : ∃ v, v = (w.pulseBegun d n).pulseEnded (w.drc.driver.overcurrents + 1) .spent := ⟨_, rfl⟩
  have hvd : v.drawer d = { s.drawer d with state := .pulsing, attempts := n, waitTimer := 0 } := by
    rw [hv]
    refine (pulseBegun_drawer w d n d).trans ?_
    rw [if_pos ⟨rfl, hd⟩, hdrawer]
  have hvoc : v.drc.driver.overcurrents = w.drc.driver.overcurrents + 1 := by rw [hv]; rfl
  have hvparams : v.params = s.params := by rw [hv]; exact hparams
  have hfails : (w.queueDrawer d n).kickDriver = v.setDrawer d ((v.drawer d).waits v.params (n + 1)) := by
    have hkick : (w.queueDrawer d n).kickDriver = (((w.queueDrawer d n).setReleaseQueue []).beginPulse d).overcurrentPulse d := by
      refine kickDriver_fails ?_ ?_ ?_ ?_
      · show w.drc.driver.pulsing = none
        rw [hdrc, hidle]
      · show w.drc.driver.fault = false
        rw [hdrc, hfault]
      · show w.drc.queue ++ [d] = [d]
        rw [hwq]
        rfl
      · show w.pins.sense = .asserted
        rw [hpins, hsense]
    rw [hkick, beginPulse_queued w hd hwq]
    have hended : (w.pulseBegun d n).overcurrentPulse d = v.failedAttempt d := by rw [hv]; rfl
    rw [hended]
    exact failedAttempt_waits (by rw [hvd]) (by rw [hvoc, hdrc]; omega) (by rw [hvparams]; exact hn)
  have hvdrawer : ∀ e, e ≠ d → v.drawer e = s.drawer e := fun e he => by
    rw [hv]
    refine (pulseBegun_drawer w d n e).trans ?_
    rw [if_neg fun h => he h.1.symm, hdrawer]
  rw [hfails]
  refine ⟨⟨?_, ?_, ?_, ?_⟩, fun e he => ?_, ?_⟩
  · refine (setDrawer_same v hd _).trans ?_
    rw [hvd, hvparams]
    rfl
  · rw [hv]
    show w.drc.queue = s.drc.queue
    rw [hdrc]
  · rw [hv]
    show { w.pins with sense := .spent } = _
    rw [hpins]
  · rw [hv]
    show { w.drc.driver with
      pulsing := none, pulseTimer := 0, overcurrents := w.drc.driver.overcurrents + 1, pulseWidth := w.params.pulseWidth
      bus := d } = _
    rw [hdrc, hparams, ← hidle]
  · rw [State.setDrawer_drawer, if_neg fun h => he h.1.symm, hvdrawer e he]
  · rw [hv]
    rfl

/-! ### The timers of a drawer (R75, R85) -/

/-- Settles O35, by the drawer that joins the release queue and the guards of each expiry. -/
theorem drawerTimersExpire : Obligations.DrawerTimersExpire := by
  unfold Obligations.DrawerTimersExpire
  intro d s hactive
  have hd : d.val < 64 := d.isLt
  have hwait : exec (.waitExpiry d) s = .next (if s.phase.active && s.waitDue d then s.expireWait d else s) := exec_event rfl s
  have hopen : exec (.openTimeExpiry d) s = .next (if s.phase.active && s.openDue d then s.reportLeftOpen d else s) :=
    exec_event rfl s
  have hsame : SameRelease s s := ⟨rfl, rfl, rfl⟩
  rw [hwait, hopen, hactive, Bool.true_and, Bool.true_and]
  refine ⟨fun hst hdue => ?_, fun hno => ?_, fun hst hr hdue => ?_, fun hno => ?_⟩
  · rw [if_pos (by simp [State.waitDue, hst, hdue])]
    refine ⟨fun hbusy => ?_, fun hidle hfault hq => ⟨fun hsense => ?_, fun hsense hoc hn => ?_⟩⟩
    · exact ⟨_, rfl, queueDrawer_joins hsame hd hbusy⟩
    · exact ⟨_, rfl, queueDrawer_begins hsame hd hidle hfault hq hsense⟩
    · exact ⟨_, rfl, queueDrawer_fails hsame hd hidle hfault hq hsense hoc hn⟩
  · rw [if_neg (by
      rcases hno with h | h
      · simp [State.waitDue, h]
      · simp [State.waitDue, h])]
  · rw [if_pos (by simp [State.openDue, hst, hr, hdue])]
    rfl
  · rw [if_neg (by
      rcases hno with h | h | h
      · simp [State.openDue, h]
      · simp [State.openDue, h]
      · simp [State.openDue, h])]

end Sys2Proof.Machine
end

section
/-! PROOFS. STOCK, WITHDRAW and RETURN accepted (O25), and CANCEL_DRAWER (O26). -/

namespace Sys2Proof.Machine

open Sys2Proof

variable {s t w : State} {a d n : Nat}

/-! ### An operation accepted (R92) -/

/-- The three requests that take an operation on a drawer. -/
theorem handler_takesOperation {i : Instr} {o : Operation} {u : State} (ha : a ≤ 511) (hd : d ≤ 63)
    (hlock : (u.asm a).holder ≠ some .P) (hop : u.inOperation a = false) (hclosed : (u.drawer d).state = .closed)
    (hmark : (u.drawer d).mismatch = false) (hfault : u.drc.driver.fault = false) (hcount : u.releaseCount < 8)
    (ho : u.op d = none)
    (hi : i = .stock a d ∧ o = ⟨.stock, a, none⟩ ∧ (u.asm a).state = .ready ∧ (u.asm a).stock = none ∧
        (u.drawer d).stock = none ∨
      i = .withdraw a ∧ o = ⟨.withdraw, a, none⟩ ∧ ((u.asm a).state = .ready ∨ (u.asm a).state = .regrind) ∧
        (u.asm a).stock = some d ∨
      ∃ n k, i = .returnTool a d n ∧ conditionOf n = some k ∧ o = ⟨.giveBack k, a, none⟩ ∧
        ((u.asm a).state = .issued ∨ (u.asm a).state = .exhausted) ∧ (u.drawer d).stock = none) :
    handler i u = u.takeOperation d o ∧ requestPort i = some .C ∧ ∀ x, namedAsm x i = some a := by
  have hrelease : firstOf (releaseChecks u d) = none := by
    simp [releaseChecks, firstOf, hclosed, hfault, hcount]
  rcases hi with ⟨rfl, rfl, hst, hstock, hempty⟩ | ⟨rfl, rfl, hst, hstock⟩ | ⟨n, k, rfl, hk, rfl, hst, hempty⟩
  · refine ⟨?_, rfl, fun _ => rfl⟩
    obtain ⟨-, -, -, -, -, -, -, -, hx⟩ := (stockAsm_checked u a d).2 (by
      simp [firstOf_cons, hrelease, Nat.not_lt.mpr ha, Nat.not_lt.mpr hd, hlock, hop, ho, hst, hstock, hempty, hmark])
    exact hx
  · refine ⟨?_, rfl, fun _ => rfl⟩
    obtain ⟨-, -, -, -, -, -, -, hx⟩ := (withdrawAsm_checked u a d (fun e he => by rw [hstock] at he; cases he; rfl)).2 (by
      simp [firstOf_cons, hrelease, ha, hlock, hop, hst, hstock, hmark])
    exact hx
  · refine ⟨?_, rfl, fun _ => rfl⟩
    have hn : n ≤ 1 := by
      revert hk
      unfold conditionOf
      split <;> simp
    obtain ⟨-, -, -, -, -, -, -, -, k', hk', hx⟩ := (returnAsm_checked u a d n).2 (by
      simp [firstOf_cons, hrelease, Nat.not_lt.mpr ha, Nat.not_lt.mpr hd, hlock, hop, ho, hst, hempty, hmark, Nat.not_lt.mpr hn])
    rw [hk] at hk'
    cases hk'
    exact hx

/-- An accepted operation: what became of the drawer, and the reply with the drawer's state at the end of the acceptance. -/
theorem exec_takesOperation {i : Instr} {o : Operation} {tag : Byte} (h : s.taken .C i = some tag) (hi : requestPort i = some .C)
    (hn : namedAsm s.ocu i = some a) (hoa : o.asm = a)
    (hx : handler i (s.touch .C a) = (s.touch .C a).takeOperation d o) : ∃ w, w = (s.touch .C a).setOp d (some o) ∧
      exec i s = .next ((w.queueDrawer d 0).kickDriver.replied .C (okReply tag false (.operation o.kind a d s.acceptedState))) := by
  refine ⟨_, rfl, exec_accepted hi h ?_⟩
  have haccepted : ((s.touch .C a).setOp d (some o)).acceptedState = s.acceptedState := by
    unfold State.acceptedState
    simp
  rw [touchNamed_of_some hn, hx, State.takeOperation, State.acceptOperation, haccepted, hoa]
  rfl

/-- What an accepted operation leaves beside the Drawer Controller. -/
theorem takesOperation_frame {o : Operation} {x : Reply} (ha : a < 512) (hd : d < 64) (hw : w = (s.touch .C a).setOp d (some o))
    (ht : t = { w with drc := t.drc, pins := t.pins }) :
    (t.replied .C x).op d = some o ∧ OtherOpsStay s (t.replied .C x) d ∧ OnlyTheTimerRestarts s (t.replied .C x) a ∧
      t.replied .C x = { s.replied .C x with
        atb := (t.replied .C x).atb, drc := (t.replied .C x).drc, coc := (t.replied .C x).coc, pins := (t.replied .C x).pins } ∧
      (t.pins = w.pins → t.replied .C x = { s.replied .C x with
        atb := (t.replied .C x).atb, drc := (t.replied .C x).drc, coc := (t.replied .C x).coc }) := by
  have htasm : ∀ b, t.asm b = (s.touch .C a).asm b := fun b => by rw [ht, hw]; rfl
  have htop : ∀ e, t.op e = if d = e ∧ d < 64 then some o else s.op e := fun e => by
    rw [ht, hw]
    refine (State.setOp_op _ _ _ _).trans ?_
    simp
  have htrest : t.ocu = s.ocu ∧ t.rfs = s.rfs ∧ t.ctb = s.ctb ∧ t.hob = s.hob ∧ t.rst = s.rst ∧ t.params = s.params ∧
      t.ports = s.ports ∧ t.phase = s.phase ∧ t.pending = s.pending := by
    rw [ht, hw]
    simp
  obtain ⟨hocu, hrfs, hctb, hhob, hrst, hparams, hports, hphase, hpending⟩ := htrest
  refine ⟨?_, fun e he => ?_, ⟨?_, fun b hb => ?_⟩, ?_, fun hpins => ?_⟩
  · simp [htop, hd]
  · simp [htop, Ne.symm he]
  · simp [htasm, touch_asm_C s ha]
  · have hother : (s.touch .C a).asm b = s.asm b := by
      rw [touch_eq, State.setAsm_asm, if_neg fun h => hb h.1.symm]
    simp [htasm, hother]
  · refine eq_of_parts ?_ ?_ ?_ ?_ ?_ ?_ ?_ ?_ ?_ ?_ ?_ ?_ ?_ <;>
      simp [hocu, hrfs, hctb, hhob, hrst, hparams, hports, hphase, hpending]
  · refine eq_of_parts ?_ ?_ ?_ ?_ ?_ ?_ ?_ ?_ ?_ ?_ ?_ ?_ ?_ <;>
      simp [hocu, hrfs, hctb, hhob, hrst, hparams, hports, hphase, hpending, hpins, hw]

/-- Settles O25, by the one acceptance of the three requests and the driver that takes the drawer or does not. -/
theorem operationsQueueTheirDrawer : Obligations.OperationsQueueTheirDrawer := by
  unfold Obligations.OperationsQueueTheirDrawer
  intro i o a d tag s h ha hd hholder hop hclosed hmark hfault hcount ho hi
  have ha' : a < 512 := by omega
  have hd' : d < 64 := by omega
  have hasm := touch_asm_C s ha'
  obtain ⟨hx, hport, hnamed⟩ := handler_takesOperation (u := s.touch .C a) (i := i) (o := o) ha hd (by rw [hasm]; exact hholder)
    (by simpa using hop) (by simpa using hclosed) (by simpa using hmark) (by simpa using hfault)
    (by simpa [State.releaseCount] using hcount) (by simpa using ho) (by
      rw [hasm]
      simpa using hi)
  have hoa : o.asm = a := by
    rcases hi with ⟨-, rfl, -⟩ | ⟨-, rfl, -⟩ | ⟨n, k, -, -, rfl, -⟩ <;> rfl
  obtain ⟨w, hw, hexec⟩ := exec_takesOperation h hport (hnamed _) hoa hx
  have hsame : SameRelease s w := by
    rw [hw]
    exact ⟨by simp, by simp, by simp⟩
  rw [hexec]
  refine ⟨fun hbusy => ?_, fun hidle hq hsense => ?_, fun hidle hq hsense hoc hlimit => ?_⟩
  · obtain ⟨hjoins, hothers, hframe⟩ := queueDrawer_joins (n := 0) hsame hd' hbusy
    have hstate : s.acceptedState = .queued := by
      unfold State.acceptedState
      cases hp : s.drc.driver.pulsing with
      | none => rw [hp] at hbusy; cases hbusy
      | some e => rfl
    rw [hstate]
    obtain ⟨h1, h2, h3, -, h4⟩ := takesOperation_frame (t := (w.queueDrawer d 0).kickDriver)
      (x := okReply tag false (.operation o.kind a d .queued)) ha' hd' hw (by rw [hframe])
    exact ⟨_, rfl, h1, h2, JoinsQueue.of_drc hjoins (by simp), OtherDrawersStay.of_drc hothers (by simp), h3, h4 (by rw [hframe])⟩
  · obtain ⟨hbegins, hothers, hframe⟩ := queueDrawer_begins (n := 0) hsame hd' hidle hfault hq hsense
    have hstate : s.acceptedState = .pulsing := by simp [State.acceptedState, hidle, hq]
    rw [hstate]
    obtain ⟨h1, h2, h3, -, h4⟩ := takesOperation_frame (t := (w.queueDrawer d 0).kickDriver)
      (x := okReply tag false (.operation o.kind a d .pulsing)) ha' hd' hw (by rw [hframe])
    exact ⟨_, rfl, h1, h2, BeginsPulse.of_drc hbegins (by simp), OtherDrawersStay.of_drc hothers (by simp), h3, h4 (by rw [hframe])⟩
  · obtain ⟨hfails, hothers, hframe⟩ := queueDrawer_fails (n := 0) hsame hd' hidle hfault hq hsense hoc hlimit
    have hstate : s.acceptedState = .pulsing := by simp [State.acceptedState, hidle, hq]
    rw [hstate]
    obtain ⟨h1, h2, h3, h4, -⟩ := takesOperation_frame (t := (w.queueDrawer d 0).kickDriver)
      (x := okReply tag false (.operation o.kind a d .pulsing)) ha' hd' hw (by rw [hframe])
    exact ⟨_, rfl, h1, h2, PulseFailsAtStart.of_drc hfails (by simp) (by simp), OtherDrawersStay.of_drc hothers (by simp), h3, h4⟩

/-! ### CANCEL_DRAWER (R84) -/

/-- A waiting drawer cancelled: it leaves the release queue, and its operation is rolled back. -/
theorem cancelDrawer_waiting (hd : d ≤ 63) (h : (s.drawer d).state.releasing = true) (hp : (s.drawer d).state ≠ .pulsing) :
    ∃ q, q = (if (s.drawer d).state = .queued then s.drc.queue.erase d else s.drc.queue) ∧
      cancelDrawer d s = (((s.setReleaseQueue q).drawerRest d .closed 0).rollback d .cancelled, accept .empty) := by
  refine ⟨_, rfl, ?_⟩
  unfold cancelDrawer
  rw [if_neg (by omega)]
  cases hs : (s.drawer d).state with
  | queued => rfl
  | retryWait => rfl
  | backoff => rfl
  | pulsing => exact absurd hs hp
  | closed => rw [hs] at h; cases h
  | opened => rw [hs] at h; cases h
  | jammed => rw [hs] at h; cases h

/-- The pulsing drawer cancelled: the pulse ends, its operation is rolled back and the driver goes on. -/
theorem cancelDrawer_pulsing (hd : d ≤ 63) (h : (s.drawer d).state = .pulsing) :
    cancelDrawer d s = (((s.endPulse.drawerRest d .closed 0).rollback d .cancelled).kickDriver, accept .empty) := by
  unfold cancelDrawer
  rw [if_neg (by omega)]
  simp only [h]

/-- Settles O26, by the state of the drawer. -/
theorem cancelEndsTheRelease : Obligations.CancelEndsTheRelease := by
  unfold Obligations.CancelEndsTheRelease
  intro d o tag s h hd ho hk hst
  have hd' : d < 64 := by omega
  obtain ⟨x, hx⟩ : ∃ x, x = rolledBackDone s d o .cancelled := ⟨_, rfl⟩
  by_cases hp : (s.drawer d).state = .pulsing
  · obtain ⟨hnot, hgo⟩ : d ∉ s.drc.queue ∧ (s.drc.queue = [] ∨ s.drc.driver.fault = false ∧ s.pins.sense ≠ .asserted) := by
      simpa [hp] using hst
    have hop : (s.endPulse.drawerRest d .closed 0).op d = some o := ho
    obtain ⟨w, hw⟩ : ∃ w, w = ((s.endPulse.drawerRest d .closed 0).setOp d none).placed [(.C, .opDone x)] := ⟨_, rfl⟩
    have hcancel : cancelDrawer d s = (w.kickDriver, accept .empty) := by
      rw [cancelDrawer_pulsing hd hp, rollback_of_plain .cancelled hop hk, hw, hx]
      rfl
    obtain ⟨hgoes, hdrawer, hframe⟩ := pulseEnded_goesOn (s := s) (w := w) (d := d) (oc := s.drc.driver.overcurrents)
      (x := s.pins.sense) (r := { s.drawer d with state := .closed, attempts := 0, waitTimer := 0 })
      (by rw [hw]; simp [State.pulseEnded, State.endPulse, State.setOvercurrents, State.drawerRest])
      (by rw [hw]; simp [State.endPulse, State.drawerRest]) (by rw [hw]; simp [State.endPulse, State.drawerRest]) hgo hd' hnot
    have hwop : ∀ e, w.op e = if d = e ∧ d < 64 then none else s.op e := fun e => by
      rw [hw]
      simp [State.setOp_op, State.endPulse, State.drawerRest]
    have hkop : ∀ e, w.kickDriver.op e = if d = e ∧ d < 64 then none else s.op e := fun e => by
      rw [hframe]
      exact hwop e
    refine ⟨_, exec_accepted rfl h (by rw [touchNamed_of_none rfl]; exact hcancel), ?_, ?_, fun e he => ?_,
      fun hn => absurd hp hn, fun _ => DriverGoesOn.of_drc hgoes (by simp), ?_, ?_⟩
    · simpa using hdrawer
    · simp [hkop, hd']
    · simp [hkop, Ne.symm he]
    · rw [hframe]
      refine eq_of_parts ?_ ?_ ?_ ?_ ?_ ?_ ?_ ?_ ?_ ?_ ?_ ?_ ?_ <;> simp [hw, State.endPulse, State.drawerRest]
    · rw [hframe]
      refine replied_congr ?_ _ _
      show w.ports = _
      rw [hw, hx]
      simp [State.endPulse, State.drawerRest, rolledBackDone]
  · have hr : (s.drawer d).state.releasing = true := by
      rcases hst with h | h | h | h
      · rw [h]; rfl
      · rw [h]; rfl
      · rw [h]; rfl
      · exact absurd h.1 hp
    obtain ⟨q, hq, hcancel⟩ := cancelDrawer_waiting hd hr hp
    have hop : ((s.setReleaseQueue q).drawerRest d .closed 0).op d = some o := ho
    rw [rollback_of_plain .cancelled hop hk] at hcancel
    obtain ⟨w, hw⟩ : ∃ w, w = (((s.setReleaseQueue q).drawerRest d .closed 0).setOp d none).placed [(.C, .opDone x)] := ⟨_, rfl⟩
    have hdone : rolledBackDone ((s.setReleaseQueue q).drawerRest d .closed 0) d o .cancelled = x := by rw [hx]; rfl
    rw [hdone, ← hw] at hcancel
    have hwop : ∀ e, w.op e = if d = e ∧ d < 64 then none else s.op e := fun e => by
      rw [hw]
      simp [State.setOp_op, State.drawerRest]
    have hwdrawer : ∀ e, w.drawer e = if d = e ∧ d < 64 then { s.drawer d with state := .closed, attempts := 0, waitTimer := 0 }
        else s.drawer e := fun e => by
      rw [hw]
      simp [State.setDrawer_drawer, State.drawerRest]
    refine ⟨_, exec_accepted rfl h (by rw [touchNamed_of_none rfl]; exact hcancel), ?_, ?_, fun e he => ?_,
      fun _ => ⟨fun e he => ?_, ?_, ?_⟩, fun hn => absurd hn hp, ?_, ?_⟩
    · simp [hwdrawer, hd']
    · simp [hwop, hd']
    · simp [hwop, Ne.symm he]
    · simp [hwdrawer, Ne.symm he]
    · simp [hw, State.drawerRest]
    · simp [hw, hq, State.drawerRest]
    · refine eq_of_parts ?_ ?_ ?_ ?_ ?_ ?_ ?_ ?_ ?_ ?_ ?_ ?_ ?_ <;> simp [hw, State.drawerRest]
    · refine replied_congr ?_ _ _
      rw [hw, hx]
      simp [State.drawerRest, rolledBackDone]

end Sys2Proof.Machine
end

section
/-! PROOFS. The rollback of an ISSUE, on a cancel and on a jam (O27). -/

namespace Sys2Proof.Machine

open Sys2Proof

variable {s t w v : State} {rel : Option Bool} {a c d p n : Nat} {link k : Bool} {o : Operation} {x : OpOutcome}

/-! ### The undo of an issue (R107) -/

/-- A record that gives up its pocket signals that pocket. -/
theorem changeAsm_leavesPocket {r : AsmRecord} (h : s.pocketOf a = some (c, p)) (hst : (s.asm a).state ≠ r.state)
    (h' : (s.setAsm a r).pocketOf a = none) : s.changeAsm a r = (s.setAsm a r).disturb (.pocket c p) := by
  have hchanged : (s.asm a).handoffChanged r = true := by simp [AsmRecord.handoffChanged, hst]
  unfold State.changeAsm
  dsimp only
  rw [if_pos hchanged, h, h', if_neg nofun]
  rfl

/-- The pocket of an assembly in an ISSUE is the one its operation reserves (R20). -/
theorem pocketOf_issue (ho : s.op d = some ⟨.issue c p link k, a, rel⟩) (hst : (s.asm a).state = .issuing)
    (hstock : (s.asm a).stock = some d) : s.pocketOf a = some (c, p) := by
  unfold State.pocketOf
  simp only [hst, hstock, ho]

/-- The state an undone issue leaves, but for the operation and its notice. -/
theorem undoIssue_eq (ha : a < 512) (ho : w.op d = some ⟨.issue c p link k, a, rel⟩) (hst : (w.asm a).state = .issuing)
    (hstock : (w.asm a).stock = some d) : w.undoIssue a c p link =
      ((((w.setAsm a ((w.asm a).enter .ready)).disturb (.pocket c p)).setPicks
        (if link then movePick w.picks c p .waiting else w.picks)).setPocket c p .empty).notify .M (.pocketChanged c p .empty) := by
  have hnone : (w.setAsm a ((w.asm a).enter .ready)).pocketOf a = none := by
    have hready : ((w.setAsm a ((w.asm a).enter .ready)).asm a).state = .ready := by simp [State.setAsm_asm, ha, AsmRecord.enter]
    exact pocketOf_none (by rw [hready]; nofun) (by rw [hready]; nofun) (by rw [hready]; nofun)
  unfold State.undoIssue
  rw [changeAsm_leavesPocket (pocketOf_issue ho hst hstock) (by rw [hst]; nofun) hnone]
  obtain ⟨v, hv⟩ : ∃ v, v = (w.setAsm a ((w.asm a).enter .ready)).disturb (.pocket c p) := ⟨_, rfl⟩
  have hpicks : v.picks = w.picks := by rw [hv]; simp
  have hsame : v.setPicks w.picks = v := by rw [← hpicks]; rfl
  rw [← hv]
  dsimp only
  rw [hpicks]
  cases link with
  | true => rfl
  | false =>
    rw [if_neg nofun, if_neg nofun, hsame]
    rfl

theorem movePick_eq (l : List Pick) (c p : Nat) (x : PickState) :
    movePick l c p x = l.map fun k => if k.cell = c ∧ k.pocket = p then { k with state := x } else k := by
  unfold movePick
  refine List.map_congr_left fun k _ => ?_
  by_cases h : k.cell = c ∧ k.pocket = p <;> simp [Pick.names, h]

/-! ### The rollback of an ISSUE (R111) -/

/-- An issue is undone in every state that differs in drawers, driver, pins and ports alone. -/
theorem IssueUndone.of_frame (h : IssueUndone s v d a c p link) (ht : t = { v with drc := t.drc, pins := t.pins, ports := t.ports }) :
    IssueUndone s t d a c p link := by
  obtain ⟨hasm, hothers, hpocket, hpockets, hprofile, hpicks, hop, hops, hhob, hframe⟩ := h
  have hatb : t.atb = v.atb := by rw [ht]
  have hctb : t.ctb = v.ctb := by rw [ht]
  have hcoc : t.coc = v.coc := by rw [ht]
  have hthob : t.hob = v.hob := by rw [ht]
  unfold IssueUndone OthersStay OtherPocketsStay OtherOpsStay
  simp only [State.asm, State.pocket, State.profile, State.cell, State.picks, State.op, hatb, hctb, hcoc, hthob]
  refine ⟨hasm, hothers, hpocket, hpockets, hprofile, hpicks, hop, hops, hhob, ?_⟩
  rw [ht, hframe]

theorem IssueUndone.params (h : IssueUndone s t d a c p link) : t.params = s.params := by
  obtain ⟨-, -, -, -, -, -, -, -, -, hframe⟩ := h
  rw [hframe]

/-- The notices of the rollback of an ISSUE. -/
def undoneNotices (d c p : Nat) (o : Operation) (x : OpOutcome) : List (Port × Notice) :=
  [(.M, .pocketChanged c p .empty), (.C, .opDone ⟨d, o, x, none, .ready, some true, none⟩)]

theorem rollback_issueUndone (ha : a < 512) (hc : c < 16) (hp : p < 128) (hd : d < 64)
    (hw : w = { s with drc := w.drc, pins := w.pins, ports := w.ports })
    (ho : s.op d = some o) (hoeq : o = ⟨.issue c p link k, a, rel⟩) (hst : (s.asm a).state = .issuing)
    (hstock : (s.asm a).stock = some d) : IssueUndone s (w.rollback d x) d a c p link ∧
      (w.rollback d x).drc = w.drc ∧ (w.rollback d x).pins = w.pins ∧
      (w.rollback d x).ports = w.ports.placeAll (undoneNotices d c p o x) := by
  have hwatb : w.atb = s.atb := by rw [hw]
  have hwctb : w.ctb = s.ctb := by rw [hw]
  have hwcoc : w.coc = s.coc := by rw [hw]
  have hwhob : w.hob = s.hob := by rw [hw]
  have hwasm : ∀ b, w.asm b = s.asm b := fun b => by simp only [State.asm, hwatb]
  have hwop : w.op d = some ⟨.issue c p link k, a, rel⟩ := by rw [← hoeq, ← ho]; simp only [State.op, hwcoc]
  have hwpicks : w.picks = s.picks := by simp only [State.picks, hwctb]
  obtain ⟨u, hu⟩ : ∃ u, u = (w.setAsm a ((w.asm a).enter .ready)).disturb (.pocket c p) := ⟨_, rfl⟩
  obtain ⟨v, hv⟩ : ∃ v, v = (u.setPicks (if link then movePick w.picks c p .waiting else w.picks)).setPocket c p .empty := ⟨_, rfl⟩
  have hundo := undoIssue_eq ha hwop (by rw [hwasm]; exact hst) (by rw [hwasm]; exact hstock)
  rw [← hu, ← hv] at hundo
  have hvasm : ∀ b, v.asm b = if a = b ∧ a < 512 then (s.asm a).enter .ready else s.asm b := fun b => by
    rw [hv, hu]
    simp [State.setAsm_asm, hwasm]
  have hdone : (v.asm a).state = .ready ∧ (v.asm a).stockedMark = some true := by
    rw [hvasm, if_pos ⟨rfl, ha⟩]
    refine ⟨rfl, ?_⟩
    show some ((s.asm a).stock).isSome = some true
    rw [hstock]
    rfl
  have hroll : w.rollback d x =
      ((v.placed [(.M, .pocketChanged c p .empty)]).setOp d none).placed [(.C, .opDone ⟨d, o, x, none, .ready, some true, none⟩)] := by
    unfold State.rollback
    rw [hwop, hoeq]
    dsimp only
    rw [hundo]
    unfold State.finishOp
    have hasm : ∀ n, (v.notify .M n).asm a = v.asm a := fun n => by simp
    dsimp only
    rw [hasm, hdone.1, hdone.2]
    rfl
  have hvhob : v.hob = (s.disturb (.pocket c p)).hob := by
    rw [hv, hu]
    exact disturb_hob_congr _ (by simp [hwhob]) (fun e => by
      show w.profile e = s.profile e
      simp only [State.profile, State.cell, hwctb])
  have huctb : u.ctb = s.ctb := by rw [hu]; simp [hwctb]
  have hvop : ∀ e, v.op e = s.op e := fun e => by
    rw [hv, hu]
    simp only [State.op]
    simp [hwcoc]
  rw [hroll]
  refine ⟨⟨?_, fun b hb => ?_, ?_, fun e q he => ?_, fun e => ?_, ?_, ?_, fun e he => ?_, ?_, ?_⟩, ?_, ?_, ?_⟩
  · simp [hvasm, ha, AsmRecord.enter, AsmState.mayMeasure, AsmState.mayReject, AsmState.mayStock, AsmState.mayBind]
  · simp [hvasm, Ne.symm hb]
  · simp [hv, State.setPocket_pocket, hc, hp]
  · have hne : ¬((c = e ∧ c < 16) ∧ p = q ∧ p < 128) := fun ⟨⟨hce, _⟩, hpq, _⟩ => he (by rw [hce, hpq])
    have hupocket : u.pocket e q = s.pocket e q := by simp only [State.pocket, State.cell, huctb]
    simp [hv, State.setPocket_pocket, hne, hupocket]
  · have huprofile : u.profile e = s.profile e := by simp only [State.profile, State.cell, huctb]
    simp [hv, State.setPocket_profile, huprofile]
  · rw [← hwpicks, ← movePick_eq]
    simp [hv]
  · simp [State.setOp_op, hd]
  · simp [State.setOp_op, Ne.symm he, hvop]
  · simp [hvhob]
  · have hrest : w.ocu = s.ocu ∧ w.rfs = s.rfs ∧ w.rst = s.rst ∧ w.params = s.params ∧ w.phase = s.phase ∧
        w.pending = s.pending := by
      rw [hw]
      exact ⟨rfl, rfl, rfl, rfl, rfl, rfl⟩
    obtain ⟨hocu, hrfs, hrst, hparams, hphase, hpending⟩ := hrest
    refine eq_of_parts ?_ ?_ ?_ ?_ ?_ ?_ ?_ ?_ ?_ ?_ ?_ ?_ ?_ <;>
      simp [hv, hu, hocu, hrfs, hrst, hparams, hphase, hpending]
  · simp [hv, hu]
  · simp [hv, hu]
  · simp [hv, hu, undoneNotices]

/-- Settles O27, by the rollback of the issue and the driver that goes on. -/
theorem issuesAreRolledBack : Obligations.IssuesAreRolledBack := by
  unfold Obligations.IssuesAreRolledBack
  intro d a c p link picked o s hd ha hc hp ho hoeq hst hstock
  have hd' : d < 64 := by omega
  have hundone : ∀ (w : State) (x : OpOutcome), w = { s with drc := w.drc, pins := w.pins, ports := w.ports } →
      IssueUndone s (w.rollback d x) d a c p link ∧ (w.rollback d x).drc = w.drc ∧ (w.rollback d x).pins = w.pins ∧
        (w.rollback d x).ports = w.ports.placeAll (undoneNotices d c p o x) := fun w x hw =>
    rollback_issueUndone (k := picked) (by omega) (by omega) (by omega) hd' hw ho hoeq hst hstock
  refine ⟨fun tag h hstate => ?_, fun i n oc hactive hpulsing hpstate hnot hfault hn hlimit hi => ?_⟩
  · by_cases hpulsing : (s.drawer d).state = .pulsing
    · obtain ⟨hnot, hgo⟩ : d ∉ s.drc.queue ∧ (s.drc.queue = [] ∨ s.drc.driver.fault = false ∧ s.pins.sense ≠ .asserted) := by
        simpa [hpulsing, DrawerState.waiting] using hstate
      obtain ⟨w, hw⟩ : ∃ w, w = (s.endPulse.drawerRest d .closed 0).rollback d .cancelled := ⟨_, rfl⟩
      obtain ⟨hun, hdrc, hpins, hports⟩ := hundone (s.endPulse.drawerRest d .closed 0) .cancelled rfl
      rw [← hw] at hun hdrc hpins hports
      have hparams : w.params = s.params := IssueUndone.params hun
      have hcancel := cancelDrawer_pulsing hd hpulsing
      rw [← hw] at hcancel
      obtain ⟨hgoes, hdrawer, hframe⟩ := pulseEnded_goesOn (s := s) (w := w) (d := d) (oc := s.drc.driver.overcurrents)
        (x := s.pins.sense) (r := { s.drawer d with state := .closed, attempts := 0, waitTimer := 0 })
        (by rw [hdrc]; rfl) hparams (by rw [hpins]; rfl) hgo hd' hnot
      refine ⟨_, exec_accepted rfl h (by rw [touchNamed_of_none rfl]; exact hcancel), IssueUndone.of_frame hun ?_, ?_, ?_,
        fun hn => absurd hpulsing hn, fun _ => DriverGoesOn.of_drc hgoes (by simp), ?_⟩
      · rw [hframe]
        refine eq_of_parts ?_ ?_ ?_ ?_ ?_ ?_ ?_ ?_ ?_ ?_ ?_ ?_ ?_ <;> simp
      · rw [hframe]
        simp [hpins, State.endPulse, State.drawerRest]
      · simpa using hdrawer
      · rw [hframe]
        refine replied_congr ?_ _ _
        show w.ports = _
        rw [hports, placed_ports_eq]
        rfl
    · have hr : (s.drawer d).state.releasing = true := by
        rcases hstate with h | h | h
        · rw [h]; rfl
        · revert h
          cases (s.drawer d).state <;> simp [DrawerState.waiting, DrawerState.releasing]
        · exact absurd h.1 hpulsing
      obtain ⟨q, hq, hcancel⟩ := cancelDrawer_waiting hd hr hpulsing
      obtain ⟨w, hw⟩ : ∃ w, w = ((s.setReleaseQueue q).drawerRest d .closed 0).rollback d .cancelled := ⟨_, rfl⟩
      obtain ⟨hun, hdrc, hpins, hports⟩ := hundone ((s.setReleaseQueue q).drawerRest d .closed 0) .cancelled rfl
      rw [← hw] at hun hdrc hpins hports hcancel
      have hwdrawer : ∀ e, w.drawer e = if d = e ∧ d < 64 then
          { s.drawer d with state := .closed, attempts := 0, waitTimer := 0 } else s.drawer e := fun e => by
        rw [State.drawer, hdrc]
        exact State.setDrawer_drawer _ _ _ _
      refine ⟨_, exec_accepted rfl h (by rw [touchNamed_of_none rfl]; exact hcancel), IssueUndone.of_frame hun ?_, ?_, ?_,
        fun _ => ⟨fun e he => ?_, ?_, ?_⟩, fun hn => absurd hn hpulsing, ?_⟩
      · refine eq_of_parts ?_ ?_ ?_ ?_ ?_ ?_ ?_ ?_ ?_ ?_ ?_ ?_ ?_ <;> simp
      · simp [hpins, State.drawerRest]
      · simp [hwdrawer, hd']
      · simp [hwdrawer, Ne.symm he]
      · simp [hdrc, State.drawerRest]
      · simp [hdrc, State.drawerRest, hq]
      · refine replied_congr ?_ _ _
        rw [hports, placed_ports_eq]
        rfl
  · obtain ⟨x, hx⟩ : ∃ x, x = if i = .overcurrent then Sense.spent else s.pins.sense := ⟨_, rfl⟩
    have hexec := exec_failedAttempt (oc := oc) hactive hpulsing (hi.imp (fun h => ⟨h.1, h.2.1, h.2.2.1⟩) fun h => ⟨h.1, h.2.1⟩)
    rw [← hx] at hexec
    have hgo : s.drc.queue = [] ∨ s.drc.driver.fault = false ∧ x ≠ .asserted := by
      rcases hi with ⟨rfl, -, -, hgo⟩ | ⟨rfl, -, -⟩
      · exact hgo.imp id fun h => ⟨hfault, by rw [hx]; exact h⟩
      · exact .inr ⟨hfault, by rw [hx]; nofun⟩
    have hoc : (s.pulseEnded oc x).drc.driver.overcurrents ≠ 3 := by
      show oc ≠ 3
      rcases hi with ⟨-, -, rfl, -⟩ | ⟨-, -, h⟩
      · nofun
      · exact h
    rw [failedAttempt_jams (w := s.pulseEnded oc x) hn hoc hlimit] at hexec
    obtain ⟨v, hv⟩ : ∃ v, v = ((s.pulseEnded oc x).drawerRest d .jammed n).placed [(.C, .drawerJammed d n)] := ⟨_, rfl⟩
    obtain ⟨w, hw⟩ : ∃ w, w = v.rollback d .jammed := ⟨_, rfl⟩
    have hvframe : v = { s with drc := v.drc, pins := v.pins, ports := v.ports } := by
      rw [hv]
      refine eq_of_parts ?_ ?_ ?_ ?_ ?_ ?_ ?_ ?_ ?_ ?_ ?_ ?_ ?_ <;>
        simp [State.pulseEnded, State.endPulse, State.setOvercurrents, State.drawerRest]
    obtain ⟨hun, hdrc, hpins, hports⟩ := hundone v .jammed hvframe
    rw [← hw] at hun hdrc hpins hports
    have hparams : w.params = s.params := IssueUndone.params hun
    have hvpins : v.pins = { s.pins with sense := x } := by
      rw [hv]
      simp [State.pulseEnded, State.endPulse, State.setOvercurrents, State.drawerRest]
    rw [← hv, ← hw] at hexec
    obtain ⟨hgoes, hdrawer, hframe⟩ := pulseEnded_goesOn (s := s) (w := w) (d := d) (oc := oc) (x := x)
      (r := { s.drawer d with state := .jammed, attempts := n, waitTimer := 0 })
      (by
        rw [hdrc, hv]
        simp [State.pulseEnded, State.endPulse, State.setOvercurrents, State.drawerRest])
      hparams (by rw [hpins, hvpins]) hgo hd' hnot
    refine ⟨_, hexec, IssueUndone.of_frame hun ?_, hgoes, ?_, hdrawer, ?_⟩
    · rw [hframe]
    · rw [hframe, ← hx]
      exact hpins.trans hvpins
    · rw [hframe]
      show w.ports = _
      rw [hports, hv]
      simp [State.pulseEnded, State.endPulse, State.setOvercurrents, State.drawerRest, undoneNotices]

end Sys2Proof.Machine
end

section
/-! PROOFS. The sister rule (O39). -/

namespace Sys2Proof.Machine

open Sys2Proof

variable {s t w u : State} {a c d p n : Nat}

/-! ### The sister rule (R129 to R132) -/

theorem rank_eq (r : AsmRecord) : r.rank = lifeLeft r := by
  unfold AsmRecord.rank lifeLeft AsmRecord.units
  cases r.mode <;> simp

theorem outlasts_iff (x y : AsmRecord) : x.outlasts y = true ↔ Outlasts x y := by
  unfold AsmRecord.outlasts Outlasts
  rw [rank_eq, rank_eq]
  simp

/-- What outlasts a record outlasts all that do not outlast it, when life limits are positive. -/
theorem Outlasts.of_not {x y z : AsmRecord} (hx : 0 < (lifeLeft x).1) (hy : 0 < (lifeLeft y).1) (hz : 0 < (lifeLeft z).1)
    (hxy : Outlasts x y) (hzy : ¬ Outlasts z y) : Outlasts x z := by
  unfold Outlasts at *
  generalize (lifeLeft x).1 - (lifeLeft x).2 = m at *
  generalize (lifeLeft y).1 - (lifeLeft y).2 = n at *
  generalize (lifeLeft z).1 - (lifeLeft z).2 = k at *
  have h1 : k * (lifeLeft y).1 * (lifeLeft x).1 ≤ n * (lifeLeft z).1 * (lifeLeft x).1 :=
    mul_le_mul_of_nonneg_right (not_lt.mp hzy) hx.le
  have h2 : n * (lifeLeft x).1 * (lifeLeft z).1 < m * (lifeLeft y).1 * (lifeLeft z).1 := mul_lt_mul_of_pos_right hxy hz
  refine lt_of_mul_lt_mul_right (a := (lifeLeft y).1) ?_ hy.le
  calc k * (lifeLeft x).1 * (lifeLeft y).1 = k * (lifeLeft y).1 * (lifeLeft x).1 := by ring
    _ ≤ n * (lifeLeft z).1 * (lifeLeft x).1 := h1
    _ = n * (lifeLeft x).1 * (lifeLeft z).1 := by ring
    _ < m * (lifeLeft y).1 * (lifeLeft z).1 := h2
    _ = m * (lifeLeft z).1 * (lifeLeft y).1 := by ring

theorem Outlasts.asymm {x y : AsmRecord} (h : Outlasts x y) : ¬ Outlasts y x := fun h' => by
  unfold Outlasts at h h'
  exact absurd (h.trans h') (lt_irrefl _)

theorem not_outlasts_self (x : AsmRecord) : ¬ Outlasts x x := fun h => h.asymm h

/-- The choice among the candidates seen so far: none of them outlasts it, and it outlasts each before it. -/
def Best (s : State) (f : Nat → Nat) (l : List Nat) (best : Option Nat) : Prop :=
  (best = none ↔ l = []) ∧ ∀ x, best = some x → x ∈ l ∧ ∀ y ∈ l, ¬ Outlasts (s.asm (f y)) (s.asm (f x)) ∧
    (y < x → Outlasts (s.asm (f x)) (s.asm (f y)))

/-- One more candidate, of a greater number than those seen. -/
theorem Best.better {f : Nat → Nat} {l : List Nat} {best : Option Nat} {x : Nat} (h : Best s f l best)
    (hpos : ∀ y, y ∈ l ∨ y = x → 0 < (lifeLeft (s.asm (f y))).1) (hlt : ∀ y ∈ l, y < x) :
    Best s f (l ++ [x]) (betterOf s f best x) := by
  obtain ⟨hnone, hsome⟩ := h
  cases best with
  | none =>
    obtain rfl := hnone.mp rfl
    refine ⟨by simp [betterOf], fun y hy => ?_⟩
    cases hy
    simp [not_outlasts_self]
  | some b =>
    obtain ⟨hb, hbest⟩ := hsome b rfl
    unfold betterOf
    dsimp only
    by_cases hout : Outlasts (s.asm (f x)) (s.asm (f b))
    · rw [if_pos ((outlasts_iff _ _).mpr hout)]
      refine ⟨by simp, fun y hy => ?_⟩
      cases hy
      refine ⟨by simp, fun y hy => ?_⟩
      rcases List.mem_append.mp hy with hy | hy
      · have hxy : Outlasts (s.asm (f x)) (s.asm (f y)) :=
          Outlasts.of_not (hpos x (.inr rfl)) (hpos b (.inl hb)) (hpos y (.inl hy)) hout (hbest y hy).1
        exact ⟨Outlasts.asymm hxy, fun _ => hxy⟩
      · rw [List.mem_singleton.mp hy]
        exact ⟨not_outlasts_self _, fun h => absurd h (lt_irrefl _)⟩
    · rw [if_neg fun h => hout ((outlasts_iff _ _).mp h)]
      refine ⟨by simp, fun y hy => ?_⟩
      cases hy
      refine ⟨List.mem_append_left _ hb, fun y hy => ?_⟩
      rcases List.mem_append.mp hy with hy | hy
      · exact hbest y hy
      · rw [List.mem_singleton.mp hy]
        exact ⟨hout, fun h => absurd (hlt b hb) (by omega)⟩

theorem foldl_betterOf_best {f : Nat → Nat} {l seen : List Nat} {best : Option Nat} (h : Best s f seen best)
    (hpos : ∀ y ∈ seen ++ l, 0 < (lifeLeft (s.asm (f y))).1) (hsorted : (seen ++ l).Pairwise (· < ·)) :
    Best s f (seen ++ l) (l.foldl (betterOf s f) best) := by
  induction l generalizing seen best with
  | nil => simpa using h
  | cons x l ih =>
    have happend : seen ++ x :: l = (seen ++ [x]) ++ l := by simp
    rw [happend] at hpos hsorted ⊢
    refine ih (h.better (fun y hy => hpos y ?_) fun y hy => ?_) hpos hsorted
    · rcases hy with hy | rfl
      · simp [hy]
      · simp
    · have hpair := List.pairwise_append.mp (List.pairwise_append.mp hsorted).1
      exact hpair.2.2 y hy x (by simp)

theorem best_of_filter (f : Nat → Nat) (q : Nat → Bool) (m : Nat) (hpos : ∀ y < m, q y = true → 0 < (lifeLeft (s.asm (f y))).1) :
    Best s f ((List.range m).filter q) (((List.range m).filter q).foldl (betterOf s f) none) := by
  have hbest : Best s f [] none := ⟨by simp, fun x hx => nomatch hx⟩
  refine foldl_betterOf_best (seen := []) hbest (fun y hy => ?_) ?_
  · obtain ⟨hy, hq⟩ := List.mem_filter.mp hy
    exact hpos y (List.mem_range.mp hy) hq
  · exact List.pairwise_lt_range.filter _

theorem lifeLeft_pos {r : AsmRecord} (h : 1 ≤ r.limit) : 0 < (lifeLeft r).1 := by
  unfold lifeLeft
  split
  · decide
  · show (0 : Int) < (r.limit : Int)
    omega

/-- Settles O39, by what the choice is among the candidates seen so far. -/
theorem sisterRuleChoosesTheLongestLasting : Obligations.SisterRuleChoosesTheLongestLasting := by
  unfold Obligations.SisterRuleChoosesTheLongestLasting
  intro s f c
  refine ⟨fun P hP => ?_, fun hlimit P hP => ?_⟩
  · have hcandidate : ∀ a, a ∈ (List.range 512).filter (s.pickCandidate f) ↔ P a := fun a => by
      rw [hP, List.mem_filter, List.mem_range]
      simp [State.pickCandidate, AsmRecord.readyStocked, AsmRecord.wornOut, Option.isSome_iff_ne_none, and_assoc]
    have hbest := best_of_filter (s := s) id (s.pickCandidate f) 512 fun y hy hq => lifeLeft_pos (by
      obtain ⟨-, -, -, -, -, -, hworn⟩ := (hP y).mp ((hcandidate y).mp (List.mem_filter.mpr ⟨List.mem_range.mpr hy, hq⟩))
      show 1 ≤ (s.asm y).limit
      omega)
    obtain ⟨hnone, hsome⟩ := hbest
    refine ⟨hnone.trans ?_, fun a ha => ?_⟩
    · rw [List.eq_nil_iff_forall_not_mem]
      exact forall_congr' fun a => not_congr (hcandidate a)
    · obtain ⟨hmem, hall⟩ := hsome a ha
      exact ⟨(hcandidate a).mp hmem, fun b hb => hall b ((hcandidate b).mpr hb)⟩
  · have hbound : ∀ p a, s.boundAsm c p = some a ↔ s.pocket c p = .bound a := fun p a => by
      unfold State.boundAsm
      cases s.pocket c p <;> simp
    have hcandidate : ∀ p a, s.pocket c p = .bound a → (p ∈ s.sisterPockets c (some f) ↔ P p a) := fun p a ha => by
      have hsister : s.sisterPocket c (some f) p = (decide ((s.asm a).state = .issued) && decide ((s.asm a).family = some f) &&
          (s.asm a).markSet) := by
        unfold State.sisterPocket
        rw [(hbound p a).mpr ha]
      rw [hP, State.sisterPockets, List.mem_filter, List.mem_range, hsister]
      simp [ha, and_assoc]
    have hmem : ∀ p, p ∈ s.sisterPockets c (some f) → ∃ a, P p a := fun p hp => by
      have hsome : s.sisterPocket c (some f) p = true := (List.mem_filter.mp hp).2
      unfold State.sisterPocket at hsome
      cases hb : s.boundAsm c p with
      | none => rw [hb] at hsome; cases hsome
      | some a => exact ⟨a, (hcandidate p a ((hbound p a).mp hb)).mp hp⟩
    have hname : ∀ p a, P p a → p ∈ s.sisterPockets c (some f) ∧ (s.boundAsm c p).getD 0 = a := fun p a hpa => by
      obtain ⟨-, hb, -⟩ := (hP p a).mp hpa
      exact ⟨(hcandidate p a hb).mpr hpa, by rw [(hbound p a).mpr hb]; rfl⟩
    obtain ⟨hnone, hsome⟩ := best_of_filter (s := s) (fun p => (s.boundAsm c p).getD 0) (s.sisterPocket c (some f)) 128
      fun y _ _ => lifeLeft_pos (hlimit _)
    refine ⟨hnone.trans ?_, fun p hp => ?_⟩
    · rw [List.eq_nil_iff_forall_not_mem]
      refine ⟨fun h p a hpa => h p (hname p a hpa).1, fun h p hp => ?_⟩
      obtain ⟨a, ha⟩ := hmem p hp
      exact h p a ha
    · obtain ⟨hp', hall⟩ := hsome p hp
      obtain ⟨a, ha⟩ := hmem p hp'
      refine ⟨a, ha, fun q b hb => ?_⟩
      have hqb := hall q (hname q b hb).1
      dsimp only at hqb
      rwa [(hname q b hb).2, (hname p a ha).2] at hqb

end Sys2Proof.Machine
end

section
/-! PROOFS. ISSUE and ISSUE_PICK accepted (O38). -/

namespace Sys2Proof.Machine

open Sys2Proof

variable {s t w u : State} {a c d p n : Nat} {link picked : Bool}

/-! ### The reservation (R104) -/

/-- A record that takes the pocket its operation reserves signals that pocket. -/
theorem changeAsm_takesPocket {r : AsmRecord} (h : s.pocketOf a = none) (hst : (s.asm a).state ≠ r.state)
    (h' : (s.setAsm a r).pocketOf a = some (c, p)) : s.changeAsm a r = (s.setAsm a r).disturb (.pocket c p) := by
  have hchanged : (s.asm a).handoffChanged r = true := by simp [AsmRecord.handoffChanged, hst]
  unfold State.changeAsm
  dsimp only
  rw [if_pos hchanged, h, h', if_neg nofun]
  rfl

/-- The state of an accepted ISSUE before its drawer is queued. -/
def State.issueTaken (u : State) (a c p d : Nat) (picked : Bool) : State :=
  ((((((u.setOp d (some ⟨.issue c p (findPick u.picks c p).isSome picked, a, none⟩)).setAsm a
    ((u.asm a).enter .issuing)).disturb (.pocket c p)).setPicks (movePick u.picks c p .inIssue)).setPocket c p (.reserved a)).notify .M
      (.pocketChanged c p (.reserved a)))

theorem movePick_of_none {l : List Pick} (x : PickState) (h : findPick l c p = none) : movePick l c p x = l := by
  unfold movePick
  refine (List.map_congr_left fun k hk => ?_).trans (List.map_id l)
  have hno := List.find?_eq_none.mp h k hk
  rw [if_neg hno]
  rfl

theorem acceptIssue_eq (ha : a < 512) (hd : d < 64) (hst : (u.asm a).state = .ready) (hstock : (u.asm a).stock = some d) :
    u.acceptIssue a c p d picked = (u.issueTaken a c p d picked).acceptOperation d
      ⟨.issue c p (findPick u.picks c p).isSome picked, a, none⟩ := by
  obtain ⟨v, hv⟩ : ∃ v, v = u.setOp d (some ⟨.issue c p (findPick u.picks c p).isSome picked, a, none⟩) := ⟨_, rfl⟩
  have hvasm : v.asm a = u.asm a := by rw [hv]; rfl
  have hbefore : v.pocketOf a = none :=
    pocketOf_none (by rw [hvasm, hst]; nofun) (by rw [hvasm, hst]; nofun) (by rw [hvasm, hst]; nofun)
  have hafter : (v.setAsm a ((u.asm a).enter .issuing)).pocketOf a = some (c, p) := by
    have hrec : (v.setAsm a ((u.asm a).enter .issuing)).asm a = (u.asm a).enter .issuing := by simp [State.setAsm_asm, ha]
    refine pocketOf_issue (rel := none) (d := d) (link := (findPick u.picks c p).isSome) (k := picked) ?_ (by rw [hrec]; rfl) ?_
    · rw [State.setAsm_op, hv, State.setOp_op, if_pos ⟨rfl, hd⟩]
    · rw [hrec]
      exact hstock
  unfold State.acceptIssue State.issueTaken
  dsimp only
  rw [← hv, changeAsm_takesPocket hbefore (by rw [hvasm, hst]; nofun) hafter]
  obtain ⟨x, hx⟩ : ∃ x, x = (v.setAsm a ((u.asm a).enter .issuing)).disturb (.pocket c p) := ⟨_, rfl⟩
  have hpicks : x.picks = u.picks := by rw [hx, hv]; simp
  rw [← hx, hpicks]
  cases hfind : findPick u.picks c p with
  | none =>
    have hsame : x.setPicks u.picks = x := by rw [← hpicks]; rfl
    rw [movePick_of_none _ hfind, hsame]
    rfl
  | some k => rfl

/-- A state in which a request of port C that names `a` has restarted the idle timer of a lock that port C holds (R14). -/
def Touched (s u : State) (a : Nat) : Prop :=
  u = { s with atb := u.atb } ∧ u.asm a = { s.asm a with idle := idleAfterC (s.asm a) } ∧ OthersStay s u a

theorem touched_touch (s : State) (ha : a < 512) : Touched s (s.touch .C a) a := by
  refine ⟨by rw [touch_eq]; rfl, touch_asm_C s ha, fun b hb => ?_⟩
  rw [touch_eq, State.setAsm_asm, if_neg fun h => hb h.1.symm]

theorem touched_self (h : (s.asm a).holder ≠ some .C) : Touched s s a := by
  refine ⟨rfl, ?_, fun _ _ => rfl⟩
  unfold idleAfterC
  rw [if_neg h]

/-- What an accepted ISSUE leaves beside its drawer, the driver and its reply. -/
def IssueTaken (s t : State) (a c p d : Nat) (link picked : Bool) : Prop :=
  OthersStay s t a ∧
    t.asm a = { s.asm a with
      state := .issuing, prior := none, rejected := none, binding := none, idle := idleAfterC (s.asm a) } ∧
    t.pocket c p = .reserved a ∧ OtherPocketsStay s t c p ∧ (∀ e, t.profile e = s.profile e) ∧
    t.picks = s.picks.map (fun k => if k.cell = c ∧ k.pocket = p then { k with state := .inIssue } else k) ∧
    t.op d = some ⟨.issue c p link picked, a, none⟩ ∧ OtherOpsStay s t d ∧ t.hob = (s.disturb (.pocket c p)).hob ∧
    t = { s with atb := t.atb, ctb := t.ctb, drc := t.drc, coc := t.coc, hob := t.hob, pins := t.pins, ports := t.ports }

theorem IssueTaken.of_frame {v : State} (h : IssueTaken s v a c p d link picked)
    (ht : t = { v with drc := t.drc, pins := t.pins, ports := t.ports }) : IssueTaken s t a c p d link picked := by
  obtain ⟨hothers, hasm, hpocket, hpockets, hprofile, hpicks, hop, hops, hhob, hframe⟩ := h
  have hatb : t.atb = v.atb := by rw [ht]
  have hctb : t.ctb = v.ctb := by rw [ht]
  have hcoc : t.coc = v.coc := by rw [ht]
  have hthob : t.hob = v.hob := by rw [ht]
  unfold IssueTaken OthersStay OtherPocketsStay OtherOpsStay
  simp only [State.asm, State.pocket, State.profile, State.cell, State.picks, State.op, hatb, hctb, hcoc, hthob]
  refine ⟨hothers, hasm, hpocket, hpockets, hprofile, hpicks, hop, hops, hhob, ?_⟩
  rw [ht, hframe]

theorem issueTaken_spec (hu : Touched s u a) (ha : a < 512) (hc : c < 16) (hp : p < 128) (hd : d < 64)
    (hlink : link = (findPick s.picks c p).isSome) :
    IssueTaken s (u.issueTaken a c p d picked) a c p d link picked ∧ SameRelease s (u.issueTaken a c p d picked) ∧
      (u.issueTaken a c p d picked).ports = s.ports.placeAll [(.M, .pocketChanged c p (.reserved a))] := by
  obtain ⟨hframe, hasm, hothers⟩ := hu
  have huctb : u.ctb = s.ctb := by rw [hframe]
  have hucoc : u.coc = s.coc := by rw [hframe]
  have huhob : u.hob = s.hob := by rw [hframe]
  have hupicks : u.picks = s.picks := by simp only [State.picks, huctb]
  have hrest : u.ocu = s.ocu ∧ u.rfs = s.rfs ∧ u.drc = s.drc ∧ u.rst = s.rst ∧ u.params = s.params ∧ u.ports = s.ports ∧
      u.phase = s.phase ∧ u.pins = s.pins ∧ u.pending = s.pending := by
    rw [hframe]
    exact ⟨rfl, rfl, rfl, rfl, rfl, rfl, rfl, rfl, rfl⟩
  obtain ⟨hocu, hrfs, hdrc, hrst, hparams, hports, hphase, hpins, hpending⟩ := hrest
  have huasm : ∀ b, ((u.setAsm a ((u.asm a).enter .issuing)).asm b) =
      if a = b ∧ a < 512 then (u.asm a).enter .issuing else u.asm b := fun b => State.setAsm_asm _ _ _ _
  unfold State.issueTaken
  refine ⟨⟨fun b hb => ?_, ?_, ?_, fun e q he => ?_, fun e => ?_, ?_, ?_, fun e he => ?_, ?_, ?_⟩, ⟨?_, ?_, ?_⟩, ?_⟩
  · simp [State.setAsm_asm, Ne.symm hb, hothers b hb]
  · simp [State.setAsm_asm, ha, hasm, AsmRecord.enter, AsmState.mayMeasure, AsmState.mayReject, AsmState.mayStock,
      AsmState.mayBind]
  · simp [State.setPocket_pocket, hc, hp]
  · have hne : ¬((c = e ∧ c < 16) ∧ p = q ∧ p < 128) := fun ⟨⟨hce, _⟩, hpq, _⟩ => he (by rw [hce, hpq])
    have hupocket : u.pocket e q = s.pocket e q := by simp only [State.pocket, State.cell, huctb]
    simp [State.setPocket_pocket, hne, hupocket]
  · have huprofile : u.profile e = s.profile e := by simp only [State.profile, State.cell, huctb]
    simp [State.setPocket_profile, huprofile]
  · rw [← movePick_eq, hupicks]
    simp
  · simp [State.setOp_op, hd, hupicks, hlink]
  · have huop : u.op e = s.op e := by simp only [State.op, hucoc]
    simp [State.setOp_op, Ne.symm he, huop]
  · have hdis := disturb_hob_congr (s := s) (v := (u.setOp d (some ⟨.issue c p (findPick u.picks c p).isSome picked, a, none⟩)).setAsm a
      ((u.asm a).enter .issuing)) (.pocket c p) huhob (fun e => by
        show u.profile e = s.profile e
        simp only [State.profile, State.cell, huctb])
    simp [hdis]
  · refine eq_of_parts ?_ ?_ ?_ ?_ ?_ ?_ ?_ ?_ ?_ ?_ ?_ ?_ ?_ <;> simp [hocu, hrfs, hrst, hparams, hphase, hpending]
  · simp [hdrc]
  · simp [hparams]
  · simp [hpins]
  · simp [hports]

/-- The checks of ISSUE from check 4 on pass in the state that the request finds. -/
theorem issueCheckList_passes (hu : Touched s u a) (hop : s.inOperation a = false) (hst : (s.asm a).state = .ready)
    (hstock : (s.asm a).stock = some d) (hmark : (s.asm a).markSet = true) (hused : (s.asm a).used < 8 * (s.asm a).limit)
    (hsize : p < (s.profile c).size) (hpocket : s.pocket c p = .empty)
    (hpick : ∀ k, findPick s.picks c p = some k → k.state = .waiting ∧ (s.asm a).family = some k.family)
    (hclosed : (s.drawer d).state = .closed) (hmismatch : (s.drawer d).mismatch = false)
    (hfault : s.drc.driver.fault = false) (hcount : s.releaseCount < 8) : firstOf (issueCheckList u a c p d) = none := by
  obtain ⟨hframe, hasm, -⟩ := hu
  have huop : u.inOperation a = s.inOperation a := by rw [hframe]; rfl
  have huprofile : u.profile c = s.profile c := by rw [hframe]; rfl
  have hupocket : u.pocket c p = s.pocket c p := by rw [hframe]; rfl
  have hupicks : u.picks = s.picks := by rw [hframe]; rfl
  have hudrawer : u.drawer d = s.drawer d := by rw [hframe]; rfl
  have hurelease : releaseChecks u d = releaseChecks s d := by rw [hframe]; rfl
  have humark : (u.asm a).markSet = (s.asm a).markSet := by rw [hasm]; rfl
  have hrelease : firstOf (releaseChecks s d) = none := releaseChecks_none.mpr ⟨hclosed, hfault, hcount⟩
  have hany : ((findPick s.picks c p).any fun k => !(decide (k.state = .waiting) && decide ((s.asm a).family = some k.family))) =
      false := by
    cases hk : findPick s.picks c p with
    | none => rfl
    | some k =>
      obtain ⟨hw, hf⟩ := hpick k hk
      simp [hw, hf]
  unfold issueCheckList
  rw [huop, huprofile, hupocket, hupicks, hudrawer, hurelease, humark, hasm]
  simp only [firstOf_cons, hrelease, hany, hop, hst, hstock, hmark, hpocket, hmismatch]
  simp [Nat.not_le.mpr hused, Nat.not_le.mpr hsize, Nat.ne_of_gt (Nat.lt_of_le_of_lt (Nat.zero_le p) hsize)]

/-- The assembly that the sister rule chooses is locked by no port. -/
theorem chooseSister_holder {f : Nat} (h : s.chooseSister f = some a) : (s.asm a).holder = none := by
  obtain ⟨-, hsome⟩ := (sisterRuleChoosesTheLongestLasting s f 0).1 (fun a => a < 512 ∧ (s.asm a).state = .ready ∧
    (s.asm a).stock ≠ none ∧ (s.asm a).markSet = true ∧ (s.asm a).holder = none ∧ (s.asm a).family = some f ∧
    (s.asm a).used < 8 * (s.asm a).limit) fun _ => Iff.rfl
  obtain ⟨⟨-, -, -, -, hholder, -⟩, -⟩ := hsome a h
  exact hholder

/-- Settles O38, by the reservation and the drawer that joins the release queue. -/
theorem issueReservesThePocket : Obligations.IssueReservesThePocket := by
  unfold Obligations.IssueReservesThePocket
  intro i a c p d link picked tag s h ha hc hp hd hi hop hst hstock hmark hused hsize hpocket hlink hpick hclosed hmismatch
    hfault hcount hdriver
  have ha' : a < 512 := by omega
  have hd' : d < 64 := by omega
  have hchecks : ∀ u, Touched s u a → firstOf (issueCheckList u a c p d) = none := fun u hu =>
    issueCheckList_passes hu hop hst hstock hmark hused hsize hpocket hpick hclosed hmismatch hfault hcount
  have hstock' : ∀ {u}, Touched s u a → ∀ e, (u.asm a).stock = some e → e = d := fun {u} hu e he => by
    have hsame : (u.asm a).stock = (s.asm a).stock := by rw [hu.2.1]
    rw [hsame, hstock] at he
    cases he
    rfl
  have htaken : ∃ u, Touched s u a ∧ requestPort i = some .C ∧ s.touchNamed .C i = u ∧
      handler i u = u.acceptIssue a c p d picked := by
    rcases hi with ⟨rfl, rfl, hholder⟩ | ⟨rfl, rfl, k, hk, hsister⟩
    · have hu := touched_touch s ha'
      refine ⟨_, hu, rfl, touchNamed_of_some rfl, ?_⟩
      obtain ⟨-, -, -, -, -, -, -, -, -, -, hx⟩ := (issueAsm_checked (s.touch .C a) a c p d (hstock' hu)).2 (by
        have hlock : ((s.touch .C a).asm a).holder ≠ some .P := by rw [hu.2.1]; exact hholder
        rw [firstOf_cons, firstOf_cons, firstOf_cons, hchecks _ hu]
        simp [hlock, Nat.not_lt.mpr ha, Nat.not_lt.mpr hc, Nat.not_lt.mpr hp])
      exact hx
    · have hu : Touched s s a := touched_self (by rw [chooseSister_holder hsister]; nofun)
      refine ⟨s, hu, rfl, touchNamed_of_none rfl, ?_⟩
      obtain ⟨hwaiting, -⟩ := hpick k hk
      have hsister' : ∀ k', findPick s.picks c p = some k' → k'.state = .waiting →
          s.chooseSister k'.family = some a ∨ s.chooseSister k'.family = none := fun k' hk' _ => by
        rw [hk] at hk'
        cases hk'
        exact .inl hsister
      obtain ⟨-, -, -, -, -, -, -, -, -, k', -, -, -, hx⟩ := (issuePick_checked s a c p d hsister' (hstock' hu)).2 (by
        simp only [firstOf_cons, hchecks _ hu, hk, Option.isNone_some, Option.any_some, hwaiting, hsister]
        simp [Nat.not_lt.mpr hc, Nat.not_lt.mpr hp, Nat.not_le.mpr hsize, Nat.ne_of_gt (Nat.lt_of_le_of_lt (Nat.zero_le p) hsize)])
      exact hx
  obtain ⟨u, hu, hport, htouch, hx⟩ := htaken
  have hlink' : (findPick u.picks c p).isSome = link := by
    rw [hlink, hu.1]
    rfl
  obtain ⟨w, hw⟩ : ∃ w, w = u.issueTaken a c p d picked := ⟨_, rfl⟩
  have hust : (u.asm a).state = .ready := by rw [hu.2.1]; exact hst
  have hustock : (u.asm a).stock = some d := by rw [hu.2.1]; exact hstock
  rw [acceptIssue_eq ha' hd' hust hustock, hlink', ← hw] at hx
  obtain ⟨hissue, hsame, hports⟩ := issueTaken_spec (picked := picked) hu ha' (by omega : c < 16) (by omega : p < 128) hd' hlink
  rw [← hw] at hissue hsame hports
  have hstate : w.acceptedState = if s.drc.driver.pulsing.isSome then .queued else .pulsing := by
    unfold State.acceptedState
    rw [hsame.1]
    cases hpulse : s.drc.driver.pulsing with
    | some e => rfl
    | none =>
      have hq : s.drc.queue = [] := by
        rcases hdriver with h | h
        · rw [hpulse] at h; cases h
        · exact h.1
      simp [hq]
  have hexec := exec_accepted (t := w.requestRelease d) (c := false) (b := .operation (.issue c p link picked) a d w.acceptedState)
    hport h (by rw [htouch]; exact hx)
  rw [hstate] at hexec
  obtain ⟨x, hxeq⟩ : ∃ x, x = okReply tag false (.operation (.issue c p link picked) a d
    (if s.drc.driver.pulsing.isSome then .queued else .pulsing)) := ⟨_, rfl⟩
  rw [← hxeq] at hexec ⊢
  obtain ⟨t, ht⟩ : ∃ t, t = (w.queueDrawer d 0).kickDriver := ⟨_, rfl⟩
  have hgoes : OtherDrawersStay s t d ∧ (s.drc.driver.pulsing.isSome = true → JoinsQueue s t d 0 ∧ t.pins = s.pins) ∧
      (s.drc.driver.pulsing = none → s.pins.sense ≠ .asserted → BeginsPulse s t d 0 ∧ t.pins = s.pins) ∧
      (s.drc.driver.pulsing = none → s.pins.sense = .asserted → PulseFailsAtStart s t d 1) ∧
      t = { w with drc := t.drc, pins := t.pins } := by
    rw [ht]
    have hpins : w.pins = s.pins := hsame.2.2
    cases hpulse : s.drc.driver.pulsing with
    | some e =>
      obtain ⟨hjoins, hothers, hframe⟩ := queueDrawer_joins (n := 0) hsame hd' (by rw [hpulse]; rfl)
      exact ⟨hothers, fun _ => ⟨hjoins, by rw [hframe, hpins]⟩, nofun, nofun, by rw [hframe]⟩
    | none =>
      obtain ⟨hq, hsense⟩ : s.drc.queue = [] ∧ (s.pins.sense ≠ .asserted ∨
          s.drc.driver.overcurrents < 2 ∧ 1 < s.params.attemptLimit) := hdriver.resolve_left (by rw [hpulse]; nofun)
      by_cases hasserted : s.pins.sense = .asserted
      · obtain ⟨hoc, hlimit⟩ := hsense.resolve_left fun h => h hasserted
        obtain ⟨hfails, hothers, hframe⟩ := queueDrawer_fails (n := 0) hsame hd' hpulse hfault hq hasserted hoc hlimit
        exact ⟨hothers, nofun, fun _ h => absurd hasserted h, fun _ _ => hfails, hframe⟩
      · obtain ⟨hbegins, hothers, hframe⟩ := queueDrawer_begins (n := 0) hsame hd' hpulse hfault hq hasserted
        exact ⟨hothers, nofun, fun _ _ => ⟨hbegins, by rw [hframe, hpins]⟩, fun _ h => absurd h hasserted, by rw [hframe]⟩
  obtain ⟨hothers, hjoins, hbegins, hfails, hframe⟩ := hgoes
  have htissue : IssueTaken s t a c p d link picked := IssueTaken.of_frame hissue (by rw [hframe])
  have htaken := IssueTaken.of_frame (t := t.replied .C x) htissue (by
    refine eq_of_parts ?_ ?_ ?_ ?_ ?_ ?_ ?_ ?_ ?_ ?_ ?_ ?_ ?_ <;> simp)
  obtain ⟨h1, h2, h3, h4, h5, h6, h7, h8, h9, h10⟩ := htaken
  refine ⟨_, ht ▸ hexec, h1, h2, h3, h4, h5, h6, h7, h8, OtherDrawersStay.of_drc hothers (by simp),
    fun hb => ⟨JoinsQueue.of_drc (hjoins hb).1 (by simp), by simpa using (hjoins hb).2⟩,
    fun hi hs => ⟨BeginsPulse.of_drc (hbegins hi hs).1 (by simp), by simpa using (hbegins hi hs).2⟩,
    fun hi hs => PulseFailsAtStart.of_drc (hfails hi hs) (by simp) (by simp), h9, h10, ?_⟩
  refine replied_congr ?_ _ _
  rw [hframe, placed_ports_eq]
  exact hports

end Sys2Proof.Machine
end

section
/-! PROOFS. The close of a STOCK or a WITHDRAW (O40). -/

namespace Sys2Proof.Machine

open Sys2Proof

variable {s t v w : State} {a d : Nat} {o : Operation}

/-! ### A close with an operation (R72) -/

/-- A drawer closed with its operation: the drawer's record is written, and the operation ends. -/
theorem exec_closeSeen {d : Fin 64} (hactive : s.phase.active = true) (hl : (s.drawer d).levelOpen = true) (ho : s.op d = some o) :
    exec (.closeSeen d) s = .next ((s.setDrawer d (s.drawer d).closedNow).closeOp d o (s.drawer d).present) := by
  have hd : d.val < 64 := d.isLt
  have hexec : exec (.closeSeen d) s = .next (s.seeClose d) := exec_event rfl s
  have hop : (s.setDrawer d (s.drawer d).closedNow).op d = some o := ho
  have hdrawer : ((s.setDrawer d (s.drawer d).closedNow).drawer d).present = (s.drawer d).present := by
    rw [setDrawer_same s hd]
    rfl
  rw [hexec, seeClose_of_active hactive hl]
  unfold State.closeEvent
  rw [closeDrawer_setOpenLevel s hd]
  simp only [hop, hdrawer]

theorem closedWith_eq (r : Drawer) (x : Option Nat) (m : Bool) : closedWith r x m = { r.closedNow with stock := x, mismatch := m } :=
  rfl

/-- A changed stock changes the persistent view. -/
theorem viewChanged_of_stock {r x : AsmRecord} (h : r.stock ≠ x.stock) : r.viewChanged x = true := by
  unfold AsmRecord.viewChanged
  exact decide_eq_true fun he => h (AsmRecord.mk.inj he |>.2.2.2.2.2.2.2.2.2.2.2.2.2.2.2.1)

/-- The assembly and the drawer written by a close that changes both, and both dirtied. -/
def State.bothWritten (s : State) (a d : Nat) (r : AsmRecord) (x : Drawer) : State :=
  (((s.setAsm a r).setDrawer d x).dirty a).dirty (drawerKey d)

theorem bothWritten_dirties (s : State) (ha : a < 512) (d : Nat) (r : AsmRecord) (x : Drawer) :
    Dirties s (s.bothWritten a d r x) [a, 512 + d] := by
  have hone : Dirties s (((s.setAsm a r).setDrawer d x).dirty a) [a] :=
    dirties_one (u := (s.setAsm a r).setDrawer d x) rfl rfl (by simp)
  refine hone.snoc (k := 512 + d) ?_
  simp
  omega

/-- The closes that write both records, in the words of the model. -/
theorem commit_bothWritten {r old : AsmRecord} {x dr : Drawer} (ha : a < 512) (hd : d < 64) (hr : old.stock ≠ r.stock)
    (hx : dr.stock ≠ x.stock) :
    (((v.setAsm a r).setDrawer d x).commitChange a old).commitDrawer d dr = v.bothWritten a d r x := by
  have hasm : ((v.setAsm a r).setDrawer d x).asm a = r := by simp [State.setAsm_asm, ha]
  have hdrawer : (((v.setAsm a r).setDrawer d x).dirty a).drawer d = x := by simp [State.setDrawer_drawer, hd]
  unfold State.commitChange State.bothWritten
  rw [hasm, if_pos (viewChanged_of_stock hr)]
  unfold State.commitDrawer
  rw [hdrawer, if_neg fun h => hx h.1.symm]

/-- A write of the stock behind a close writes the closed drawer's record. -/
theorem setDrawer_setStock (s : State) (hd : d < 64) (r : Drawer) (x : Option Nat) (m : Bool) :
    (s.setDrawer d r).setStock d x m = s.setDrawer d { r with stock := x, mismatch := m } := by
  unfold State.setStock
  rw [setDrawer_same s hd, setDrawer_setDrawer]

theorem setDrawer_setAsm (s : State) (d a : Nat) (x : Drawer) (r : AsmRecord) :
    (s.setDrawer d x).setAsm a r = (s.setAsm a r).setDrawer d x := rfl

/-! ### The close of a STOCK (R100) and of a WITHDRAW (R102) -/

theorem closeStock_completed (ha : a < 512) (hd : d < 64) (hoa : o.asm = a) (hempty : (s.drawer d).stock = none)
    (hmark : (s.drawer d).mismatch = false) (hst : (s.asm a).state = .ready) (hstock : (s.asm a).stock = none) :
    (s.setDrawer d (s.drawer d).closedNow).closeStock d o true =
      (s.bothWritten a d { s.asm a with stock := some d } (closedWith (s.drawer d) (some a) false)).finishOp d o .completed
        (some true) (some false) := by
  subst hoa
  have hsame : ((s.setDrawer d (s.drawer d).closedNow).asm o.asm).handoffChanged { s.asm o.asm with stock := some d } = false := by
    simp [AsmRecord.handoffChanged, AsmRecord.markSet]
  have hasm : (s.setDrawer d (s.drawer d).closedNow).asm o.asm = s.asm o.asm := rfl
  have hready : (s.asm o.asm).readyUnstocked = true := by
    simp [AsmRecord.readyUnstocked, hst, hstock]
  unfold State.closeStock
  dsimp only
  rw [hasm, if_pos rfl, if_pos hready, changeAsm_same _ _ hsame, setDrawer_same s hd, setDrawer_setAsm, setDrawer_setStock _ hd,
    commit_bothWritten ha hd (by simp [hstock]) (by simp [Drawer.closedNow, hempty])]
  unfold closedWith Drawer.closedNow
  rw [hmark]

theorem closeStock_lost (hd : d < 64) (hempty : (s.drawer d).stock = none) (hmark : (s.drawer d).mismatch = false)
    (hst : ¬((s.asm o.asm).state = .ready ∧ (s.asm o.asm).stock = none)) :
    (s.setDrawer d (s.drawer d).closedNow).closeStock d o true =
      (((s.placed [(.C, .stockMismatch d none true)]).setDrawer d (closedWith (s.drawer d) none true)).dirty (drawerKey d)).finishOp
        d o .abandoned (some true) (some true) := by
  have hready : ((s.setDrawer d (s.drawer d).closedNow).asm o.asm).readyUnstocked = false := by
    by_cases h1 : (s.asm o.asm).state = .ready
    · by_cases h2 : (s.asm o.asm).stock = none
      · exact absurd ⟨h1, h2⟩ hst
      · have hsome : (s.asm o.asm).stock.isNone = false := by simpa [Option.isSome_iff_ne_none] using h2
        simp [AsmRecord.readyUnstocked, hsome]
    · simp [AsmRecord.readyUnstocked, h1]
  unfold State.closeStock
  dsimp only
  rw [if_pos rfl, hready, if_neg nofun, setDrawer_same s hd, setDrawer_setStock _ hd, setDrawer_notify]
  have hdrawer : ((s.notify .C (.stockMismatch d none true)).setDrawer d
      { (s.drawer d).closedNow with stock := (s.drawer d).closedNow.stock, mismatch := true }).drawer d =
        { (s.drawer d).closedNow with stock := (s.drawer d).closedNow.stock, mismatch := true } := setDrawer_same _ hd _
  unfold State.commitDrawer
  rw [hdrawer, if_neg (by simp [Drawer.closedNow, hmark])]
  unfold closedWith Drawer.closedNow
  rw [hempty]
  rfl

theorem closeWithdraw_completed (ha : a < 512) (hd : d < 64) (hoa : o.asm = a) (hempty : (s.drawer d).stock = some a)
    (hmark : (s.drawer d).mismatch = false) (hstock : (s.asm a).stock = some d) :
    (s.setDrawer d (s.drawer d).closedNow).closeWithdraw d o false =
      (s.bothWritten a d { s.asm a with stock := none } (closedWith (s.drawer d) none false)).finishOp d o .completed
        (some false) none := by
  subst hoa
  have hsame : ((s.setDrawer d (s.drawer d).closedNow).asm o.asm).handoffChanged { s.asm o.asm with stock := none } = false := by
    simp [AsmRecord.handoffChanged, AsmRecord.markSet]
  have hasm : (s.setDrawer d (s.drawer d).closedNow).asm o.asm = s.asm o.asm := rfl
  unfold State.closeWithdraw
  dsimp only
  rw [hasm, if_neg nofun, changeAsm_same _ _ hsame, setDrawer_same s hd, setDrawer_setAsm, setDrawer_setStock _ hd,
    commit_bothWritten ha hd (by simp [hstock]) (by simp [Drawer.closedNow, hempty])]
  unfold closedWith Drawer.closedNow
  rw [hmark]

/-! ### What every close with an operation leaves -/

/-- A close with an operation has ended it, and only drawer `d` and assembly `a` have moved, with the cells, the blocks and the
store that depend on them. -/
def OpEnded (s t : State) (d a : Nat) : Prop :=
  t.op d = none ∧ OtherOpsStay s t d ∧ OtherDrawersStay s t d ∧ OthersStay s t a ∧ t.drc.queue = s.drc.queue ∧
    t.drc.driver = s.drc.driver ∧
    t = { s with atb := t.atb, drc := t.drc, coc := t.coc, ctb := t.ctb, hob := t.hob, rst := t.rst, ports := t.ports }

theorem opEnded_finishOp {x : OpOutcome} {y z : Option Bool} (hd : d < 64) (hcoc : v.coc = s.coc) (hdrawers : OtherDrawersStay s v d)
    (hasm : OthersStay s v a) (hqueue : v.drc.queue = s.drc.queue) (hdriver : v.drc.driver = s.drc.driver)
    (hframe : v = { s with
      atb := v.atb, drc := v.drc, coc := v.coc, ctb := v.ctb, hob := v.hob, rst := v.rst, ports := v.ports }) :
    OpEnded s (v.finishOp d o x y z) d a := by
  refine ⟨by simp [hd], fun e he => ?_, fun e he => ?_, fun b hb => ?_, by simpa using hqueue, by simpa using hdriver, ?_⟩
  · have hop : v.op e = s.op e := by simp only [State.op, hcoc]
    simp [Ne.symm he, hop]
  · simpa using hdrawers e he
  · simpa using hasm b hb
  · have hocu : v.ocu = s.ocu := by rw [hframe]
    have hrfs : v.rfs = s.rfs := by rw [hframe]
    have hparams : v.params = s.params := by rw [hframe]
    have hphase : v.phase = s.phase := by rw [hframe]
    have hpins : v.pins = s.pins := by rw [hframe]
    have hpending : v.pending = s.pending := by rw [hframe]
    refine eq_of_parts ?_ ?_ ?_ ?_ ?_ ?_ ?_ ?_ ?_ ?_ ?_ ?_ ?_ <;> simp [hocu, hrfs, hparams, hphase, hpins, hpending]

theorem bothWritten_eq (s : State) (a d : Nat) (r : AsmRecord) (x : Drawer) : s.bothWritten a d r x =
    { (s.setAsm a r).setDrawer d x with rst := (s.bothWritten a d r x).rst } := by
  unfold State.bothWritten
  refine eq_of_parts ?_ ?_ ?_ ?_ ?_ ?_ ?_ ?_ ?_ ?_ ?_ ?_ ?_ <;> simp

theorem opEnded_bothWritten {x : OpOutcome} {y z : Option Bool} (hd : d < 64) (r : AsmRecord) (q : Drawer) :
    OpEnded s ((s.bothWritten a d r q).finishOp d o x y z) d a := by
  refine opEnded_finishOp hd ?_ (fun e he => ?_) (fun b hb => ?_) ?_ ?_ ?_ <;> rw [bothWritten_eq]
  · rfl
  · show ((s.setAsm a r).setDrawer d q).drawer e = _
    simp [State.setDrawer_drawer, Ne.symm he]
  · show (s.setAsm a r).asm b = _
    simp [State.setAsm_asm, Ne.symm hb]
  · rfl
  · rfl
  · rfl

theorem bothWritten_asm (s : State) (ha : a < 512) (d : Nat) (r : AsmRecord) (x : Drawer) : (s.bothWritten a d r x).asm a = r := by
  rw [bothWritten_eq]
  show (s.setAsm a r).asm a = r
  simp [State.setAsm_asm, ha]

theorem bothWritten_drawer (s : State) (a : Nat) (hd : d < 64) (r : AsmRecord) (x : Drawer) :
    (s.bothWritten a d r x).drawer d = x := by
  rw [bothWritten_eq]
  show ((s.setAsm a r).setDrawer d x).drawer d = x
  simp [State.setDrawer_drawer, hd]

theorem bothWritten_ports (s : State) (a d : Nat) (r : AsmRecord) (x : Drawer) : (s.bothWritten a d r x).ports = s.ports := by
  rw [bothWritten_eq]
  rfl

theorem bothWritten_ctb (s : State) (a d : Nat) (r : AsmRecord) (x : Drawer) : (s.bothWritten a d r x).ctb = s.ctb := by
  rw [bothWritten_eq]
  rfl

theorem bothWritten_hob (s : State) (a d : Nat) (r : AsmRecord) (x : Drawer) : (s.bothWritten a d r x).hob = s.hob := by
  rw [bothWritten_eq]
  rfl

theorem finishOp_dirties {l : List Nat} {x : OpOutcome} {y z : Option Bool} (h : Dirties s v l) :
    Dirties s (v.finishOp d o x y z) l :=
  h.congr (by simp) fun k _ => by simp

theorem closeOp_stock (s : State) (h : o.kind = .stock) (k : Bool) : s.closeOp d o k = s.closeStock d o k := by
  unfold State.closeOp
  rw [h]

theorem closeOp_withdraw (s : State) (h : o.kind = .withdraw) (k : Bool) : s.closeOp d o k = s.closeWithdraw d o k := by
  unfold State.closeOp
  rw [h]

/-- A close that abandons its operation writes nothing but the drawer and the operation. -/
theorem opEnded_abandoned {x : OpOutcome} {y z : Option Bool} (hd : d < 64) (q : Drawer) :
    OpEnded s ((s.setDrawer d q).finishOp d o x y z) d a :=
  opEnded_finishOp hd rfl (fun e he => by simp [State.setDrawer_drawer, Ne.symm he]) (fun _ _ => rfl) rfl rfl rfl

/-- The close of an operation that finds presence as before. -/
theorem closeWith_abandoned {y z : Option Bool} (hd : d < 64) :
    ((s.setDrawer d (s.drawer d).closedNow).finishOp d o .abandoned y z).drawer d = (s.drawer d).closedNow ∧
    ((s.setDrawer d (s.drawer d).closedNow).finishOp d o .abandoned y z).atb = s.atb ∧
    ((s.setDrawer d (s.drawer d).closedNow).finishOp d o .abandoned y z).ctb = s.ctb ∧
    ((s.setDrawer d (s.drawer d).closedNow).finishOp d o .abandoned y z).hob = s.hob ∧
    ((s.setDrawer d (s.drawer d).closedNow).finishOp d o .abandoned y z).rst = s.rst ∧
    ((s.setDrawer d (s.drawer d).closedNow).finishOp d o .abandoned y z).ports =
      (s.placed [(.C, .opDone ⟨d, o, .abandoned, y, (s.asm o.asm).state, (s.asm o.asm).stockedMark, z⟩)]).ports := by
  refine ⟨?_, ?_, ?_, ?_, ?_, ?_⟩ <;> simp [State.setDrawer_drawer, hd]

/-- The stocked mark of a record that can be stocked. -/
theorem stockedMark_held {r : AsmRecord} (h : r.state = .ready ∨ r.state = .regrind) : r.stockedMark = some r.stock.isSome := by
  unfold AsmRecord.stockedMark
  rcases h with h | h <;> simp only [h]

/-- What a STOCK or a WITHDRAW that ends leaves: no cell and no block moves. -/
theorem OpEnded.records (h : OpEnded s t d a) (hctb : t.ctb = s.ctb) (hhob : t.hob = s.hob) :
    t = { s with atb := t.atb, drc := t.drc, coc := t.coc, rst := t.rst, ports := t.ports } := by
  obtain ⟨-, -, -, -, -, -, hframe⟩ := h
  rw [hctb, hhob] at hframe
  exact hframe

/-- Settles O40, by the kind of the operation and the presence level. -/
theorem stockAndWithdrawEnd : Obligations.StockAndWithdrawEnd := by
  unfold Obligations.StockAndWithdrawEnd
  intro d a rel o s hactive hl ho ha hmark hkind
  have hd : d.val < 64 := d.isLt
  have ha' : a < 512 := by omega
  rw [exec_closeSeen hactive hl ho]
  have hoa : o.asm = a := by
    rcases hkind with ⟨rfl, -⟩ | ⟨rfl, -⟩ <;> rfl
  have hwritten : ∀ (r : AsmRecord) (q : Drawer) (x : OpOutcome) (y z : Option Bool) (t : State),
      t = (s.bothWritten a d r q).finishOp d o x y z → OpEnded s t d a ∧ t.ctb = s.ctb ∧ t.hob = s.hob ∧ t.asm a = r ∧
        t.drawer d = q ∧ Dirties s t [a, 512 + d.val] ∧
        t.ports = (s.placed [(.C, .opDone ⟨d, o, x, y, r.state, r.stockedMark, z⟩)]).ports := by
    rintro r q x y z t rfl
    refine ⟨opEnded_bothWritten hd r q, ?_, ?_, ?_, ?_, finishOp_dirties (bothWritten_dirties s ha' d r q), ?_⟩
    · simp [bothWritten_ctb]
    · simp [bothWritten_hob]
    · simpa using bothWritten_asm s ha' d r q
    · simpa using bothWritten_drawer s a hd r q
    · simp [bothWritten_ports, hoa, bothWritten_asm s ha' d r q]
  have habandoned : ∀ (y z : Option Bool) (t : State),
      t = (s.setDrawer d (s.drawer d).closedNow).finishOp d o .abandoned y z → OpEnded s t d a ∧
        t.drawer d = (s.drawer d).closedNow ∧ t.atb = s.atb ∧ t.ctb = s.ctb ∧ t.hob = s.hob ∧ t.rst = s.rst ∧
        t.ports = (s.placed [(.C, .opDone ⟨d, o, .abandoned, y, (s.asm o.asm).state, (s.asm o.asm).stockedMark, z⟩)]).ports := by
    rintro y z t rfl
    exact ⟨opEnded_abandoned hd _, closeWith_abandoned hd⟩
  rcases hkind with ⟨rfl, hempty⟩ | ⟨rfl, hstocked, hstock, hheld⟩
  · rw [closeOp_stock _ rfl]
    cases hp : (s.drawer d).present with
    | false =>
      obtain ⟨t, ht⟩ : ∃ t, t = (s.setDrawer d (s.drawer d).closedNow).closeStock d ⟨.stock, a, rel⟩ false := ⟨_, rfl⟩
      obtain ⟨hends, hdrawer, hatb, hctb, hhob, hrst, hports⟩ := habandoned (some false) (some false) t ht
      have hframe := hends.records hctb hhob
      obtain ⟨hop, hops, hdrawers, hothers, hqueue, hdriver, -⟩ := hends
      refine ⟨t, by rw [ht], hop, hops, hdrawers, hothers, hqueue, hdriver, hframe, (fun _ h => nomatch h), (fun _ h => nomatch h),
        nofun, fun _ => ⟨by simp only [State.asm, hatb], ?_, hrst, hports⟩⟩
      rw [hdrawer, ← hmark]
      rfl
    | true =>
      by_cases hready : (s.asm a).state = .ready ∧ (s.asm a).stock = none
      · obtain ⟨t, ht⟩ : ∃ t, t = (s.setDrawer d (s.drawer d).closedNow).closeStock d ⟨.stock, a, rel⟩ true := ⟨_, rfl⟩
        obtain ⟨hends, hctb, hhob, hasm, hdrawer, hdirties, hports⟩ := hwritten _ _ _ _ _ t
          (ht.trans (closeStock_completed ha' hd rfl hempty hmark hready.1 hready.2))
        have hframe := hends.records hctb hhob
        obtain ⟨hop, hops, hdrawers, hothers, hqueue, hdriver, -⟩ := hends
        refine ⟨t, by rw [ht], hop, hops, hdrawers, hothers, hqueue, hdriver, hframe,
          fun _ _ _ _ => ⟨hasm, hdrawer, hdirties, ?_⟩, (fun _ _ h => absurd hready h), nofun, nofun⟩
        rw [hports, stockedMark_held (r := { s.asm a with stock := some d.val }) (.inl hready.1)]
        simp only [hready.1]
        rfl
      · obtain ⟨v, hv⟩ : ∃ v, v = ((s.placed [(.C, .stockMismatch d none true)]).setDrawer d
            (closedWith (s.drawer d) none true)).dirty (drawerKey d) := ⟨_, rfl⟩
        have hlost := closeStock_lost (o := ⟨.stock, a, rel⟩) hd hempty hmark hready
        rw [← hv] at hlost
        have hvdirties : Dirties s v [512 + d.val] :=
          dirties_one (u := (s.placed [(.C, .stockMismatch d none true)]).setDrawer d (closedWith (s.drawer d) none true))
            (by simp) (by rw [hv]; rfl) (by rw [hv]; simp)
        have hveq : v = { (s.placed [(.C, .stockMismatch d none true)]).setDrawer d (closedWith (s.drawer d) none true) with
            rst := v.rst } := by
          rw [hv]
          refine eq_of_parts ?_ ?_ ?_ ?_ ?_ ?_ ?_ ?_ ?_ ?_ ?_ ?_ ?_ <;> simp
        have hvdrawer : ∀ e, v.drawer e = if d.val = e ∧ d.val < 64 then closedWith (s.drawer d) none true else s.drawer e := fun e => by
          rw [hv]
          simp [State.setDrawer_drawer]
        have hends : OpEnded s (v.finishOp d ⟨.stock, a, rel⟩ .abandoned (some true) (some true)) d a := by
          refine opEnded_finishOp hd ?_ (fun e he => ?_) (fun b hb => ?_) ?_ ?_ ?_
          · rw [hv]; simp
          · simp [hvdrawer, Ne.symm he]
          · rw [hv]; simp
          · rw [hv]; simp
          · rw [hv]; simp
          · rw [hv]
            refine eq_of_parts ?_ ?_ ?_ ?_ ?_ ?_ ?_ ?_ ?_ ?_ ?_ ?_ ?_ <;> simp
        have hasm : v.asm a = s.asm a := by rw [hv]; simp
        have hframe := hends.records (by rw [hv]; simp) (by rw [hv]; simp)
        obtain ⟨hop, hops, hdrawers, hothers, hqueue, hdriver, -⟩ := hends
        refine ⟨_, congrArg _ hlost, hop, hops, hdrawers, hothers, hqueue, hdriver, hframe,
          (fun _ _ h h' => absurd ⟨h, h'⟩ hready), fun _ _ _ => ⟨?_, ?_, finishOp_dirties hvdirties, ?_⟩, nofun, nofun⟩
        · simpa using hasm
        · simpa [hd] using hvdrawer d
        · have hports : v.ports = (s.placed [(.C, .stockMismatch d none true)]).ports := by rw [hv]; simp
          simp [hasm, hports]
  · rw [closeOp_withdraw _ rfl]
    cases hp : (s.drawer d).present with
    | true =>
      obtain ⟨t, ht⟩ : ∃ t, t = (s.setDrawer d (s.drawer d).closedNow).closeWithdraw d ⟨.withdraw, a, rel⟩ true := ⟨_, rfl⟩
      obtain ⟨hends, hdrawer, hatb, hctb, hhob, hrst, hports⟩ := habandoned (some true) none t ht
      have hframe := hends.records hctb hhob
      obtain ⟨hop, hops, hdrawers, hothers, hqueue, hdriver, -⟩ := hends
      refine ⟨t, by rw [ht], hop, hops, hdrawers, hothers, hqueue, hdriver, hframe, nofun, nofun, (fun _ h => nomatch h),
        fun _ => ⟨by simp only [State.asm, hatb], ?_, hrst, hports⟩⟩
      rw [hdrawer, ← hmark]
      rfl
    | false =>
      obtain ⟨t, ht⟩ : ∃ t, t = (s.setDrawer d (s.drawer d).closedNow).closeWithdraw d ⟨.withdraw, a, rel⟩ false := ⟨_, rfl⟩
      obtain ⟨hends, hctb, hhob, hasm, hdrawer, hdirties, hports⟩ := hwritten _ _ _ _ _ t
        (ht.trans (closeWithdraw_completed ha' hd rfl hstocked hmark hstock))
      have hframe := hends.records hctb hhob
      obtain ⟨hop, hops, hdrawers, hothers, hqueue, hdriver, -⟩ := hends
      refine ⟨t, by rw [ht], hop, hops, hdrawers, hothers, hqueue, hdriver, hframe, nofun, nofun,
        fun _ _ => ⟨hasm, hdrawer, hdirties, ?_⟩, nofun⟩
      rw [hports, stockedMark_held (r := { s.asm a with stock := none }) hheld]
      rfl

end Sys2Proof.Machine
end

section
/-! PROOFS. The close of an ISSUE or a RETURN: the pocket moves with its assembly (O41). -/

namespace Sys2Proof.Machine

open Sys2Proof

variable {s t v w : State} {a c d p : Nat} {link k : Bool} {rel : Option Bool} {o : Operation} {r : AsmRecord} {q : Drawer}
  {l : List Pick} {e : Pocket} {ns : List (Port × Notice)}

/-! ### A pocket that moves with its assembly -/

/-- Assembly `a`, drawer `d` and pocket `p` of cell `c` written, the pocket signalled, the pick list and the notices moved. -/
def State.pocketMoved (s : State) (a d c p : Nat) (r : AsmRecord) (q : Drawer) (l : List Pick) (e : Pocket)
    (ns : List (Port × Notice)) : State :=
  (((((s.setDrawer d q).setAsm a r).disturb (.pocket c p)).setPicks l).setPocket c p e).placed ns

theorem pocketMoved_frame (s : State) (a d c p : Nat) (r : AsmRecord) (q : Drawer) (l : List Pick) (e : Pocket)
    (ns : List (Port × Notice)) :
    (s.pocketMoved a d c p r q l e ns).atb = (s.setAsm a r).atb ∧ (s.pocketMoved a d c p r q l e ns).ocu = s.ocu ∧
      (s.pocketMoved a d c p r q l e ns).rfs = s.rfs ∧ (s.pocketMoved a d c p r q l e ns).drc = (s.setDrawer d q).drc ∧
      (s.pocketMoved a d c p r q l e ns).coc = s.coc ∧
      (s.pocketMoved a d c p r q l e ns).ctb = ((s.setPicks l).setPocket c p e).ctb ∧
      (s.pocketMoved a d c p r q l e ns).hob = (s.disturb (.pocket c p)).hob ∧
      (s.pocketMoved a d c p r q l e ns).rst = s.rst ∧ (s.pocketMoved a d c p r q l e ns).params = s.params ∧
      (s.pocketMoved a d c p r q l e ns).ports = s.ports.placeAll ns ∧
      (s.pocketMoved a d c p r q l e ns).phase = s.phase ∧ (s.pocketMoved a d c p r q l e ns).pins = s.pins ∧
      (s.pocketMoved a d c p r q l e ns).pending = s.pending := by
  have hhob : (((s.setDrawer d q).setAsm a r).disturb (.pocket c p)).hob = (s.disturb (.pocket c p)).hob :=
    disturb_hob_congr _ rfl fun _ => rfl
  obtain ⟨v, hv⟩ : ∃ v, v = ((s.setDrawer d q).setAsm a r).disturb (.pocket c p) := ⟨_, rfl⟩
  have hctb : v.ctb = s.ctb := by rw [hv]; simp
  unfold State.pocketMoved
  rw [← hv] at hhob ⊢
  refine ⟨by simp [hv], by simp [hv], by simp [hv], by simp [hv], by simp [hv], ?_, by simp [hhob], by simp [hv], by simp [hv],
    by simp [hv], by simp [hv], by simp [hv], by simp [hv]⟩
  have hplaced : ∀ u : State, (u.placed ns).ctb = u.ctb := fun u => by simp
  rw [hplaced]
  unfold State.setPocket State.setPicks State.cell
  simp only [hctb]

/-- An operation has ended whose assembly, drawer and pocket moved together, the pocket signalled. -/
def PocketOpEnded (s t : State) (a d c p : Nat) (r : AsmRecord) (q : Drawer) (l : List Pick) (e : Pocket) : Prop :=
  OpEnded s t d a ∧ t.asm a = r ∧ t.drawer d = q ∧ t.pocket c p = e ∧ OtherPocketsStay s t c p ∧
    (∀ x, t.profile x = s.profile x) ∧ t.picks = l ∧ t.hob = (s.disturb (.pocket c p)).hob

/-- The end of an operation behind a moved pocket and the keys that were dirtied. -/
theorem pocketOpEnded_finishOp {x : OpOutcome} {y z : Option Bool} (ha : a < 512) (hd : d < 64) (hc : c < 16) (hp : p < 128)
    (hoa : o.asm = a) (hv : v = { s.pocketMoved a d c p r q l e ns with rst := v.rst }) :
    PocketOpEnded s (v.finishOp d o x y z) a d c p r q l e ∧ (v.finishOp d o x y z).rst = v.rst ∧
      (v.finishOp d o x y z).ports =
        (s.placed (ns ++ [(.C, .opDone ⟨d, o, x, y, r.state, r.stockedMark, z⟩)])).ports := by
  obtain ⟨hatb, hocu, hrfs, hdrc, hcoc, hctb, hhob, -, hparams, hports, hphase, hpins, hpending⟩ :=
    pocketMoved_frame s a d c p r q l e ns
  obtain ⟨m, hm⟩ : ∃ m, m = s.pocketMoved a d c p r q l e ns := ⟨_, rfl⟩
  rw [← hm] at hv hatb hocu hrfs hdrc hcoc hctb hhob hparams hports hphase hpins hpending
  have hasm : ∀ b, v.asm b = if a = b ∧ a < 512 then r else s.asm b := fun b => by
    rw [hv]
    show m.asm b = _
    rw [State.asm, hatb]
    exact State.setAsm_asm s a b r
  have hdrawer : ∀ b, v.drawer b = if d = b ∧ d < 64 then q else s.drawer b := fun b => by
    rw [hv]
    show m.drawer b = _
    rw [State.drawer, hdrc]
    exact State.setDrawer_drawer s d b q
  have hpocket : ∀ x y, v.pocket x y = if (c = x ∧ c < 16) ∧ p = y ∧ p < 128 then e else s.pocket x y := fun x y => by
    rw [hv]
    show m.pocket x y = _
    rw [State.pocket, State.cell, hctb]
    exact State.setPocket_pocket (s.setPicks l) c p x y e
  have hprofile : ∀ x, v.profile x = s.profile x := fun x => by
    rw [hv]
    show m.profile x = _
    rw [State.profile, State.cell, hctb]
    exact State.setPocket_profile (s.setPicks l) c p x e
  have hvctb : v.ctb = ((s.setPicks l).setPocket c p e).ctb := by rw [hv]; exact hctb
  have hvhob : v.hob = (s.disturb (.pocket c p)).hob := by rw [hv]; exact hhob
  have hvports : v.ports = s.ports.placeAll ns := by rw [hv]; exact hports
  have hvdrc : v.drc = (s.setDrawer d q).drc := by rw [hv]; exact hdrc
  have hends : OpEnded s (v.finishOp d o x y z) d a := by
    refine opEnded_finishOp hd ?_ (fun b hb => ?_) (fun b hb => ?_) ?_ ?_ ?_
    · rw [hv]; exact hcoc
    · simp [hdrawer, Ne.symm hb]
    · simp [hasm, Ne.symm hb]
    · rw [hvdrc]; rfl
    · rw [hvdrc]; rfl
    · rw [hv]
      exact eq_of_parts rfl hocu hrfs rfl rfl rfl rfl rfl hparams rfl hphase hpins hpending
  refine ⟨⟨hends, ?_, ?_, ?_, fun x y hxy => ?_, fun x => ?_, ?_, ?_⟩, ?_, ?_⟩
  · simp [hasm, ha]
  · simp [hdrawer, hd]
  · simp [hpocket, hc, hp]
  · have hne : ¬((c = x ∧ c < 16) ∧ p = y ∧ p < 128) := fun ⟨⟨hce, _⟩, hpq, _⟩ => hxy (by rw [hce, hpq])
    simp [hpocket, hne]
  · simp [hprofile]
  · show (v.finishOp d o _ y z).ctb.picks = l
    simp [hvctb, State.setPocket, State.setPicks]
  · simp [hvhob]
  · simp
  · simp [hasm, ha, hoa, hvports, placeAll_append]

/-! ### The close of an ISSUE (R106, R107) -/

/-- The record of an assembly that an ISSUE has bound. -/
def AsmRecord.issued (r : AsmRecord) (c p : Nat) : AsmRecord := { r.enter .issued with binding := some (c, p) }

/-- A record that keeps its pocket signals it once. -/
theorem changeAsm_keepsPocket {r : AsmRecord} (h : s.pocketOf a = some (c, p)) (hst : (s.asm a).state ≠ r.state)
    (h' : (s.setAsm a r).pocketOf a = some (c, p)) : s.changeAsm a r = (s.setAsm a r).disturb (.pocket c p) := by
  have hchanged : (s.asm a).handoffChanged r = true := by simp [AsmRecord.handoffChanged, hst]
  unfold State.changeAsm
  dsimp only
  rw [if_pos hchanged, h, h', if_pos rfl]
  rfl

/-- A write of the stock and of the mismatch mark as it was, behind a close. -/
theorem setStock_closed (s : State) (hd : d < 64) (r : AsmRecord) (c p : Nat) (x : Option Nat) :
    ((((s.setDrawer d (s.drawer d).closedNow).setAsm a r).disturb (.pocket c p)).setStock d x
      ((s.setDrawer d (s.drawer d).closedNow).drawer d).mismatch) =
    ((s.setDrawer d (closedWith (s.drawer d) x (s.drawer d).mismatch)).setAsm a r).disturb (.pocket c p) := by
  have hdrawer : (((s.setDrawer d (s.drawer d).closedNow).setAsm a r).disturb (.pocket c p)).drawer d = (s.drawer d).closedNow := by
    simp [State.setDrawer_drawer, hd]
  unfold State.setStock
  rw [hdrawer, setDrawer_same s hd]
  refine eq_of_parts ?_ ?_ ?_ ?_ ?_ ?_ ?_ ?_ ?_ ?_ ?_ ?_ ?_ <;> simp
  · simp [closedWith, Drawer.closedNow, tset_tset]
  · exact disturb_hob_congr _ rfl fun _ => rfl

/-- The pick list and the notices of an ISSUE that completes. -/
def issueDone (s : State) (a c p : Nat) (link : Bool) : List (Port × Notice) :=
  (if link then (findPick s.picks c p).toList.map fun k => (Port.M, Notice.pickDone c p k.family k.origin a) else []) ++
    [(.M, .pocketChanged c p (.bound a))]

/-- The commits of a close that changes the stock of both records. -/
theorem commits_both {m : State} {old : AsmRecord} {dr : Drawer} (ha : a < 512) (hasm : m.asm a = r) (hdrawer : m.drawer d = q)
    (hr : old.viewChanged r = true) (hx : dr.stock ≠ q.stock) (hrst : m.rst = s.rst) :
    (m.commitChange a old).commitDrawer d dr = { m with rst := ((m.commitChange a old).commitDrawer d dr).rst } ∧
      Dirties s ((m.commitChange a old).commitDrawer d dr) [a, 512 + d] := by
  have hq : (m.dirty a).drawer d = q := by simp [hdrawer]
  unfold State.commitChange
  rw [hasm, if_pos hr]
  unfold State.commitDrawer
  rw [hq, if_neg fun h => hx h.1.symm]
  refine ⟨?_, ?_⟩
  · refine eq_of_parts ?_ ?_ ?_ ?_ ?_ ?_ ?_ ?_ ?_ ?_ ?_ ?_ ?_ <;> simp
  · have hone : Dirties s (m.dirty a) [a] := dirties_one (u := m) hrst rfl (by simp)
    refine hone.snoc (k := 512 + d) ?_
    simp
    omega

theorem pocketMoved_asm (s : State) (ha : a < 512) : (s.pocketMoved a d c p r q l e ns).asm a = r := by
  obtain ⟨hatb, -⟩ := pocketMoved_frame s a d c p r q l e ns
  rw [State.asm, hatb]
  exact (State.setAsm_asm s a a r).trans (if_pos ⟨rfl, ha⟩)

theorem pocketMoved_drawer (s : State) (hd : d < 64) : (s.pocketMoved a d c p r q l e ns).drawer d = q := by
  obtain ⟨-, -, -, hdrc, -⟩ := pocketMoved_frame s a d c p r q l e ns
  rw [State.drawer, hdrc]
  exact (State.setDrawer_drawer s d d q).trans (if_pos ⟨rfl, hd⟩)

theorem pocketMoved_rst (s : State) : (s.pocketMoved a d c p r q l e ns).rst = s.rst := by
  obtain ⟨-, -, -, -, -, -, -, hrst, -⟩ := pocketMoved_frame s a d c p r q l e ns
  exact hrst

theorem removePick_eq (l : List Pick) (c p : Nat) : removePick l c p = l.filter fun k => ¬ (k.cell = c ∧ k.pocket = p) := by
  unfold removePick
  refine List.filter_congr fun k _ => ?_
  simp [Pick.names]

theorem removePick_of_none {l : List Pick} (h : findPick l c p = none) : removePick l c p = l :=
  List.filter_eq_self.mpr fun k hk => by simpa using List.find?_eq_none.mp h k hk

theorem setPocket_notify (s : State) (x : Port) (n : Notice) (c p : Nat) (e : Pocket) :
    (s.setPocket c p e).notify x n = (s.notify x n).setPocket c p e := by
  rw [notify_eq, notify_eq]
  cases x <;> rfl

theorem closeIssue_completed (ha : a < 512) (hd : d < 64) (hoa : o.asm = a) (ho : s.op d = some ⟨.issue c p link k, a, rel⟩)
    (hst : (s.asm a).state = .issuing) (hstock : (s.asm a).stock = some d) (hdrawer : (s.drawer d).stock = some a) :
    ∃ v, (s.setDrawer d (s.drawer d).closedNow).closeIssue d o c p link false = v.finishOp d o .completed (some false) none ∧
      v = { s.pocketMoved a d c p ((s.asm a).issued c p) (closedWith (s.drawer d) none (s.drawer d).mismatch)
        (if link then removePick s.picks c p else s.picks) (.bound a) (issueDone s a c p link) with rst := v.rst } ∧
      Dirties s v [a, 512 + d] := by
  subst hoa
  obtain ⟨m, hm⟩ : ∃ m, m = s.pocketMoved o.asm d c p ((s.asm o.asm).issued c p) (closedWith (s.drawer d) none (s.drawer d).mismatch)
        (if link then removePick s.picks c p else s.picks) (.bound o.asm) (issueDone s o.asm c p link) := ⟨_, rfl⟩
  obtain ⟨w, hw⟩ : ∃ w, w = s.setDrawer d (s.drawer d).closedNow := ⟨_, rfl⟩
  have hwasm : w.asm o.asm = s.asm o.asm := by rw [hw]; rfl
  have hbefore : w.pocketOf o.asm = some (c, p) := by
    refine pocketOf_issue (rel := rel) (d := d) (link := link) (k := k) ?_ (by rw [hwasm]; exact hst) (by rw [hwasm]; exact hstock)
    rw [hw]
    exact ho
  have hafter : (w.setAsm o.asm ((s.asm o.asm).issued c p)).pocketOf o.asm = some (c, p) := by
    have hrec : (w.setAsm o.asm ((s.asm o.asm).issued c p)).asm o.asm = (s.asm o.asm).issued c p := by simp [State.setAsm_asm, ha]
    unfold State.pocketOf
    rw [hrec]
    rfl
  have hchange : w.changeAsm o.asm ((s.asm o.asm).issued c p) =
      (w.setAsm o.asm ((s.asm o.asm).issued c p)).disturb (.pocket c p) :=
    changeAsm_keepsPocket hbefore (by rw [hwasm, hst]; nofun) hafter
  have hmoved : w.closeIssue d o c p link false =
      ((m.commitChange o.asm (s.asm o.asm)).commitDrawer d (s.drawer d).closedNow).finishOp d o .completed (some false) none := by
    obtain ⟨x, hx⟩ : ∃ x, x = ((s.setDrawer d (closedWith (s.drawer d) none (s.drawer d).mismatch)).setAsm o.asm
        ((s.asm o.asm).issued c p)).disturb (.pocket c p) := ⟨_, rfl⟩
    have hstocked : ((w.setAsm o.asm ((s.asm o.asm).issued c p)).disturb (.pocket c p)).setStock d none (w.drawer d).mismatch = x := by
      rw [hx, hw]
      exact setStock_closed s hd _ c p none
    have hpicks : x.picks = s.picks := by rw [hx]; simp
    have hsame : x.setPicks s.picks = x := by rw [← hpicks]; rfl
    have hwdrawer : w.drawer d = (s.drawer d).closedNow := by rw [hw]; exact setDrawer_same s hd _
    unfold State.pocketMoved at hm
    rw [← hx] at hm
    unfold State.closeIssue
    unfold AsmRecord.issued at hchange hstocked
    dsimp only
    rw [if_neg nofun, hwasm, hchange, hstocked, hpicks, hwdrawer]
    cases link with
    | false =>
      rw [if_neg nofun, hsame] at hm
      rw [hm]
      rfl
    | true =>
      cases hfind : findPick s.picks c p with
      | none =>
        rw [if_pos rfl, removePick_of_none hfind, hsame] at hm
        have hplaced : ∀ u : State, u.placed (issueDone s o.asm c p true) = u.notify .M (.pocketChanged c p (.bound o.asm)) :=
          fun u => by
            simp only [issueDone, hfind, if_pos]
            rfl
        rw [hm, hplaced]
        rfl
      | some k =>
        rw [if_pos rfl] at hm
        have hplaced : ∀ u : State, u.placed (issueDone s o.asm c p true) =
            (u.notify .M (.pickDone c p k.family k.origin o.asm)).notify .M (.pocketChanged c p (.bound o.asm)) := fun u => by
          simp only [issueDone, hfind, if_pos]
          rfl
        rw [hm, hplaced, setPocket_notify]
        rfl
  rw [← hw]
  obtain ⟨hframe, hdirties⟩ := commits_both (s := s) (m := m) (old := s.asm o.asm) (dr := (s.drawer d).closedNow)
    (r := (s.asm o.asm).issued c p) (q := closedWith (s.drawer d) none (s.drawer d).mismatch) ha (d := d)
    (by rw [hm]; exact pocketMoved_asm s ha) (by rw [hm]; exact pocketMoved_drawer s hd)
    (viewChanged_of_stock (by rw [hstock]; nofun)) (by show (s.drawer d).stock ≠ none; rw [hdrawer]; nofun) (by rw [hm]; exact pocketMoved_rst s)
  exact ⟨_, hmoved, by rw [← hm]; exact hframe, hdirties⟩

theorem closeIssue_undone (ha : a < 512) (hoa : o.asm = a) (ho : s.op d = some ⟨.issue c p link k, a, rel⟩)
    (hst : (s.asm a).state = .issuing) (hstock : (s.asm a).stock = some d) :
    (s.setDrawer d (s.drawer d).closedNow).closeIssue d o c p link true =
      (s.pocketMoved a d c p ((s.asm a).enter .ready) (s.drawer d).closedNow
        (if link then movePick s.picks c p .waiting else s.picks) .empty [(.M, .pocketChanged c p .empty)]).finishOp d o
          .abandoned (some true) none := by
  subst hoa
  have hundo := undoIssue_eq (w := s.setDrawer d (s.drawer d).closedNow) (rel := rel) (link := link) (k := k) (d := d) ha ho hst hstock
  unfold State.closeIssue
  rw [if_pos rfl, hundo]
  rfl

theorem closeOp_issue (s : State) (h : o.kind = .issue c p link k) (x : Bool) :
    s.closeOp d o x = s.closeIssue d o c p link x := by
  unfold State.closeOp
  rw [h]

/-- Settles O41, by the presence level. -/
theorem issueEnds : Obligations.IssueEnds := by
  unfold Obligations.IssueEnds
  intro d a c p link picked rel o s hactive hl ho hoeq ha hc hp hst hstock hdrawer
  have hd : d.val < 64 := d.isLt
  have ha' : a < 512 := by omega
  have hc' : c < 16 := by omega
  have hp' : p < 128 := by omega
  have hoa : o.asm = a := by rw [hoeq]
  have hop' : s.op d = some ⟨.issue c p link picked, a, rel⟩ := by rw [ho, hoeq]
  rw [exec_closeSeen hactive hl ho, closeOp_issue (k := picked) _ (by rw [hoeq])]
  cases (s.drawer d).present with
  | false =>
    obtain ⟨v, heq, hv, hdirties⟩ := closeIssue_completed (o := o) ha' hd hoa hop' hst hstock hdrawer
    obtain ⟨hends, hrst, hports⟩ := pocketOpEnded_finishOp (x := .completed) (y := some false) (z := none) ha' hd hc' hp' hoa hv
    obtain ⟨⟨hop, hops, hdrawers, hothers, hqueue, hdriver, hframe⟩, hasm, hdr, hpocket, hpockets, hprofile, hpicks, hhob⟩ := hends
    refine ⟨_, congrArg _ heq, hop, hops, hdrawers, hothers, hpockets, hprofile, hqueue, hdriver, hhob, hframe,
      fun _ => ⟨?_, hdr, hpocket, ?_, finishOp_dirties hdirties, ?_⟩, nofun⟩
    · rw [hasm]
      simp [AsmRecord.issued, AsmRecord.enter, AsmState.mayMeasure, AsmState.mayReject, AsmState.mayStock]
    · rw [hpicks, removePick_eq]
    · rintro n rfl
      refine ⟨fun hlink => ?_, fun k hlink hk => ?_⟩
      · rw [hports, hlink]
        rfl
      · rw [hports, hlink]
        simp only [issueDone, hk, if_pos]
        rfl
  | true =>
    have heq := closeIssue_undone (o := o) ha' hoa hop' hst hstock
    obtain ⟨m, hm⟩ : ∃ m, m = s.pocketMoved a d c p ((s.asm a).enter .ready) (s.drawer d).closedNow
        (if link then movePick s.picks c p .waiting else s.picks) .empty [(.M, .pocketChanged c p .empty)] := ⟨_, rfl⟩
    have hmrst : m.rst = s.rst := by rw [hm]; exact pocketMoved_rst s
    rw [← hm] at heq
    obtain ⟨hends, hrst, hports⟩ := pocketOpEnded_finishOp (x := .abandoned) (y := some true) (z := none) ha' hd hc' hp' hoa
      (v := m) (s := s) (r := (s.asm a).enter .ready) (q := (s.drawer d).closedNow)
      (l := if link then movePick s.picks c p .waiting else s.picks) (e := .empty) (ns := [(.M, .pocketChanged c p .empty)])
      (by rw [← hm])
    obtain ⟨⟨hop, hops, hdrawers, hothers, hqueue, hdriver, hframe⟩, hasm, hdr, hpocket, hpockets, hprofile, hpicks, hhob⟩ := hends
    refine ⟨_, congrArg _ heq, hop, hops, hdrawers, hothers, hpockets, hprofile, hqueue, hdriver, hhob, hframe, nofun,
      fun _ => ⟨?_, ?_, hpocket, ?_, hrst.trans hmrst, ?_⟩⟩
    · rw [hasm]
      simp [AsmRecord.enter, AsmState.mayMeasure, AsmState.mayReject, AsmState.mayStock, AsmState.mayBind]
    · rw [hdr, ← hdrawer]
      rfl
    · rw [hpicks, movePick_eq]
    · rw [hports, stockedMark_held (r := (s.asm a).enter .ready) (.inl rfl)]
      have hkept : ((s.asm a).enter .ready).stock = some d.val := hstock
      rw [hkept]
      rfl

end Sys2Proof.Machine
end

section
/-! PROOFS. The close of a RETURN (O42). -/

namespace Sys2Proof.Machine

open Sys2Proof

variable {s t v w : State} {a c d p : Nat} {k : Condition} {rel : Option Bool} {o : Operation} {r : AsmRecord} {q : Drawer}

/-! ### The record a return leaves (R109) -/

/-- The limit and the percent in force at a return (R109 part 2). -/
theorem applyStaged_eq (r : AsmRecord) : r.applyStaged = { r with
    limit := (r.staged.getD (r.limit, r.warn)).1
    warn := (r.staged.getD (r.limit, r.warn)).2
    staged := none
    warned := if r.staged.isSome then decide ((r.staged.getD (r.limit, r.warn)).1 * 8 * (r.staged.getD (r.limit, r.warn)).2 ≤ r.used * 100)
      else r.warned } := by
  unfold AsmRecord.applyStaged
  cases h : r.staged with
  | none =>
    cases r
    cases h
    rfl
  | some x => simp [AsmRecord.warnReached]

/-- The state a return leads to, from the limit in force. -/
def returnTo (r : AsmRecord) (k : Condition) (l : Nat) : AsmState :=
  if k = .damaged ∨ 8 * l ≤ r.used then .regrind else if r.markSet then .ready else .unmeasured

theorem returned_eq (r : AsmRecord) (k : Condition) (d : Nat) {l w : Nat} {warned : Bool} {st : AsmState}
    (hlw : (l, w) = r.staged.getD (r.limit, r.warn))
    (hwarned : warned = (if r.staged.isSome then decide (l * 8 * w ≤ r.used * 100) else r.warned))
    (hst : st = returnTo r k l) : r.returned k d = { r with
      state := st, prior := none, geometry := (if st = .ready then r.geometry else none),
      facts := (if st = .ready then r.facts else none), rejected := none, limit := l, warn := w,
      staged := none, warned := warned,
      stock := (if st = .unmeasured then none else some d), binding := none } := by
  have hl : (r.staged.getD (r.limit, r.warn)).1 = l := by rw [← hlw]
  have hw : (r.staged.getD (r.limit, r.warn)).2 = w := by rw [← hlw]
  have happlied := applyStaged_eq r
  rw [hl, hw, ← hwarned] at happlied
  have hstate : r.applyStaged.returnState k = st := by
    rw [hst, happlied]
    simp only [AsmRecord.returnState, returnTo, AsmRecord.wornOut, decide_eq_true_eq]
    rfl
  unfold AsmRecord.returned
  dsimp only
  rw [hstate, happlied]
  have hcases : st = .regrind ∨ st = .ready ∨ st = .unmeasured := by
    rw [hst]
    unfold returnTo
    split
    · exact .inl rfl
    · split
      · exact .inr (.inl rfl)
      · exact .inr (.inr rfl)
  rcases hcases with rfl | rfl | rfl <;>
    simp [AsmRecord.enter, AsmState.mayMeasure, AsmState.mayReject, AsmState.mayStock, AsmState.mayBind]

/-! ### The close of a RETURN (R109) -/

/-- The pick entry of the pocket that a return empties, where it waits for that (R109). -/
def emptiedPick (s : State) (c p : Nat) : Option Pick := (findPick s.picks c p).filter fun e => e.state = .waitEmpty

/-- The notices of a return that completes, before OP_DONE. -/
def returnNotices (s : State) (c p : Nat) : List (Port × Notice) :=
  ((emptiedPick s c p).toList.map fun e => (Port.C, Notice.pickReady c p e.family e.origin)) ++ [(.M, .pocketChanged c p .empty)]

/-- The pick list behind a return that completes. -/
def returnPicks (s : State) (c p : Nat) : List Pick :=
  if (emptiedPick s c p).isSome then movePick s.picks c p .waiting else s.picks

/-- The commits of a close that changes the assembly and leaves the drawer's stock and mark. -/
theorem commits_asm {m : State} {old : AsmRecord} {dr : Drawer} (hasm : m.asm a = r) (hdrawer : m.drawer d = q)
    (hr : old.viewChanged r = true) (hx : q.stock = dr.stock) (hx' : q.mismatch = dr.mismatch) (hrst : m.rst = s.rst) :
    (m.commitChange a old).commitDrawer d dr = { m with rst := ((m.commitChange a old).commitDrawer d dr).rst } ∧
      Dirties s ((m.commitChange a old).commitDrawer d dr) [a] := by
  have hq : (m.dirty a).drawer d = q := by simp [hdrawer]
  unfold State.commitChange
  rw [hasm, if_pos hr]
  unfold State.commitDrawer
  rw [hq, if_pos ⟨hx, hx'⟩]
  exact ⟨dirty_eq m a, dirties_one (u := m) hrst rfl (by simp)⟩

/-- A changed binding changes the persistent view. -/
theorem viewChanged_of_binding {r x : AsmRecord} (h : r.binding ≠ x.binding) : r.viewChanged x = true := by
  unfold AsmRecord.viewChanged
  exact decide_eq_true fun he => h (AsmRecord.mk.inj he |>.2.2.2.2.2.2.2.2.2.2.2.2.2.2.2.2.1)

/-- The pocket of an assembly that is ISSUED or EXHAUSTED is its binding (R20). -/
theorem pocketOf_bound {x : Option (Nat × Nat)} (hst : (s.asm a).state = .issued ∨ (s.asm a).state = .exhausted)
    (hb : (s.asm a).binding = x) : s.pocketOf a = x := by
  unfold State.pocketOf
  rcases hst with h | h <;> simp only [h, hb]

/-- The state of a completed return before the commits. -/
theorem closeReturn_moved (ha : a < 512) (hd : d < 64) (hoa : o.asm = a)
    (hst : (s.asm a).state = .issued ∨ (s.asm a).state = .exhausted) (hb : (s.asm a).binding = some (c, p))
    (hr : r = (s.asm a).returned k d) (hfree : r.state.free) :
    (s.setDrawer d (s.drawer d).closedNow).closeReturn d o k true =
      (((s.pocketMoved a d c p r (closedWith (s.drawer d) (r.stock.map fun _ => a) (s.drawer d).mismatch) (returnPicks s c p) .empty
        (returnNotices s c p)).commitChange a (s.asm a)).commitDrawer d (s.drawer d).closedNow).finishOp d o .completed (some true)
          none := by
  subst hoa
  obtain ⟨m, hm⟩ : ∃ m, m = s.pocketMoved o.asm d c p r (closedWith (s.drawer d) (r.stock.map fun _ => o.asm) (s.drawer d).mismatch)
      (returnPicks s c p) .empty (returnNotices s c p) := ⟨_, rfl⟩
  obtain ⟨w, hw⟩ : ∃ w, w = s.setDrawer d (s.drawer d).closedNow := ⟨_, rfl⟩
  rw [← hm, ← hw]
  have hwasm : w.asm o.asm = s.asm o.asm := by rw [hw]; rfl
  have hbefore : w.pocketOf o.asm = some (c, p) := pocketOf_bound (by rw [hwasm]; exact hst) (by rw [hwasm]; exact hb)
  have hrec : (w.setAsm o.asm r).asm o.asm = r := by simp [State.setAsm_asm, ha]
  have hafter : (w.setAsm o.asm r).pocketOf o.asm = none := by
    obtain ⟨hi, hbound, he⟩ := hfree
    exact pocketOf_none (by rw [hrec]; exact hi) (by rw [hrec]; exact hbound) (by rw [hrec]; exact he)
  have hchange : w.changeAsm o.asm r = (w.setAsm o.asm r).disturb (.pocket c p) := by
    refine changeAsm_leavesPocket hbefore ?_ hafter
    obtain ⟨hi, hbound, he⟩ := hfree
    rw [hwasm]
    rcases hst with h | h
    · rw [h]; exact Ne.symm hbound
    · rw [h]; exact Ne.symm he
  obtain ⟨x, hx⟩ : ∃ x, x = ((s.setDrawer d (closedWith (s.drawer d) (r.stock.map fun _ => o.asm) (s.drawer d).mismatch)).setAsm o.asm
      r).disturb (.pocket c p) := ⟨_, rfl⟩
  have hstocked : ((w.setAsm o.asm r).disturb (.pocket c p)).setStock d (r.stock.map fun _ => o.asm) (w.drawer d).mismatch = x := by
    rw [hx, hw]
    exact setStock_closed s hd _ c p _
  have hpicks : x.picks = s.picks := by rw [hx]; simp
  have hsame : x.setPicks s.picks = x := by rw [← hpicks]; rfl
  have hwdrawer : w.drawer d = (s.drawer d).closedNow := by rw [hw]; exact setDrawer_same s hd _
  unfold State.pocketMoved at hm
  rw [← hx] at hm
  unfold State.closeReturn
  dsimp only
  rw [if_pos rfl, hwasm, ← hr, hb, hchange, hstocked, hpicks, hwdrawer]
  dsimp only
  cases hfind : findPick s.picks c p with
  | none =>
    have hempty : emptiedPick s c p = none := by simp [emptiedPick, hfind]
    have hplaced : ∀ u : State, u.placed (returnNotices s c p) = u.notify .M (.pocketChanged c p .empty) := fun u => by
      simp only [returnNotices, hempty]
      rfl
    rw [hm, hplaced, returnPicks, hempty, if_neg nofun, hsame]
    rfl
  | some e =>
    dsimp only
    by_cases he : e.state = .waitEmpty
    · have hwaits : emptiedPick s c p = some e := by simp [emptiedPick, hfind, he]
      have hplaced : ∀ u : State, u.placed (returnNotices s c p) =
          (u.notify .C (.pickReady c p e.family e.origin)).notify .M (.pocketChanged c p .empty) := fun u => by
        simp only [returnNotices, hwaits]
        rfl
      rw [if_pos he, hm, hplaced, returnPicks, hwaits, if_pos Option.isSome_some, setPocket_notify]
      rfl
    · have hempty : emptiedPick s c p = none := by simp [emptiedPick, hfind, he]
      have hplaced : ∀ u : State, u.placed (returnNotices s c p) = u.notify .M (.pocketChanged c p .empty) := fun u => by
        simp only [returnNotices, hempty]
        rfl
      rw [if_neg he, hm, hplaced, returnPicks, hempty, if_neg nofun, hsame]
      rfl

theorem closeOp_giveBack (s : State) (h : o.kind = .giveBack k) (x : Bool) : s.closeOp d o x = s.closeReturn d o k x := by
  unfold State.closeOp
  rw [h]

/-- The stocked mark that OP_DONE of a completed return carries. -/
theorem stockedMark_returned {r : AsmRecord} {st : AsmState} (hst : r.state = st) (hcases : st = .ready ∨ st = .regrind ∨ st = .unmeasured)
    (hstock : r.stock = if st = .unmeasured then none else some d) :
    r.stockedMark = if st = .unmeasured then none else some true := by
  rcases hcases with rfl | rfl | rfl
  · rw [stockedMark_held (.inl hst), hstock]
    rfl
  · rw [stockedMark_held (.inr hst), hstock]
    rfl
  · unfold AsmRecord.stockedMark
    rw [hst]
    rfl

/-- Settles O42, by the presence level and whether the assembly is stocked again. -/
theorem returnEnds : Obligations.ReturnEnds := by
  unfold Obligations.ReturnEnds
  intro d a c p l w warned st k rel o s hactive hl ho hoeq ha hc hp hst hb hdrawer hlw hwarned hto
  have hd : d.val < 64 := d.isLt
  have ha' : a < 512 := by omega
  have hc' : c < 16 := by omega
  have hp' : p < 128 := by omega
  have hoa : o.asm = a := by rw [hoeq]
  rw [exec_closeSeen hactive hl ho, closeOp_giveBack (k := k) _ (by rw [hoeq])]
  cases (s.drawer d).present with
  | true =>
    obtain ⟨r, hr⟩ : ∃ r, r = (s.asm a).returned k d := ⟨_, rfl⟩
    have hrec := hr.trans (returned_eq (s.asm a) k d hlw hwarned hto)
    have hstate : r.state = st := by rw [hrec]
    have hstock : r.stock = if st = .unmeasured then none else some d.val := by rw [hrec]
    have hcases : st = .ready ∨ st = .regrind ∨ st = .unmeasured := by
      rw [hto]
      split
      · exact .inr (.inl rfl)
      · split
        · exact .inl rfl
        · exact .inr (.inr rfl)
    have hfree : r.state.free := by
      rw [hstate]
      rcases hcases with rfl | rfl | rfl <;> exact ⟨nofun, nofun, nofun⟩
    have heq := closeReturn_moved (o := o) ha' hd hoa hst hb hr hfree
    obtain ⟨m, hm⟩ : ∃ m, m = s.pocketMoved a d c p r (closedWith (s.drawer d) (r.stock.map fun _ => a) (s.drawer d).mismatch)
        (returnPicks s c p) .empty (returnNotices s c p) := ⟨_, rfl⟩
    rw [← hm] at heq
    have hview : (s.asm a).viewChanged r = true := viewChanged_of_binding (by rw [hb, hrec]; nofun)
    have hmasm : m.asm a = r := by rw [hm]; exact pocketMoved_asm s ha'
    have hmdrawer : m.drawer d = closedWith (s.drawer d) (r.stock.map fun _ => a) (s.drawer d).mismatch := by
      rw [hm]; exact pocketMoved_drawer s hd
    have hmrst : m.rst = s.rst := by rw [hm]; exact pocketMoved_rst s
    obtain ⟨v, hv⟩ : ∃ v, v = (m.commitChange a (s.asm a)).commitDrawer d (s.drawer d).closedNow := ⟨_, rfl⟩
    rw [← hv] at heq
    have hmoved : v = { m with rst := v.rst } ∧ Dirties s v (if st = .unmeasured then [a] else [a, 512 + d.val]) := by
      rw [hv]
      by_cases hu : st = .unmeasured
      · rw [if_pos hu] at hstock ⊢
        refine commits_asm hmasm hmdrawer hview ?_ rfl hmrst
        rw [hstock]
        exact hdrawer.symm
      · rw [if_neg hu] at hstock ⊢
        refine commits_both ha' hmasm hmdrawer hview ?_ hmrst
        rw [hstock]
        show (s.drawer d).stock ≠ some a
        rw [hdrawer]
        nofun
    obtain ⟨hframe', hdirties⟩ := hmoved
    obtain ⟨hends, hrst, hports⟩ := pocketOpEnded_finishOp (x := .completed) (y := some true) (z := none) ha' hd hc' hp' hoa
      (v := v) (s := s) (r := r) (q := closedWith (s.drawer d) (r.stock.map fun _ => a) (s.drawer d).mismatch)
      (l := returnPicks s c p) (e := .empty) (ns := returnNotices s c p) (by rw [← hm]; exact hframe')
    obtain ⟨⟨hop, hops, hdrawers, hothers, hqueue, hdriver, hframe⟩, hasm, hdr, hpocket, hpockets, hprofile, hpicks, hhob⟩ := hends
    refine ⟨_, congrArg _ heq, hop, hops, hdrawers, hothers, hpockets, hprofile, hqueue, hdriver, hframe,
      fun _ => ⟨hasm.trans hrec, ?_, hpocket, hhob, finishOp_dirties hdirties, ?_⟩, nofun⟩
    · rw [hdr, hstock]
      split <;> rfl
    · rintro n rfl
      rw [stockedMark_returned hstate hcases hstock, hstate] at hports
      refine ⟨fun e he hwait => ?_, fun hno => ?_⟩
      · have hwaits : emptiedPick s c p = some e := by simp [emptiedPick, he, hwait]
        rw [hports, hpicks, returnPicks, returnNotices, hwaits, ← movePick_eq]
        exact ⟨rfl, rfl⟩
      · have hempty : emptiedPick s c p = none := by
          unfold emptiedPick
          rw [Option.filter_eq_none_iff]
          intro e he
          simpa using hno e he
        rw [hports, hpicks, returnPicks, returnNotices, hempty]
        exact ⟨rfl, rfl⟩
  | false =>
    obtain ⟨hdr, hatb, hctb, hhob, hrst, hports⟩ := closeWith_abandoned (s := s) (o := o) (y := some false) (z := none) hd
    obtain ⟨hop, hops, hdrawers, hothers, hqueue, hdriver, hframe⟩ := opEnded_abandoned (s := s) (a := a) (o := o) (x := .abandoned)
      (y := some false) (z := none) hd (s.drawer d).closedNow
    have heq : (s.setDrawer d (s.drawer d).closedNow).closeReturn d o k false =
        (s.setDrawer d (s.drawer d).closedNow).finishOp d o .abandoned (some false) none := rfl
    obtain ⟨t, ht⟩ : ∃ t, t = (s.setDrawer d (s.drawer d).closedNow).finishOp d o .abandoned (some false) none := ⟨_, rfl⟩
    rw [← ht] at hdr hatb hctb hhob hrst hports hop hops hdrawers hothers hqueue hdriver hframe heq
    refine ⟨t, congrArg _ heq, hop, hops, hdrawers, hothers, fun e q _ => ?_, fun e => ?_, hqueue, hdriver, hframe, nofun,
      fun _ => ⟨hatb, hctb, hhob, hrst, ?_, ?_⟩⟩
    · simp only [State.pocket, State.cell, hctb]
    · simp only [State.profile, State.cell, hctb]
    · rw [hdr, ← hdrawer]
      rfl
    · have hmark : (s.asm a).stockedMark = none := by
        unfold AsmRecord.stockedMark
        rcases hst with h | h <;> rw [h]
      rw [hports, hoa, hmark]

end Sys2Proof.Machine
end

section
/-! PROOFS. The builder of handoff blocks and the discard timers (O49, O50). -/

namespace Sys2Proof.Machine

open Sys2Proof

variable {s t v w : State} {c n : Nat} {b : Build} {h : Held} {i : Ident}

/-! ### ENTRY_FORMATION (R163) -/

theorem exec_entryFormation (hactive : s.phase.active = true) (hb : s.hob.builder = some b)
    (hleft : b.block.entries.length < b.block.ident.size) : exec .entryFormation s = .next (s.setHob { s.hob with
      builder := some { b with block := { b.block with
        entries := b.block.entries ++ [s.formEntry b (b.block.ident.start + b.block.entries.length)] } } }) := by
  have hdone : b.done = false := by simpa [Build.done] using hleft
  have hexec : exec .entryFormation s = .next s.formNext := congrArg Host.Outcome.next (if_pos hactive)
  rw [hexec]
  unfold State.formNext
  simp only [hb, hdone]
  rfl

/-- The clamp to the range of an entry changes a value exactly where it stands outside. -/
theorem clampConverted_ne (x : Int) : clampConverted x ≠ x ↔ 9999999 < x ∨ x < -9999999 := by
  unfold clampConverted
  rw [clampInt_eq_max (by decide)]
  omega

/-- The entry of a bound assembly with geometry (R155, R156). -/
theorem valueEntry_eq {st : EntryStatus} {a : Nat} {r : AsmRecord} {x : Option Nat} {g : Geometry} (hg : r.geometry = some g) :
    valueEntry st a r b x = ⟨st, some a,
      some (max (-9999999) (min 9999999 (convertLength b.block.unit b.datum g))),
      some (max (-9999999) (min 9999999 (convertRadius b.block.unit b.block.form g))),
      remainingOf r.mode r.limit r.used, x,
      decide (9999999 < convertLength b.block.unit b.datum g ∨ convertLength b.block.unit b.datum g < -9999999 ∨
        9999999 < convertRadius b.block.unit b.block.form g ∨ convertRadius b.block.unit b.block.form g < -9999999)⟩ := by
  unfold valueEntry
  simp only [hg, Option.map_some, remaining_eq]
  have hclamp : ∀ x : Int, clampConverted x = max (-9999999) (min 9999999 x) := fun x => by
    unfold clampConverted
    rw [clampInt_eq_max (by decide)]
  have hne : ∀ x : Int, (some (clampConverted x) ≠ some x) ↔ 9999999 < x ∨ x < -9999999 := fun x => by
    rw [← clampConverted_ne]
    simp
  congr 1
  · rw [hclamp]
  · rw [hclamp]
  · rw [← Bool.decide_or, decide_eq_decide, hne, hne, or_assoc]

/-- Settles O49, by the tests of R153 in order. -/
theorem entriesAreFormedInOrder : Obligations.EntriesAreFormedInOrder := by
  unfold Obligations.EntriesAreFormedInOrder
  rintro b c p s hactive hb rfl hleft rfl
  refine ⟨_, exec_entryFormation hactive hb hleft, fun hout => ?_, fun hin => ⟨fun hp => ?_, fun a hp => ?_, fun a hp => ⟨fun hm => ?_,
    fun g x y hm hg hx hy => ?_⟩⟩⟩
  · exact if_pos hout
  · unfold State.formEntry
    dsimp only
    rw [if_neg (Nat.not_le.mpr hin), hp]
    rfl
  · unfold State.formEntry
    dsimp only
    rw [if_neg (Nat.not_le.mpr hin), hp]
    rfl
  · unfold State.formEntry
    dsimp only
    rw [if_neg (Nat.not_le.mpr hin), hp]
    simp only [hm]
    rfl
  · unfold State.formEntry
    dsimp only
    rw [if_neg (Nat.not_le.mpr hin), hp, hx, hy]
    simp only [hm]
    by_cases hex : (s.asm a).state = .exhausted
    · rw [if_neg nofun, if_pos hex, valueEntry_eq hg, if_pos hex, if_pos hex]
    · rw [if_neg nofun, if_neg hex, valueEntry_eq hg, if_neg hex, if_neg hex]

/-! ### The completion of a build (R164, R165, R172) -/

theorem any_marks (l : List Bool) : l.any id = true ↔ true ∈ l := by simp

theorem dropBuild_slot (s : State) (n : Nat) : s.dropBuild.slot n = s.slot n := rfl

/-- A completed build of a BUILDING slot: the slot is queued again or COMPLETE, and the builder goes on. -/
theorem exec_slotBuildCompletion (hactive : s.phase.active = true) (hb : s.hob.builder = some b)
    (hdone : b.block.ident.size ≤ b.block.entries.length) (hn : b.target = .slot n) (hslot : s.slot n = .building h) :
    exec .slotBuildCompletion s = .next (if true ∈ h.marks ∧ h.rebuilds < 3 then (s.dropBuild.requeueSlot n h).kickBuilder
      else (s.dropBuild.setSlot n (.complete h b.block 0)).kickBuilder) := by
  have hdone' : b.done = true := by simpa [Build.done] using hdone
  have hexec : exec .slotBuildCompletion s = .next s.completeSlot := congrArg Host.Outcome.next (if_pos hactive)
  have hcond : (h.marks.any id && decide (h.rebuilds < 3)) = true ↔ true ∈ h.marks ∧ h.rebuilds < 3 := by simp
  rw [hexec]
  unfold State.completeSlot
  simp only [hb, hn, hdone', dropBuild_slot, hslot, hcond]
  split <;> rfl

theorem exec_readAheadBuildCompletion (hactive : s.phase.active = true) (hb : s.hob.builder = some b)
    (hdone : b.block.ident.size ≤ b.block.entries.length) (hc : b.target = .readAhead c) (hbuf : s.buffer c = .pending i) :
    exec .readAheadBuildCompletion s = .next (s.dropBuild.setBuffer c (.valid i b.block)).kickBuilder := by
  have hdone' : b.done = true := by simpa [Build.done] using hdone
  have hexec : exec .readAheadBuildCompletion s = .next s.completeReadAhead := congrArg Host.Outcome.next (if_pos hactive)
  have hbuf' : s.dropBuild.buffer c = .pending i := hbuf
  rw [hexec]
  unfold State.completeReadAhead
  simp only [hb, hc, hdone', hbuf']

/-- A buffer that holds something is that of a cell. -/
theorem cell_of_buffer (hbuf : s.buffer c ≠ .empty) : c < 16 := by
  by_contra hc
  exact hbuf (tget_beyond _ _ _ (Nat.not_lt.mp hc))

/-- A slot that is taken is one of the four. -/
theorem slot_lt (hslot : s.slot n ≠ .free) : n < 4 := by
  by_contra hn
  exact hslot (tget_beyond _ _ _ (Nat.not_lt.mp hn))

/-- The builder leaves everything outside the Handoff Builder. -/
theorem kickBuilder_of_hob (h : v = { s with hob := v.hob }) : v.kickBuilder = { s with hob := v.kickBuilder.hob } := by
  rw [kickBuilder_eq, h]

/-- The idle builder takes its next build, the slots named as they stand. -/
theorem kickBuilder_takes {slots : Nat → Slot} (hb : w.hob.builder = none) (hslots : ∀ m, slots m = w.slot m) :
    TakesNext s w.kickBuilder slots w.hob.slotBuilds w.hob.readAheads := by
  rw [funext hslots]
  exact kickBuilder_takesNext s hb

/-- Settles O50, by the target of the build, and by the state of the slot of a discard timer. -/
theorem buildsComplete : Obligations.BuildsComplete := by
  unfold Obligations.BuildsComplete
  refine fun b s hactive => ⟨fun hb hdone => ⟨fun n h hn htarget hslot => ?_, fun c i htarget hbuf => ?_⟩, fun n => ⟨?_, fun hlow => ?_⟩⟩
  · rw [exec_slotBuildCompletion hactive hb hdone htarget hslot]
    by_cases hcond : true ∈ h.marks ∧ h.rebuilds < 3
    · rw [if_pos hcond]
      refine ⟨_, rfl, kickBuilder_of_hob rfl, fun e => kickBuilder_buffer _ e, fun hor => ?_, fun _ _ slots hslots => ?_⟩
      · exact absurd hcond (by rintro ⟨hm, hr⟩; exact hor.elim (fun k => k hm) fun k => by omega)
      · refine kickBuilder_takes rfl fun m => ?_
        have hm : (s.dropBuild.requeueSlot n h).slot m = if n = m ∧ n < 4 then .building { h with rebuilds := h.rebuilds + 1 }
            else s.slot m := State.setSlot_slot s.dropBuild n m _
        rw [hslots, hm]
        by_cases he : m = n
        · simp [he, hn]
        · simp [he, Ne.symm he]
    · rw [if_neg hcond]
      refine ⟨_, rfl, kickBuilder_of_hob rfl, fun e => kickBuilder_buffer _ e, fun _ slots hslots => ?_,
        fun hm hr => absurd ⟨hm, hr⟩ hcond⟩
      refine kickBuilder_takes rfl fun m => ?_
      rw [hslots, State.setSlot_slot, dropBuild_slot]
      by_cases he : m = n
      · simp [he, hn]
      · simp [he, Ne.symm he]
  · have hc : c < 16 := cell_of_buffer (by rw [hbuf]; nofun)
    rw [exec_readAheadBuildCompletion hactive hb hdone htarget hbuf]
    refine ⟨_, rfl, kickBuilder_of_hob rfl, fun e => ?_, kickBuilder_takes rfl fun _ => rfl⟩
    have he : (s.dropBuild.setBuffer c (.valid i b.block)).buffer e = if c = e ∧ c < 16 then .valid i b.block else s.buffer e :=
      State.setBuffer_buffer s.dropBuild c e _
    rw [kickBuilder_buffer, he]
    by_cases hce : e = c
    · simp [hce, hc]
    · simp [hce, Ne.symm hce]
  · rintro ⟨h, k, x, hslot, hx⟩
    have hdue : s.discardDue n = true := by simp [State.discardDue, hslot, hx]
    exact congrArg Host.Outcome.next (if_pos (by rw [hactive, hdue]; rfl))
  · have hdue : s.discardDue n = false := by
      unfold State.discardDue
      split
      · next h k x hslot => simpa using hlow h k x hslot
      · rfl
    exact congrArg Host.Outcome.next (if_neg (by rw [hdue]; simp))

end Sys2Proof.Machine
end

section
/-! PROOFS. The completion of a commit (O51). -/

namespace Sys2Proof.Machine

open Sys2Proof

variable {s t w : State} {c : Commit} {k : Nat} {v : View} {q : List Nat}

/-! ### The record behind a written page (R180) -/

theorem noteCommitted_atb (s : State) (k : Nat) (v : View) :
    (∀ r, v = .asm r → k < 512 → s.noteCommitted k v = s.setAsm k { s.asm k with committed := r.used }) ∧
      ((∀ r, v ≠ .asm r) ∨ 512 ≤ k → s.noteCommitted k v = s) := by
  unfold State.noteCommitted
  refine ⟨fun r hv hk => ?_, fun h => ?_⟩
  · rw [hv]
    exact if_pos hk
  · split
    · next r => exact if_neg (Nat.not_lt.mpr (h.resolve_left fun hno => hno r rfl))
    · rfl

/-- The committed used is no part of a view (R21). -/
theorem noteCommitted_viewOf (s : State) (k : Nat) (v : View) (j : Nat) : (s.noteCommitted k v).viewOf j = s.viewOf j := by
  refine viewOf_of_records (fun a => ?_) ?_ ?_ ?_ ?_ ?_ j
  · unfold State.noteCommitted
    split
    · split
      · rw [State.setAsm_asm]
        split
        · next h => rw [← h.1]; rfl
        · rfl
      · rfl
    · rfl
  all_goals simp [State.drawer, State.profile, State.cell, State.refSet]

/-- The engine leaves everything outside the Record Store, and takes the head of the queue when it is idle (R179). -/
theorem kickEngine_idle (h : w.rst.flight = none) :
    (w.rst.queue = [] → w.kickEngine = w) ∧
      ∀ k l, w.rst.queue = k :: l → w.kickEngine = (w.setCommitQueue l).setFlight (some ⟨k, w.viewOf k, false⟩) := by
  unfold State.kickEngine
  refine ⟨fun hq => ?_, fun k l hq => ?_⟩ <;> simp only [h, hq]

/-- A drain goes on while a key is in flight. -/
theorem endDrain_stays (h : w.phase ≠ .drain ∨ w.rst.flight ≠ none) : w.endDrain = w :=
  if_neg fun ⟨hp, _, hf⟩ => h.elim (fun k => k hp) fun k => k hf

/-- The state of a completed commit before the engine goes on: the page written, the committed used noted, the queue `q`. -/
def State.committed (s : State) (c : Commit) (q : List Nat) : State :=
  (((s.setPage c.key (.whole c.key c.snapshot)).noteCommitted c.key c.snapshot).setFlight none).setCommitQueue q

theorem exec_commitCompletion (hactive : s.phase.active = true) (hc : s.rst.flight = some c)
    (hq : q = s.rst.queue ++ (if c.redirty = true ∧ c.key ∉ s.rst.queue then [c.key] else [])) :
    exec .commitCompletion s = .next (s.committed c q).kickEngine.endDrain := by
  have hexec : exec .commitCompletion s = .next s.completeCommit := congrArg Host.Outcome.next (if_pos hactive)
  rcases completeCommit_cases s with ⟨hnone, -⟩ | ⟨c', q', hc', hq', heq⟩
  · rw [hc] at hnone
    nomatch hnone
  · obtain rfl : c = c' := Option.some.inj (hc.symm.trans hc')
    rw [hexec, heq, hq', ← hq]
    rfl

theorem committed_rst (s : State) (c : Commit) (q : List Nat) :
    (s.committed c q).rst = ⟨tset s.rst.pages c.key (.whole c.key c.snapshot), q, none⟩ := by
  have hrst : ((s.setPage c.key (.whole c.key c.snapshot)).noteCommitted c.key c.snapshot).rst =
      (s.setPage c.key (.whole c.key c.snapshot)).rst := by simp
  unfold State.committed State.setCommitQueue State.setFlight
  simp only [hrst]
  rfl

theorem committed_viewOf (s : State) (c : Commit) (q : List Nat) (j : Nat) : (s.committed c q).viewOf j = s.viewOf j :=
  noteCommitted_viewOf (s.setPage c.key (.whole c.key c.snapshot)) c.key c.snapshot j

/-- What a commit completion writes, whatever the engine does then. -/
theorem committed_frame (s : State) (c : Commit) (q : List Nat) :
    s.committed c q = { s with atb := (s.committed c q).atb, rst := (s.committed c q).rst } := by
  refine eq_of_parts ?_ ?_ ?_ ?_ ?_ ?_ ?_ ?_ ?_ ?_ ?_ ?_ ?_ <;> simp [State.committed]

theorem committed_asm (s : State) (c : Commit) (q : List Nat) :
    OthersStay s (s.committed c q) c.key ∧
      (∀ r, c.snapshot = .asm r → c.key ≤ 511 → (s.committed c q).asm c.key = { s.asm c.key with committed := r.used }) ∧
      ((∀ r, c.snapshot ≠ .asm r) ∨ 512 ≤ c.key → (s.committed c q).atb = s.atb) := by
  obtain ⟨hsome, hnone⟩ := noteCommitted_atb (s.setPage c.key (.whole c.key c.snapshot)) c.key c.snapshot
  have hatb : (s.committed c q).atb = ((s.setPage c.key (.whole c.key c.snapshot)).noteCommitted c.key c.snapshot).atb := rfl
  refine ⟨fun b hb => ?_, fun r hr hk => ?_, fun h => by rw [hatb, hnone h]; rfl⟩
  · rw [State.asm, hatb]
    by_cases h : (∀ r, c.snapshot ≠ .asm r) ∨ 512 ≤ c.key
    · rw [hnone h]
      rfl
    · obtain ⟨⟨r, hr⟩, hk⟩ : (∃ r, c.snapshot = .asm r) ∧ c.key < 512 := by simpa using h
      rw [hsome r hr hk]
      exact (State.setAsm_asm _ c.key b _).trans (if_neg fun he => hb he.1.symm)
  · rw [State.asm, hatb, hsome r hr (by omega)]
    exact (State.setAsm_asm _ c.key c.key _).trans (if_pos ⟨rfl, by omega⟩)

/-- Settles O51, by the queue that the engine finds. -/
theorem commitCompletionWritesThePage : Obligations.CommitCompletionWritesThePage := by
  unfold Obligations.CommitCompletionWritesThePage
  intro c q s hphase hc hkey hq
  have hactive : s.phase.active = true := by
    rcases hphase with h | ⟨h, -⟩ <;> rw [h] <;> rfl
  obtain ⟨w, hw⟩ : ∃ w, w = s.committed c q := ⟨_, rfl⟩
  have hrst := committed_rst s c q
  obtain ⟨hothers, hnoted, hkept⟩ := committed_asm s c q
  have hframe := committed_frame s c q
  have hview := committed_viewOf s c q
  have hexec := exec_commitCompletion hactive hc hq
  rw [← hw] at hrst hothers hnoted hkept hframe hview hexec
  have hwq : w.rst.queue = q := by rw [hrst]
  have hwf : w.rst.flight = none := by rw [hrst]
  obtain ⟨hidle, htake⟩ := kickEngine_idle hwf
  have hkick : w.kickEngine = { w with rst := w.kickEngine.rst } := kickEngine_eq w
  have hpages : w.kickEngine.rst.pages = tset s.rst.pages c.key (.whole c.key c.snapshot) := by
    cases hcase : q with
    | nil => rw [hidle (hwq.trans hcase), hrst]
    | cons k l =>
      rw [htake k l (hwq.trans hcase)]
      show w.rst.pages = _
      rw [hrst]
  have hdrain : w.kickEngine.endDrain = w.kickEngine := by
    refine endDrain_stays ?_
    rcases hphase with h | ⟨-, hne⟩
    · refine .inl ?_
      rw [hkick, hframe]
      show s.phase ≠ _
      rw [h]
      nofun
    · obtain ⟨k, l, hcase⟩ := List.exists_cons_of_ne_nil hne
      refine .inr ?_
      rw [htake k l (hwq.trans hcase)]
      nofun
  have hatb : w.kickEngine.atb = w.atb := by rw [hkick]
  have hpage : ∀ k, w.kickEngine.page k = if c.key = k ∧ c.key < 598 then .whole c.key c.snapshot else s.page k := fun k => by
    rw [State.page, hpages]
    exact State.setPage_page s c.key k _
  refine ⟨w.kickEngine, by rw [hexec, hdrain], ?_, fun k hk => ?_, fun b hb => ?_, fun r hr hk => ?_, fun h => ?_,
    fun hnil => ?_, fun k l hcons => ?_, ?_⟩
  · rw [hpage, if_pos ⟨rfl, by omega⟩]
  · rw [hpage, if_neg fun he => hk he.1.symm]
  · rw [State.asm, hatb]
    exact hothers b hb
  · rw [State.asm, hatb]
    exact hnoted r hr hk
  · rw [hatb]
    exact hkept h
  · rw [hidle (hwq.trans hnil)]
    exact ⟨hwq.trans hnil, hwf⟩
  · rw [htake k l (hwq.trans hcons), hview]
    exact ⟨rfl, rfl⟩
  · rw [hkick, hframe]

end Sys2Proof.Machine
end

section
/-! PROOFS. The beginning of a load, and power and the reset input (O53). -/

namespace Sys2Proof.Machine

open Sys2Proof

variable {s t w v : State} {c : Cause} {k : Nat}

/-! ### What the load reads in a page (R176, R177) -/

theorem readPage_blank (h : s.page k = .blank) : s.readPage k = .blank := by
  unfold State.readPage
  rw [h]
  rfl

/-- A page written whole with a view of its key's kind passes. -/
theorem readPage_whole {x : View} (h : s.page k = .whole k x) (hx : x.fits k = true) : s.readPage k = .passed x := by
  unfold State.readPage
  rw [h]
  exact if_pos ⟨rfl, hx, rfl⟩

theorem loadedPort_lists (x : PortState) (c : Cause) : (State.loadedPort x c).notices = [] ∧ (State.loadedPort x c).overflow = false := by
  cases c <;> exact ⟨rfl, rfl⟩

theorem loadBegin_pending (w : State) (c : Cause) : (w.loadBegin c).pending = w.pending := by
  unfold State.loadBegin
  dsimp only

theorem loadBegin_pins (w : State) (c : Cause) : (w.loadBegin c).pins = w.pins := by
  unfold State.loadBegin
  dsimp only

theorem loadedDrawer_of_page {d : Nat} {st : Option Nat} {m : Bool} (hd : d < 64)
    (h : s.page (512 + d) = .blank ∧ st = none ∧ m = false ∨ s.readPage (512 + d) = .failed ∧ st = none ∧ m = true ∨
      s.page (512 + d) = .whole (512 + d) (.drawer st m)) :
    s.loadedDrawer d = { restDrawer (s.drawer d).levelOpen (s.drawer d).present with stock := st, mismatch := m } := by
  have hstock : (s.readPage (drawerKey d)).stock = (st, m) := by
    show (s.readPage (512 + d)).stock = _
    rcases h with ⟨h, rfl, rfl⟩ | ⟨h, rfl, rfl⟩ | h
    · rw [readPage_blank h]; rfl
    · rw [h]; rfl
    · rw [readPage_whole h (by simp [View.fits]; omega)]; rfl
  unfold State.loadedDrawer
  rw [hstock]

/-- The beginning of a load of the pages of `s`. -/
theorem loadBegun_loadBegin (hrst : w.rst.pages = s.rst.pages) (hdrc : w.drc = s.drc) (hpending : w.pending = s.pending) (c : Cause) :
    LoadBegun s (w.loadBegin c) c := by
  have hread : ∀ k, w.readPage k = s.readPage k := fun k => by simp only [State.readPage, State.page, hrst]
  have hdrawer : ∀ d, w.loadedDrawer d = s.loadedDrawer d := fun d => by
    simp only [State.loadedDrawer, hread, State.drawer, hdrc]
  have hasm : ∀ a, a < 512 → (w.loadBegin c).asm a = (s.readPage a).asm := fun a ha => by
    rw [← hread]
    exact (tget_tgen _ _ a).trans (if_pos ha)
  have hcell : ∀ e, (w.loadBegin c).cell e = if e < 16 then ⟨(s.readPage (576 + e)).profile, tgen 128 fun _ => .empty⟩ else
      ⟨defaultProfile, tgen 128 fun _ => .empty⟩ := fun e => by
    rw [← hread]
    exact tget_tgen _ _ e
  refine ⟨rfl, by rw [loadBegin_rst, hrst], rfl, rfl, fun d => ?_, rfl, rfl, fun e p => ?_, fun n => ?_, fun e => ?_, rfl, rfl,
    fun a ha => ⟨fun h => ?_, fun h => ?_, fun r h => ?_⟩, fun d hd st m h => ?_, fun e he pr h => ?_, fun k hk r h => ?_,
    fun x n h => ?_, fun pr h => ?_, fun p => ?_, (loadBegin_pending w c).trans hpending⟩
  · exact (tget_tgen _ _ d).trans (ite_self _)
  · rw [State.pocket, hcell]
    split <;> exact (tget_tgen _ _ p).trans (ite_self _)
  · exact (tget_tgen _ _ n).trans (ite_self _)
  · exact (tget_tgen _ _ e).trans (ite_self _)
  · rw [hasm a ha, readPage_blank h]
    rfl
  · rw [hasm a ha, h]
    rfl
  · rw [hasm a ha, readPage_whole h (decide_eq_true ha)]
    rfl
  · rw [← loadedDrawer_of_page hd h, ← hdrawer]
    exact (tget_tgen _ w.loadedDrawer d).trans (if_pos hd)
  · rw [State.profile, hcell, if_pos he]
    rcases h with ⟨h | h, rfl⟩ | h
    · simp only [readPage_blank h]; rfl
    · simp only [h]; rfl
    · simp only [readPage_whole h (by simp [View.fits]; omega)]; rfl
  · have hset : (w.loadBegin c).refSet k = (s.readPage (592 + k)).refSet := by
      rw [← hread]
      exact (tget_tgen _ _ k).trans (if_pos hk)
    rw [hset]
    rcases h with ⟨h, rfl⟩ | ⟨h, rfl⟩ | h
    · rw [readPage_blank h]; rfl
    · rw [h]; rfl
    · rw [readPage_whole h (by simp [View.fits]; omega)]; rfl
  · have hcurve : (w.loadBegin c).rfs.curve = (s.readPage 596).curve.1 ∧ (w.loadBegin c).rfs.active = (s.readPage 596).curve.2 := by
      rw [← hread]
      exact ⟨rfl, rfl⟩
    rw [hcurve.1, hcurve.2]
    rcases h with ⟨h | h, rfl, rfl⟩ | h
    · rw [readPage_blank h]; exact ⟨rfl, rfl⟩
    · rw [h]; exact ⟨rfl, rfl⟩
    · rw [readPage_whole h rfl]; exact ⟨rfl, rfl⟩
  · have hparams : (w.loadBegin c).params = (s.readPage 597).params := by
      rw [← hread]
      rfl
    rw [hparams]
    rcases h with ⟨h | h, rfl⟩ | h
    · rw [readPage_blank h]; rfl
    · rw [h]; rfl
    · rw [readPage_whole h rfl]; rfl
  · rw [loadBegin_port]
    exact loadedPort_lists _ c

/-! ### Power and the reset input (R181, R182, R189) -/

/-- A load begun at power-on or by the release of the reset input finds every buffer empty (R194). -/
theorem loadedPort_buffers (x : PortState) (h : c ≠ .restart) :
    (State.loadedPort x c).buf = .empty ∧ (State.loadedPort x c).keep = false := by
  cases c
  case restart => exact absurd rfl h
  all_goals exact ⟨rfl, rfl⟩

theorem enterReset_eq (s : State) : s.enterReset = { s with phase := .held, ports := s.enterReset.ports } := rfl

/-- A commit that power loss or a reset ends leaves the page as it was, whole or mixed (R181). -/
def endedPage (c : Commit) (p : Page) : PageOutcome → Page
  | .former => p
  | .snapshot => .whole c.key c.snapshot
  | .mixed => .mixed

theorem interruptCommit_pages (s : State) (o : PageOutcome) :
    (s.rst.flight = none → (s.interruptCommit o).rst.pages = s.rst.pages) ∧
      ∀ c, s.rst.flight = some c → c.key ≤ 597 → (∀ k, k ≠ c.key → (s.interruptCommit o).page k = s.page k) ∧
        (s.interruptCommit o).page c.key = endedPage c (s.page c.key) o := by
  unfold State.interruptCommit
  refine ⟨fun h => by rw [h]; rfl, fun c h hk => ?_⟩
  rw [h]
  have hlt : c.key < 598 := by omega
  cases o with
  | former => exact ⟨fun _ _ => rfl, rfl⟩
  | snapshot =>
    exact ⟨fun k hne => (State.setPage_page _ _ _ _).trans (if_neg fun he => hne he.1.symm),
      (State.setPage_page _ _ _ _).trans (if_pos ⟨rfl, hlt⟩)⟩
  | mixed =>
    exact ⟨fun k hne => (State.setPage_page _ _ _ _).trans (if_neg fun he => hne he.1.symm),
      (State.setPage_page _ _ _ _).trans (if_pos ⟨rfl, hlt⟩)⟩

theorem interruptCommit_eq (s : State) (o : PageOutcome) :
    s.interruptCommit o = { s with rst := (s.interruptCommit o).rst } := by
  refine eq_of_parts ?_ ?_ ?_ ?_ ?_ ?_ ?_ ?_ ?_ ?_ ?_ ?_ ?_ <;> simp

/-- Power loss of a part with power, and the reset input asserted on one that is not held (R181, R182). -/
theorem exec_interruption (o : PageOutcome) (hoff : s.phase ≠ .off) :
    exec (.powerLoss o) s = .next ((s.interruptCommit o).setPhase .off) ∧
      (s.phase ≠ .held → exec (.resetInputAsserted o) s = .next (((s.setResetInput true).interruptCommit o).enterReset)) := by
  refine ⟨congrArg Host.Outcome.next (if_neg hoff), fun hheld => congrArg Host.Outcome.next ?_⟩
  unfold State.assertReset
  dsimp only
  cases h : s.phase with
  | off => exact absurd h hoff
  | held => exact absurd h hheld
  | running => rfl
  | drain => rfl
  | load x => rfl

/-- Settles O53, by the event and the phase. -/
theorem powerAndResetMoveThePhase : Obligations.PowerAndResetMoveThePhase := by
  unfold Obligations.PowerAndResetMoveThePhase
  refine fun i o s => ⟨fun hoff hreset => ?_, fun hoff hreset => ?_, fun hheld => ?_, fun hoff => ⟨?_, ?_⟩, ?_⟩
  · have hexec : exec .powerOn s = .next (s.loadBegin .powerOn) := by
      have hrun : s.powerOn = s.loadBegin .powerOn := by
        unfold State.powerOn
        rw [if_pos hoff, hreset, if_neg nofun]
      exact congrArg Host.Outcome.next hrun
    refine ⟨_, hexec, loadBegun_loadBegin rfl rfl rfl .powerOn, loadBegin_pins s _, fun p => ?_⟩
    rw [loadBegin_port]
    exact loadedPort_buffers _ nofun
  · have hexec : exec .powerOn s = .next s.enterReset := by
      have hrun : s.powerOn = s.enterReset := by
        unfold State.powerOn
        rw [if_pos hoff, if_pos hreset]
      exact congrArg Host.Outcome.next hrun
    exact ⟨_, hexec, rfl, fun p => enterReset_port s p⟩
  · have hexec : exec .resetInputReleased s = .next ((s.setResetInput false).loadBegin .resetInput) :=
      congrArg Host.Outcome.next (if_pos hheld)
    refine ⟨_, hexec, loadBegun_loadBegin rfl rfl rfl .resetInput, loadBegin_pins _ _, fun p => ?_⟩
    rw [loadBegin_port]
    exact loadedPort_buffers _ nofun
  · have hrun : s.assertReset o = s.setResetInput true := by
      unfold State.assertReset
      simp only [hoff]
    exact congrArg Host.Outcome.next hrun
  · refine congrArg Host.Outcome.next ?_
    unfold State.releaseReset
    dsimp only
    rw [if_neg (by rw [hoff]; nofun)]
    rfl
  · intro hi hoff
    obtain ⟨hloss, hreset⟩ := exec_interruption o hoff
    rcases hi with rfl | ⟨rfl, hheld⟩
    · obtain ⟨w, hw⟩ : ∃ w, w = s.interruptCommit o := ⟨_, rfl⟩
      have hframe := interruptCommit_eq s o
      obtain ⟨hnone, hsome⟩ := interruptCommit_pages s o
      have hrest : w.rst.queue = [] ∧ w.rst.flight = none := by
        rw [hw]
        exact ⟨by simp, by simp⟩
      rw [← hw] at hloss hframe hnone hsome
      refine ⟨_, hloss, (if_pos rfl).symm, ?_, fun p => ?_, hrest.1, hrest.2, ?_, hnone, hsome⟩
      · rw [if_pos rfl, hframe]
        rfl
      · rw [if_pos rfl, hframe]
        rfl
      · rw [hframe]
        rfl
    · obtain ⟨u, hu⟩ : ∃ u, u = s.setResetInput true := ⟨_, rfl⟩
      obtain ⟨w, hw⟩ : ∃ w, w = u.interruptCommit o := ⟨_, rfl⟩
      have hexec := hreset hheld
      have hframe := interruptCommit_eq u o
      obtain ⟨hnone, hsome⟩ := interruptCommit_pages u o
      have hrest : w.rst.queue = [] ∧ w.rst.flight = none := by
        rw [hw]
        exact ⟨by simp, by simp⟩
      rw [← hu, ← hw] at hexec
      rw [← hw] at hframe hnone hsome
      have hne : Instr.resetInputAsserted o ≠ .powerLoss o := nofun
      refine ⟨_, hexec, (if_neg hne).symm, ?_, fun p => ?_, hrest.1, hrest.2, ?_, ?_, ?_⟩
      · rw [if_neg hne, enterReset_eq, hframe, hu]
        rfl
      · rw [if_neg hne, enterReset_port, hframe, hu]
        rfl
      · rw [enterReset_eq, hframe, hu]
        rfl
      · intro hf
        exact (hnone (by rw [hu]; exact hf)).trans (by rw [hu]; rfl)
      · intro c hc hk
        rw [hu] at hsome
        exact hsome c hc hk

end Sys2Proof.Machine
end

section
/-! PROOFS. RESTART: the drain, and the load that ends it (O52). -/

namespace Sys2Proof.Machine

open Sys2Proof

variable {s t u w v : State} {c : Cause} {p q : Port} {tag : Byte}

/-! ### The requests that wait at an accepted RESTART (R193) -/

/-- A request that waits is answered LOADING where no kept reply stands; nothing else changes. -/
theorem answerWaiting_spec (s : State) (p : Port) :
    s.answerWaiting p = { s with ports := (s.answerWaiting p).ports } ∧
      (∀ q, q ≠ p → (s.answerWaiting p).port q = s.port q) ∧
      (∀ q, ((s.answerWaiting p).port q).notices = (s.port q).notices ∧ ((s.answerWaiting p).port q).overflow = (s.port q).overflow) ∧
      ((s.port p).keep = false → ∀ g j, (s.port p).buf = .pending g j →
        ((s.answerWaiting p).port p).buf = .held ⟨.loading, false, g, .phase true⟩) ∧
      ((∀ g j, (s.port p).buf ≠ .pending g j) → (s.answerWaiting p).port p = s.port p) := by
  by_cases hwait : ∃ g j, (s.port p).buf = .pending g j
  · obtain ⟨g, j, hbuf⟩ := hwait
    have heq : s.answerWaiting p = if (s.port p).keep then s else s.setPort p { s.port p with
        buf := .held ⟨.loading, false, g, .phase true⟩, keep := false, draws := (s.port p).draws + 1 } := by
      unfold State.answerWaiting
      rw [hbuf]
      rfl
    cases hkeep : (s.port p).keep with
    | true =>
      rw [hkeep, if_pos rfl] at heq
      rw [heq]
      exact ⟨rfl, fun _ _ => rfl, fun _ => ⟨rfl, rfl⟩, nofun, fun h => absurd hbuf (h g j)⟩
    | false =>
      rw [hkeep, if_neg nofun] at heq
      rw [heq]
      refine ⟨by cases p <;> rfl, fun q hq => by rw [State.setPort_port, if_neg hq], fun q => ?_, fun _ g' j' h => ?_,
        fun h => absurd hbuf (h g j)⟩
      · rw [State.setPort_port]
        split
        · next he => rw [he]; exact ⟨rfl, rfl⟩
        · exact ⟨rfl, rfl⟩
      · obtain ⟨rfl, -⟩ := PortBuf.pending.inj (hbuf.symm.trans h)
        rw [State.setPort_port, if_pos rfl]
  · have heq : s.answerWaiting p = s := by
      unfold State.answerWaiting
      split
      · next g j hbuf => exact absurd ⟨g, j, hbuf⟩ hwait
      · rfl
    rw [heq]
    exact ⟨rfl, fun _ _ => rfl, fun _ => ⟨rfl, rfl⟩, fun _ g j h => absurd ⟨g, j, h⟩ hwait, fun _ => rfl⟩

/-- The state of an accepted RESTART before the drain can end. -/
def State.draining (s : State) : State := ((s.answerWaiting .P).answerWaiting .M).setPhase .drain

theorem draining_eq (s : State) : s.draining = { s with phase := .drain, ports := s.draining.ports } := by
  obtain ⟨hP, -⟩ := answerWaiting_spec s .P
  obtain ⟨hM, -⟩ := answerWaiting_spec (s.answerWaiting .P) .M
  unfold State.draining
  rw [hM, hP]
  rfl

theorem draining_port (s : State) : s.draining.port .C = s.port .C ∧
    (∀ p, (s.draining.port p).notices = (s.port p).notices ∧ (s.draining.port p).overflow = (s.port p).overflow) ∧
    (∀ p, p ≠ .C → (s.port p).keep = false → ∀ g j, (s.port p).buf = .pending g j →
      (s.draining.port p).buf = .held ⟨.loading, false, g, .phase true⟩) ∧
    ∀ p, p ≠ .C → (∀ g j, (s.port p).buf ≠ .pending g j) → s.draining.port p = s.port p := by
  obtain ⟨-, hPother, hPlists, hPwait, hPsame⟩ := answerWaiting_spec s .P
  obtain ⟨-, hMother, hMlists, hMwait, hMsame⟩ := answerWaiting_spec (s.answerWaiting .P) .M
  have hM := hPother .M nofun
  have hport : ∀ p, s.draining.port p = ((s.answerWaiting .P).answerWaiting .M).port p := fun p => by cases p <;> rfl
  refine ⟨?_, fun p => ?_, fun p hp hkeep g j hbuf => ?_, fun p hp hno => ?_⟩
  · rw [hport, hMother .C nofun, hPother .C nofun]
  · rw [hport, (hMlists p).1, (hMlists p).2]
    exact hPlists p
  · rw [hport]
    cases p with
    | C => exact absurd rfl hp
    | P =>
      rw [hMother .P nofun]
      exact hPwait hkeep g j hbuf
    | M => exact hMwait (by rw [hM]; exact hkeep) g j (by rw [hM]; exact hbuf)
  · rw [hport]
    cases p with
    | C => exact absurd rfl hp
    | P =>
      rw [hMother .P nofun]
      exact hPsame hno
    | M => exact (hMsame (by rw [hM]; exact hno)).trans hM

/-! ### The load behind a drain (R188) -/

/-- A load that has begun has begun whatever the buffers hold. -/
theorem LoadBegun.setPort {x : PortState} (h : LoadBegun s u c) (hn : x.notices = []) (ho : x.overflow = false) :
    LoadBegun s (u.setPort p x) c := by
  obtain ⟨hphase, hrst, hocu, hpicks, hop, hqueue, hdriver, hpocket, hslot, hbuffer, hhob, hstaged, hasm, hdrawer, hcell, href,
    hcurve, hparams, hports, hpending⟩ := h
  have hlists : ∀ q, ((u.setPort p x).port q).notices = [] ∧ ((u.setPort p x).port q).overflow = false := fun q => by
    rw [State.setPort_port]
    split
    · exact ⟨hn, ho⟩
    · exact hports q
  cases p <;> exact ⟨hphase, hrst, hocu, hpicks, hop, hqueue, hdriver, hpocket, hslot, hbuffer, hhob, hstaged, hasm, hdrawer,
    hcell, href, hcurve, hparams, hlists, hpending⟩

theorem endDrain_ends (hp : w.phase = .drain) (hq : w.rst.queue = []) (hf : w.rst.flight = none) :
    w.endDrain = w.loadBegin .restart := if_pos ⟨hp, hq, hf⟩

/-- An answer that is kept (R194). -/
theorem answer_kept {a : Answer} (h : (s.port p).keep = false) (hk : a.keep = true) : s.answer p tag a = s.setPort p { s.port p with
    buf := .held ⟨a.status, a.clamped, tag, a.body⟩, keep := true, draws := (s.port p).draws + 1 } := by
  unfold State.answer State.hold
  rw [h, if_neg nofun, hk]

/-- RESTART that every check passes. -/
theorem restart_accepted (hocu : s.ocu = none) (hbusy : ∀ d, d < 64 → s.busyDrawer d = false) : restart s =
    (s.draining.endDrain, { accept (.restartAccepted s.rst.queue.length s.rst.flight.isSome) with keep := true }) := by
  have hfind : (List.range 64).find? s.busyDrawer = none :=
    List.find?_eq_none.mpr fun d hd => by simp [hbusy d (List.mem_range.mp hd)]
  unfold restart
  rw [hocu, hfind]
  rfl

theorem restart_busyDrawer {d : Nat} (hocu : s.ocu = none) (hd : d < 64) (hbusy : s.busyDrawer d = true)
    (hfirst : ∀ e, e < d → s.busyDrawer e = false) :
    restart s = (s, { refuse .busy with body := .restartRefused (some d) }) := by
  have hfind : (List.range 64).find? s.busyDrawer = some d := by
    rw [List.find?_range_eq_some]
    exact ⟨hbusy, List.mem_range.mpr hd, fun e he => by simp [hfirst e he]⟩
  unfold restart
  rw [hocu, hfind]
  rfl

/-- Settles O52, by the first check of RESTART that fails, and by what is left to commit. -/
theorem restartDrainsAndLoads : Obligations.RestartDrainsAndLoads := by
  unfold Obligations.RestartDrainsAndLoads
  refine fun tag s => ⟨fun h => ⟨fun hocu => ?_, fun d hocu hd hbusy hfirst => ?_, fun hocu hrest => ?_⟩,
    fun c hphase hflight hqueue hredirty hkey => ?_⟩
  · have hrun : restart s = (s, { refuse .busy with body := .restartRefused none }) :=
      if_pos (Option.isSome_iff_ne_none.mpr hocu)
    rw [exec_taken (p := .C) rfl h, touchNamed_of_none rfl]
    show Host.Outcome.next ((restart s).1.answer .C tag (restart s).2) = _
    rw [hrun]
    exact congrArg _ (answer_replied tag _ (taken_keep h) rfl)
  · rw [exec_taken (p := .C) rfl h, touchNamed_of_none rfl]
    show Host.Outcome.next ((restart s).1.answer .C tag (restart s).2) = _
    rw [restart_busyDrawer hocu hd hbusy hfirst]
    exact congrArg _ (answer_replied tag _ (taken_keep h) rfl)
  · have hbusy : ∀ d, d < 64 → s.busyDrawer d = false := fun d hd => by
      obtain ⟨hpulse, hopen, hop⟩ := hrest d hd
      simp [State.busyDrawer, hpulse, hopen, hop]
    obtain ⟨v, hv⟩ : ∃ v, v = s.draining := ⟨_, rfl⟩
    have hframe := draining_eq s
    obtain ⟨hC, hlists, hwait, hsame⟩ := draining_port s
    have hrun := restart_accepted hocu hbusy
    rw [← hv] at hframe hC hlists hwait hsame hrun
    have hkeep : (s.port .C).keep = false := taken_keep h
    have hexec : ∀ u, v.endDrain = u → (u.port .C).keep = false → exec .restart s = .next (u.setPort .C { u.port .C with
        buf := .held (okReply tag false (.restartAccepted s.rst.queue.length s.rst.flight.isSome)), keep := true,
        draws := (u.port .C).draws + 1 }) := fun u hu huk => by
      rw [exec_taken (p := .C) rfl h, touchNamed_of_none rfl]
      show Host.Outcome.next ((restart s).1.answer .C tag (restart s).2) = _
      rw [hrun, hu]
      exact congrArg _ (answer_kept huk rfl)
    by_cases hleft : s.rst.queue = [] ∧ s.rst.flight = none
    · have hload : v.endDrain = v.loadBegin .restart :=
        endDrain_ends (by rw [hframe]) (by rw [hframe]; exact hleft.1) (by rw [hframe]; exact hleft.2)
      have hport : ∀ p, (v.loadBegin .restart).port p = State.loadedPort (v.port p) .restart := loadBegin_port v .restart
      have hbegun : LoadBegun s (v.loadBegin .restart) .restart :=
        loadBegun_loadBegin (by rw [hframe]) (by rw [hframe]) (by rw [hframe]) .restart
      have hpins : (v.loadBegin .restart).pins = s.pins := (loadBegin_pins v _).trans (by rw [hframe])
      obtain ⟨u, hu⟩ : ∃ u, u = v.loadBegin .restart := ⟨_, rfl⟩
      rw [← hu] at hload hport hbegun hpins
      have hother : ∀ p, p ≠ .C → ∀ x : PortState, (u.setPort .C x).port p = State.loadedPort (v.port p) .restart := fun p hp x => by
        rw [State.setPort_port, if_neg hp, hport]
      refine ⟨_, hexec u hload (by rw [hport, hC]; exact hkeep), by simp, by simp, fun p hp hk g j hbuf => ?_, fun p hp hno => ?_,
        fun hne => absurd hleft fun ⟨hq, hf⟩ => hne.elim (fun k => k hq) fun k => k hf, fun _ _ => ⟨LoadBegun.setPort hbegun ?_ ?_, ?_⟩⟩
      · rw [hother p hp]
        exact hwait p hp hk g j hbuf
      · rw [hother p hp, hsame p hp hno]
        rfl
      · rw [hport]
        exact (loadedPort_lists _ _).1
      · rw [hport]
        exact (loadedPort_lists _ _).2
      · exact hpins
    · have hstay : v.endDrain = v := if_neg fun ⟨_, hq, hf⟩ => hleft (by rw [hframe] at hq hf; exact ⟨hq, hf⟩)
      have hother : ∀ p, p ≠ .C → ∀ x : PortState, (v.setPort .C x).port p = v.port p := fun p hp x => by
        rw [State.setPort_port, if_neg hp]
      refine ⟨_, hexec v hstay (by rw [hC]; exact hkeep), by simp, by simp, fun p hp hk g j hbuf => ?_, fun p hp hno => ?_,
        fun _ => ⟨?_, fun p => ?_⟩, fun hq hf => absurd ⟨hq, hf⟩ hleft⟩
      · rw [hother p hp]
        exact hwait p hp hk g j hbuf
      · rw [hother p hp]
        exact congrArg PortState.buf (hsame p hp hno)
      · rw [hframe]
        rfl
      · rw [State.setPort_port]
        split
        · next he => rw [he]; exact hlists .C
        · exact hlists p
  · have hactive : s.phase.active = true := by rw [hphase]; rfl
    obtain ⟨w, hw⟩ : ∃ w, w = s.committed c [] := ⟨_, rfl⟩
    have hexec := exec_commitCompletion (q := []) hactive hflight (by rw [hqueue, hredirty]; rfl)
    have hrst := committed_rst s c []
    have hframe := committed_frame s c []
    rw [← hw] at hexec hrst hframe
    have hwq : w.rst.queue = [] := by rw [hrst]
    have hwf : w.rst.flight = none := by rw [hrst]
    rw [(kickEngine_idle hwf).1 hwq, endDrain_ends (by rw [hframe]; exact hphase) hwq hwf] at hexec
    refine ⟨_, hexec, loadBegun_loadBegin (by rw [hrst]; rfl) (by rw [hframe]; rfl) (by rw [hframe]; rfl) .restart,
      (loadBegin_pins w _).trans (by rw [hframe]), fun p => ?_⟩
    have hport : w.port p = s.port p := by rw [hframe]; rfl
    rw [loadBegin_port, hport]
    exact ⟨rfl, rfl⟩

end Sys2Proof.Machine
end

section
/-! PROOFS. HANDOFF of an identity that is not yet built (O47). -/

namespace Sys2Proof.Machine

open Sys2Proof

variable {s t u v w : State} {c start size m n : Nat} {i : Ident} {h : Held} {b : Block} {x : Nat} {tag : Byte}

/-! ### The identity of a HANDOFF (R150, R151) -/

theorem decodeSize_eq {e : Nat} (he : e ≤ 5) (hle : 2 ^ e ≤ size) (hlt : size < 2 * 2 ^ e ∨ 2 ^ e = 32) : decodeSize size = 2 ^ e := by
  unfold decodeSize
  interval_cases e <;> split_ifs <;> omega

/-- A decoded identity is the one the model forms. -/
theorem decodeIdent_of_decodes (h : Decodes c start size i) : decodeIdent c start size = i := by
  obtain ⟨hcell, ⟨e, he, hpow⟩, hle, hlt, ⟨k, hk⟩, hstart, hend⟩ := h
  have hsize : decodeSize size = i.size := by
    rw [hpow]
    exact decodeSize_eq he (by rw [← hpow]; exact hle) (by rw [← hpow]; exact hlt)
  have hpos : 0 < i.size := by rw [hpow]; exact Nat.two_pow_pos e
  have hdiv : start / i.size = k := by
    refine Nat.div_eq_of_lt_le ?_ ?_
    · rw [Nat.mul_comm, ← hk]; exact hstart
    · rw [Nat.add_mul, Nat.one_mul, Nat.mul_comm, ← hk]; exact hend
  unfold decodeIdent decodeStart
  rw [hsize, hdiv, Nat.mul_comm, ← hk, hcell.symm]

/-- A decoded span is shorter than a cell, so the next span is another. -/
theorem next_ne (h : Decodes c start size i) : (⟨i.cell, (i.start + i.size) % 128, i.size⟩ : Ident) ≠ i := by
  obtain ⟨hcell, ⟨e, he, hpow⟩, -, -, -, hstart, hend⟩ := h
  intro heq
  have hs : (i.start + i.size) % 128 = i.start := congrArg Ident.start heq
  have hsize : 1 ≤ i.size ∧ i.size ≤ 32 := by
    rw [hpow]
    interval_cases e <;> decide
  omega

theorem slotOf_eq_some (hm : (s.slot m).ident = some i) (honly : ∀ n, (s.slot n).ident = some i → n = m) : s.slotOf i = some m := by
  cases hslot : s.slotOf i with
  | none => exact absurd hm (slotOf_none hslot m)
  | some n => rw [honly n (slotOf_some hslot)]

theorem slotOf_eq_none (hno : ∀ n, (s.slot n).ident ≠ some i) : s.slotOf i = none := by
  cases hslot : s.slotOf i with
  | none => rfl
  | some n => exact absurd (slotOf_some hslot) (hno n)

/-! ### The match of an identity (R158) -/

section

variable (hc : c ≤ 15) (hstart : start ≤ 127) (hsize : 1 ≤ size) (hprofile : 1 ≤ (s.profile c).size) (hi : Decodes c start size i)

include hc hstart hsize hprofile hi

theorem handoff_building (hslot : s.slot m = .building h) (hm : s.slotOf i = some m) :
    handoff c start size s = s.retry i m h.rebuilds := by
  unfold handoff
  rw [if_neg (by omega), if_neg (by omega), if_neg (by omega)]
  dsimp only
  rw [decodeIdent_of_decodes hi, hm]
  dsimp only
  rw [hslot]

theorem handoff_complete (hslot : s.slot m = .complete h b x) (hm : s.slotOf i = some m) :
    handoff c start size s = s.serveSlot m h b := by
  unfold handoff
  rw [if_neg (by omega), if_neg (by omega), if_neg (by omega)]
  dsimp only
  rw [decodeIdent_of_decodes hi, hm]
  dsimp only
  rw [hslot]

theorem handoff_fresh (hm : s.slotOf i = none) : handoff c start size s = s.serveFresh i := by
  unfold handoff
  rw [if_neg (by omega), if_neg (by omega), if_neg (by omega)]
  dsimp only
  rw [decodeIdent_of_decodes hi, hm]

end

/-- A HANDOFF that its block takes. -/
theorem exec_handoff (h : s.taken .M (.handoff c start size) = some tag) {y : State × Answer} (hx : handoff c start size s = y)
    (hkeep : (y.1.port .M).keep = false) (hk : y.2.keep = false) :
    exec (.handoff c start size) s = .next (y.1.replied .M ⟨y.2.status, y.2.clamped, tag, y.2.body⟩) := by
  rw [exec_taken (p := .M) rfl h, touchNamed_of_none rfl]
  show Host.Outcome.next ((handoff c start size s).1.answer .M tag (handoff c start size s).2) = _
  rw [hx]
  exact congrArg _ (answer_replied tag _ hkeep hk)

/-! ### A FREE slot is taken (R161) -/

/-- A busy builder goes on with its build. -/
theorem kickBuilder_busy {y : Build} (hb : w.hob.builder = some y) : w.kickBuilder = w := by
  unfold State.kickBuilder
  simp only [hb]

theorem findSlot_free (hn : n < 4) (hfree : s.slot n = .free) (hfirst : ∀ j, j < n → s.slot j ≠ .free) :
    s.findSlot (fun x => decide (x = .free)) = some n := by
  unfold State.findSlot
  rw [List.find?_range_eq_some]
  exact ⟨by simp [hfree], List.mem_range.mpr hn, fun j hj => by simp [hfirst j hj]⟩

theorem findSlot_none (hno : ∀ n, n < 4 → s.slot n ≠ .free) : s.findSlot (fun x => decide (x = .free)) = none := by
  unfold State.findSlot
  exact List.find?_eq_none.mpr fun j hj => by simp [hno j (List.mem_range.mp hj)]

/-- The Handoff Builder of a slot just taken, before the builder goes on. -/
def takenHob (s : State) (n : Nat) (i : Ident) : Handoff :=
  { s.hob with
    slots := tset s.hob.slots n (.building ⟨i, 0, List.replicate i.size false⟩)
    slotBuilds := s.hob.slotBuilds ++ [n]
    buffers := if (s.buffer i.cell).ident = some i then tset s.hob.buffers i.cell .empty else s.hob.buffers
    readAheads := if (s.buffer i.cell).ident = some i then s.hob.readAheads.filter fun e => e ≠ i.cell else s.hob.readAheads
    builder := if (s.buffer i.cell).ident = some i ∧ s.formingReadAhead i.cell = true then none else s.hob.builder }

theorem takeSlot_kicked (s : State) (n : Nat) (i : Ident) : s.takeSlot n i = (s.setHob (takenHob s n i)).kickBuilder := by
  have hbuf : ∀ y : Handoff, y.buffers = s.hob.buffers → (s.setHob y).buffer i.cell = s.buffer i.cell := fun y hy => by
    simp only [State.buffer, State.setHob, hy]
  have hforming : ∀ y : Handoff, y.builder = s.hob.builder → (s.setHob y).formingReadAhead i.cell = s.formingReadAhead i.cell :=
    fun y hy => by simp only [State.formingReadAhead, State.setHob, hy]
  obtain ⟨y, hy⟩ : ∃ y : Handoff, y = { s.hob with
    slots := tset s.hob.slots n (.building ⟨i, 0, List.replicate i.size false⟩), slotBuilds := s.hob.slotBuilds ++ [n] } := ⟨_, rfl⟩
  have hu : s.takeSlot n i = (if ((s.setHob y).buffer i.cell).ident = some i
      then ((s.setHob y).cancelReadAhead i.cell).setBuffer i.cell .empty else s.setHob y).kickBuilder := by
    rw [hy]
    rfl
  rw [hu, hbuf y (by rw [hy])]
  unfold takenHob
  by_cases hheld : (s.buffer i.cell).ident = some i
  · rw [if_pos hheld, if_pos hheld, if_pos hheld]
    unfold State.cancelReadAhead
    dsimp only
    rw [hforming y (by rw [hy])]
    by_cases hf : s.formingReadAhead i.cell = true
    · rw [if_pos hf, if_pos ⟨hheld, hf⟩, hy]
      rfl
    · rw [if_neg hf, if_neg fun k => hf k.2, hy]
      rfl
  · rw [if_neg hheld, if_neg hheld, if_neg hheld, if_neg fun k => hheld k.1, hy]

/-- With no VALID buffer the request takes the lowest FREE slot, or is refused (R158 steps 4 and 5). -/
theorem serveFresh_slot (hvalid : ∀ b, s.buffer i.cell ≠ .valid i b) :
    (∀ n, s.findSlot (fun x => decide (x = .free)) = some n → s.serveFresh i = (s.takeSlot n i).retry i n 0) ∧
      (s.findSlot (fun x => decide (x = .free)) = none → s.serveFresh i = (s, ⟨.busy, false, .identity i, false⟩)) := by
  unfold State.serveFresh
  refine ⟨fun n hn => ?_, fun hn => ?_⟩
  all_goals
    dsimp only
    rw [hn]
    split
    · next j b hbuf => exact if_neg fun he : j = i => hvalid b (by rw [hbuf, he])
    · rfl

/-- Settles O47, by the holder of the identity. -/
theorem handoffTakesASlot : Obligations.HandoffTakesASlot := by
  unfold Obligations.HandoffTakesASlot
  intro c start size i tag s h hc hstart hsize hprofile hi
  have hkeep : (s.port .M).keep = false := taken_keep h
  obtain ⟨rfl, -⟩ := id hi
  have hcell : i.cell < 16 := by omega
  refine ⟨fun m x hslot hx honly => ?_, fun hno hvalid => ⟨fun hfull => ?_, fun n slots q r hn hfree hfirst hslots hq hr => ?_⟩⟩
  · have hm : s.slotOf i = some m := slotOf_eq_some (by rw [hslot, ← hx]; rfl) honly
    exact exec_handoff h (handoff_building hc hstart hsize hprofile hi hslot hm) hkeep rfl
  · have hrun := (handoff_fresh hc hstart hsize hprofile hi (slotOf_eq_none hno)).trans
      ((serveFresh_slot hvalid).2 (findSlot_none hfull))
    exact exec_handoff h hrun hkeep rfl
  · have hrun := (handoff_fresh hc hstart hsize hprofile hi (slotOf_eq_none hno)).trans
      ((serveFresh_slot hvalid).1 n (findSlot_free hn hfree hfirst))
    obtain ⟨w, hw⟩ : ∃ w, w = s.setHob (takenHob s n i) := ⟨_, rfl⟩
    have htake := takeSlot_kicked s n i
    rw [← hw] at htake
    have hframe : w.kickBuilder = { s with hob := w.kickBuilder.hob } := by
      rw [kickBuilder_eq, hw]
      rfl
    rw [htake] at hrun
    have hwslot : ∀ j, w.slot j = slots j := fun j => by
      rw [hw, hslots]
      refine (State.setSlot_slot s n j _).trans ?_
      by_cases he : j = n
      · simp [he, hn]
      · simp [he, Ne.symm he]
    have hwbuf : ∀ e, w.buffer e = if e = i.cell ∧ (s.buffer i.cell).ident = some i then .empty else s.buffer e := fun e => by
      by_cases hheld : (s.buffer i.cell).ident = some i
      · have hb : w.hob.buffers = tset s.hob.buffers i.cell .empty := by
          rw [hw]
          exact if_pos hheld
        rw [State.buffer, hb]
        refine (State.setBuffer_buffer s i.cell e .empty).trans ?_
        by_cases he : e = i.cell
        · simp [he, hcell, hheld]
        · simp [he, Ne.symm he]
      · have hb : w.hob.buffers = s.hob.buffers := by
          rw [hw]
          exact if_neg hheld
        rw [if_neg fun k => hheld k.2, State.buffer, hb]
        rfl
    have hwq : w.hob.slotBuilds = q := by rw [hq, hw]; rfl
    have hwr : w.hob.readAheads = r := by rw [hr, hw]; rfl
    have hexec := exec_handoff h hrun (by rw [hframe]; exact hkeep) rfl
    refine ⟨_, hexec, ?_, ?_, fun e => ?_, fun hbusy hnot => ?_, fun hidle => ?_⟩
    · rw [hframe]
      rfl
    · exact replied_congr (by rw [hframe]; rfl) _ _
    · exact (kickBuilder_buffer w e).trans (hwbuf e)
    · obtain ⟨y, hy⟩ := Option.isSome_iff_exists.mp hbusy
      have hbuilder : w.hob.builder = s.hob.builder := by
        rw [hw]
        refine if_neg fun ⟨hheld, hf⟩ => ?_
        rcases hnot with hne | hno
        · exact hne hheld
        · rw [hno] at hf
          nomatch hf
      have hkick : w.kickBuilder = w := kickBuilder_busy (hbuilder.trans hy)
      refine ⟨fun j => ?_, ?_⟩
      · rw [hkick]
        exact hwslot j
      · rw [hkick]
        rw [← hwq, ← hwr]
        show w.hob = ⟨w.hob.slots, w.hob.buffers, w.hob.slotBuilds, w.hob.readAheads, s.hob.builder⟩
        rw [← hbuilder]
    · have hbuilder : w.hob.builder = none := by
        rw [hw]
        show (if _ then none else s.hob.builder) = none
        split
        · rfl
        · next hnot => exact hidle.elim id fun k => absurd k hnot
      have htakes := kickBuilder_takes (s := s) hbuilder fun j => (hwslot j).symm
      rw [hwq, hwr] at htakes
      exact TakesNext.congr htakes rfl rfl fun _ => rfl

end Sys2Proof.Machine
end

section
/-! PROOFS. HANDOFF of an identity that is built, and the span read ahead behind it (O48). -/

namespace Sys2Proof.Machine

open Sys2Proof

variable {s t u v w : State} {c start size m n : Nat} {i : Ident} {h : Held} {b : Block} {x : Nat} {tag : Byte} {buf : Buffer}
  {slots : Nat → Slot}

/-! ### The next span (R171) -/

/-- The span behind a delivered one. -/
def nextIdent (i : Ident) : Ident := ⟨i.cell, (i.start + i.size) % 128, i.size⟩

/-- The Handoff Builder with the next span of a cell to read ahead, before the builder goes on. -/
def readingAhead (w : State) (i : Ident) : Handoff :=
  { w.hob with
    buffers := tset w.hob.buffers i.cell (.pending (nextIdent i))
    readAheads := (w.hob.readAheads.filter fun e => e ≠ i.cell) ++ [i.cell]
    builder := if w.formingReadAhead i.cell = true then none else w.hob.builder }

theorem queueReadAhead_kicked (w : State) (i : Ident) : w.queueReadAhead i =
    if (w.slotOf (nextIdent i)).isSome then w else (w.setHob (readingAhead w i)).kickBuilder := by
  by_cases hs : (w.slotOf (nextIdent i)).isSome = true
  · exact (if_pos hs).trans (if_pos hs).symm
  · rw [if_neg hs]
    refine (if_neg hs).trans ?_
    unfold State.cancelReadAhead
    dsimp only
    by_cases hf : w.formingReadAhead i.cell = true
    · unfold readingAhead
      rw [if_pos hf, if_pos hf]
      rfl
    · unfold readingAhead
      rw [if_neg hf, if_neg hf]
      rfl

theorem ReadsNextAhead.congr (hr : ReadsNextAhead s w i buf slots) (hhob : v.hob = w.hob) (hctb : v.ctb = w.ctb) :
    ReadsNextAhead s v i buf slots := by
  have hslot : ∀ n, v.slot n = w.slot n := fun n => by simp only [State.slot, hhob]
  have hbuf : ∀ n, v.buffer n = w.buffer n := fun n => by simp only [State.buffer, hhob]
  intro j r hj hrr
  obtain ⟨hothers, hheld, hpending⟩ := hr j r hj hrr
  refine ⟨fun e he => (hbuf e).trans (hothers e he), fun hex => ?_, fun hno => ?_⟩
  · obtain ⟨hb, hs, hh⟩ := hheld hex
    refine ⟨(hbuf _).trans hb, fun n => (hslot n).trans (hs n), ?_⟩
    rw [hhob]
    exact hh
  · obtain ⟨hb, hbusy, hidle⟩ := hpending hno
    refine ⟨(hbuf _).trans hb, fun hsome hf => ?_, fun hor => TakesNext.congr (hidle hor) hhob hctb fun _ => rfl⟩
    obtain ⟨hs, hh⟩ := hbusy hsome hf
    refine ⟨fun n => (hslot n).trans (hs n), ?_⟩
    rw [hhob]
    exact hh

/-- A delivery that leaves `w` reads the next span ahead. -/
theorem queueReadAhead_reads (hcell : i.cell < 16)
    (hw : w.hob = { s.hob with slots := w.hob.slots, buffers := w.hob.buffers }) (hothers : ∀ e, e ≠ i.cell → w.buffer e = s.buffer e)
    (hbuf : w.buffer i.cell = buf) (hslots : ∀ n, slots n = w.slot n)
    (hsame : ∀ n, (w.slot n).ident = some (nextIdent i) ↔ (s.slot n).ident = some (nextIdent i)) :
    ReadsNextAhead s (w.queueReadAhead i) i buf slots := by
  rintro j r rfl rfl
  have hwq : w.hob.slotBuilds = s.hob.slotBuilds := by rw [hw]
  have hwr : w.hob.readAheads = s.hob.readAheads := by rw [hw]
  have hwb : w.hob.builder = s.hob.builder := by rw [hw]
  have hforming : w.formingReadAhead i.cell = s.formingReadAhead i.cell := by simp only [State.formingReadAhead, hwb]
  by_cases hheld : ∃ n, (s.slot n).ident = some (nextIdent i)
  · have hsome : (w.slotOf (nextIdent i)).isSome = true := by
      obtain ⟨n, hn⟩ := hheld
      rw [Option.isSome_iff_ne_none]
      exact fun hnone => slotOf_none hnone n ((hsame n).mpr hn)
    rw [queueReadAhead_kicked, if_pos hsome]
    exact ⟨hothers, fun _ => ⟨hbuf, fun n => (hslots n).symm, hw⟩, fun hno => absurd hheld fun ⟨n, hn⟩ => hno n hn⟩
  · have hnone : w.slotOf (nextIdent i) = none := slotOf_eq_none fun n hn => hheld ⟨n, (hsame n).mp hn⟩
    obtain ⟨y, hy⟩ : ∃ y, y = w.setHob (readingAhead w i) := ⟨_, rfl⟩
    have hybuf : ∀ e, y.buffer e = if i.cell = e ∧ i.cell < 16 then .pending (nextIdent i) else w.buffer e := fun e => by
      rw [hy]
      exact State.setBuffer_buffer w i.cell e _
    have hyslot : ∀ n, slots n = y.slot n := fun n => by rw [hslots, hy]; rfl
    have hyq : y.hob.slotBuilds = s.hob.slotBuilds := by rw [hy, ← hwq]; rfl
    have hyr : y.hob.readAheads = (s.hob.readAheads.filter fun e => e ≠ i.cell) ++ [i.cell] := by rw [hy, ← hwr]; rfl
    rw [queueReadAhead_kicked, hnone, if_neg nofun, ← hy]
    refine ⟨fun e he => ?_, fun hex => absurd hex hheld, fun _ => ⟨?_, fun hsome hf => ?_, fun hor => ?_⟩⟩
    · rw [kickBuilder_buffer, hybuf, if_neg fun k => he k.1.symm]
      exact hothers e he
    · rw [kickBuilder_buffer, hybuf, if_pos ⟨rfl, hcell⟩]
      rfl
    · obtain ⟨z, hz⟩ := Option.isSome_iff_exists.mp hsome
      have hbuilder : y.hob.builder = s.hob.builder := by
        rw [hy, ← hwb]
        exact if_neg (by rw [hforming, hf]; nofun)
      rw [kickBuilder_busy (hbuilder.trans hz)]
      refine ⟨fun n => (hyslot n).symm, ?_⟩
      rw [← hyr]
      show y.hob = ⟨y.hob.slots, y.hob.buffers, s.hob.slotBuilds, y.hob.readAheads, s.hob.builder⟩
      rw [← hbuilder, ← hyq]
    · have hbuilder : y.hob.builder = none := by
        rw [hy]
        show (if w.formingReadAhead i.cell = true then none else w.hob.builder) = none
        rcases hor with hnone | hf
        · rw [hwb, hnone, ite_self]
        · rw [hforming, if_pos hf]
      have htakes := kickBuilder_takes (s := s) hbuilder hyslot
      rwa [hyq, hyr] at htakes

/-! ### The entries of a delivered block (R160) -/

theorem settleEntries_spec (s : State) (c p : Nat) (l : List Bool) (k : List Entry) :
    (s.settleEntries c p l k).length = k.length ∧ ∀ n, n < k.length → n < l.length →
      (s.settleEntries c p l k)[n]? = if l[n]? = some true then some (s.unsettledEntry c (p + n)) else k[n]? := by
  induction l generalizing p k with
  | nil => exact ⟨by simp [State.settleEntries], fun n _ h => absurd h (Nat.not_lt_zero n)⟩
  | cons y l ih =>
    cases k with
    | nil => exact ⟨by simp [State.settleEntries], fun n h _ => absurd h (Nat.not_lt_zero n)⟩
    | cons e k =>
      obtain ⟨hlen, hget⟩ := ih (p + 1) k
      refine ⟨by simp [State.settleEntries, hlen], fun n hk hl => ?_⟩
      cases n with
      | zero => cases y <;> simp [State.settleEntries]
      | succ n =>
        have hn := hget n (by simpa using hk) (by simpa using hl)
        rw [Nat.add_assoc, Nat.add_comm 1 n] at hn
        simpa [State.settleEntries] using hn

theorem deliverable_clear (hm : true ∉ h.marks) : s.deliverable h b = b :=
  if_neg (by rw [any_marks]; exact hm)

theorem deliverable_marked (hm : true ∈ h.marks) : s.deliverable h b = { b with
    order := (s.profile h.ident.cell).order, entries := s.settleEntries h.ident.cell h.ident.start h.marks b.entries } :=
  if_pos (by rw [any_marks]; exact hm)

/-! ### The service of a COMPLETE slot (R159) -/

theorem serveSlot_delivers (hdue : true ∉ h.marks ∨ 3 ≤ h.rebuilds) : s.serveSlot m h b =
    ((s.freeSlot m).queueReadAhead h.ident, accept (.block h.rebuilds (s.deliverable h b))) := by
  refine if_neg fun hcond => ?_
  rw [Bool.and_eq_true, any_marks, decide_eq_true_eq] at hcond
  exact hdue.elim (fun k => k hcond.1) fun k => Nat.not_lt.mpr k hcond.2

theorem serveSlot_rebuilds (hm : true ∈ h.marks) (hr : h.rebuilds < 3) : s.serveSlot m h b =
    (s.requeueSlot m h).kickBuilder.retry h.ident m (h.rebuilds + 1) :=
  if_pos (by rw [Bool.and_eq_true, any_marks, decide_eq_true_eq]; exact ⟨hm, hr⟩)

theorem serveFresh_buffer (hbuf : s.buffer i.cell = .valid i b) :
    s.serveFresh i = ((s.setBuffer i.cell .empty).queueReadAhead i, accept (.block 0 b)) := by
  unfold State.serveFresh
  dsimp only
  rw [hbuf]
  exact if_pos rfl

/-- Settles O48, by the holder of the identity, and the marks and the rebuild count of its slot. -/
theorem handoffDelivers : Obligations.HandoffDelivers := by
  unfold Obligations.HandoffDelivers
  intro c start size m i b tag s h hc hstart hsize hprofile hi
  have hkeep : (s.port .M).keep = false := taken_keep h
  obtain ⟨rfl, -⟩ := id hi
  have hcell : i.cell < 16 := by omega
  refine ⟨fun k x hslot hk honly => ?_, fun hbuf hno => ?_⟩
  · subst hk
    have hm : m < 4 := slot_lt (by rw [hslot]; nofun)
    have hheld : (s.slot m).ident = some k.ident := by rw [hslot]; rfl
    have hrun := handoff_complete hc hstart hsize hprofile hi hslot (slotOf_eq_some hheld honly)
    by_cases hdue : true ∉ k.marks ∨ 3 ≤ k.rebuilds
    · obtain ⟨w, hw⟩ : ∃ w, w = (s.freeSlot m).queueReadAhead k.ident := ⟨_, rfl⟩
      rw [serveSlot_delivers hdue, ← hw] at hrun
      have hframe : w = { s with hob := w.hob } := by
        rw [hw, queueReadAhead_eq]
        rfl
      have hexec := exec_handoff h hrun (by rw [hframe]; exact hkeep) rfl
      have hports : ∀ r, (w.replied .M r).ports = (s.replied .M r).ports := fun r => replied_congr (by rw [hframe]) _ _
      have hreads : ∀ slots : Nat → Slot, slots = (fun n => if n = m then .free else s.slot n) →
          ReadsNextAhead s w k.ident (s.buffer k.ident.cell) slots := by
        rintro slots rfl
        have hfree : ∀ n, (s.freeSlot m).slot n = if n = m then .free else s.slot n := fun n => by
          refine (State.setSlot_slot s m n .free).trans ?_
          by_cases he : n = m
          · simp [he, hm]
          · simp [he, Ne.symm he]
        rw [hw]
        refine queueReadAhead_reads hcell rfl (fun _ _ => rfl) rfl (fun n => (hfree n).symm) fun n => ?_
        rw [hfree]
        by_cases he : n = m
        · subst he
          rw [if_pos rfl, hheld]
          exact ⟨nofun, fun hn => absurd (Option.some.inj hn).symm (next_ne hi)⟩
        · rw [if_neg he]
      refine ⟨_, hexec, ?_, fun slots hslots => ⟨fun hclear => ⟨ReadsNextAhead.congr (hreads slots hslots) rfl rfl, ?_⟩,
        fun hmarked hthree => ⟨ReadsNextAhead.congr (hreads slots hslots) rfl rfl,
          s.settleEntries k.ident.cell k.ident.start k.marks b.entries, ?_, ?_⟩⟩, fun hmarked hlow => ?_⟩
      · rw [hframe]
        rfl
      · rw [hports, deliverable_clear hclear]
        rfl
      · rw [hports, deliverable_marked hmarked]
        rfl
      · obtain ⟨hlen, hget⟩ := settleEntries_spec s k.ident.cell k.ident.start k.marks b.entries
        exact ⟨hlen, hget⟩
      · exact absurd hdue fun hd => hd.elim (fun hclear => hclear hmarked) fun hthree => by omega
    · obtain ⟨hmarked, hlow⟩ : true ∈ k.marks ∧ k.rebuilds < 3 := by simpa using hdue
      obtain ⟨w, hw⟩ : ∃ w, w = s.requeueSlot m k := ⟨_, rfl⟩
      rw [serveSlot_rebuilds hmarked hlow, ← hw] at hrun
      have hframe : w.kickBuilder = { s with hob := w.kickBuilder.hob } := by
        rw [kickBuilder_eq, hw]
        rfl
      have hslots' : ∀ n, w.slot n = if n = m then .building { k with rebuilds := k.rebuilds + 1 } else s.slot n := fun n => by
        rw [hw]
        refine (State.setSlot_slot s m n _).trans ?_
        by_cases he : n = m
        · simp [he, hm]
        · simp [he, Ne.symm he]
      have hwq : w.hob.slotBuilds = s.hob.slotBuilds ++ [m] := by rw [hw]; rfl
      have hwr : w.hob.readAheads = s.hob.readAheads := by rw [hw]; rfl
      have hwb : w.hob.builder = s.hob.builder := by rw [hw]; rfl
      have hwkeep : (w.kickBuilder.port .M).keep = false := by rw [hframe]; exact hkeep
      have hwports : w.kickBuilder.ports = s.ports := by rw [hframe]
      have hexec := exec_handoff h hrun hwkeep rfl
      refine ⟨_, hexec, ?_, fun slots _ => ⟨fun hclear => absurd hmarked hclear, fun _ hthree => absurd hthree (by omega)⟩,
        fun _ _ => ⟨fun e => ?_, ?_, fun slots hslots => ⟨fun hsome => ?_, fun hnone => ?_⟩⟩⟩
      · show w.kickBuilder.replied .M _ = _
        rw [hframe]
        rfl
      · refine (kickBuilder_buffer w e).trans ?_
        rw [hw]
        rfl
      · exact replied_congr hwports _ _
      · obtain ⟨y, hy⟩ := Option.isSome_iff_exists.mp hsome
        have hkick : w.kickBuilder = w := kickBuilder_busy (hwb.trans hy)
        refine ⟨fun n => ?_, ?_⟩
        · rw [hkick, hslots]
          exact hslots' n
        · rw [hkick, hw]
          rfl
      · have htakes := kickBuilder_takes (s := s) (w := w) (slots := slots) (hwb.trans hnone) fun n => by rw [hslots, hslots' n]
        rw [hwq, hwr] at htakes
        exact TakesNext.congr htakes rfl rfl fun _ => rfl
  · have hrun := (handoff_fresh hc hstart hsize hprofile hi (slotOf_eq_none hno)).trans (serveFresh_buffer hbuf)
    obtain ⟨w, hw⟩ : ∃ w, w = (s.setBuffer i.cell .empty).queueReadAhead i := ⟨_, rfl⟩
    rw [← hw] at hrun
    have hframe : w = { s with hob := w.hob } := by
      rw [hw, queueReadAhead_eq]
      rfl
    have hexec := exec_handoff h hrun (by rw [hframe]; exact hkeep) rfl
    have hempty : ∀ e, (s.setBuffer i.cell .empty).buffer e = if i.cell = e ∧ i.cell < 16 then .empty else s.buffer e := fun e =>
      State.setBuffer_buffer s i.cell e .empty
    have hreads : ReadsNextAhead s w i .empty s.slot := by
      rw [hw]
      refine queueReadAhead_reads hcell rfl (fun e he => ?_) ?_ (fun _ => rfl) fun _ => Iff.rfl
      · rw [hempty, if_neg fun k => he k.1.symm]
      · rw [hempty, if_pos ⟨rfl, hcell⟩]
    refine ⟨_, hexec, ReadsNextAhead.congr hreads rfl rfl, ?_, replied_congr (by rw [hframe]) _ _⟩
    rw [hframe]
    rfl

end Sys2Proof.Machine
end

section
/-! PROOFS. USAGE: wear, its notices, and the automatic request (O44). -/

namespace Sys2Proof.Machine

open Sys2Proof

variable {s t v w : State} {a c p f n u : Nat} {r q x : AsmRecord} {warn exh : Bool}

/-! ### The record behind a report (R138 to R140) -/

/-- The record a report leaves, its used and warned mark written in `q`. -/
def exhaustedIf (exh : Bool) (q : AsmRecord) : AsmRecord :=
  if exh then { q with state := .exhausted, prior := none, rejected := none, stock := none } else q

section

variable (hu : u = min 64000000 (r.used + n)) (hwarn : warn = (decide (r.limit * 8 * r.warn ≤ u * 100) && !r.warned))
  (hexh : exh = (decide (r.state = .issued) && decide (8 * r.limit ≤ u))) (hq : q = { r with used := u, warned := r.warned || warn })

include hu hwarn in
theorem warnNow_addUse : (r.addUse n).warnNow = warn := by
  rw [hwarn, hu]
  rfl

include hu hexh in
theorem exhaustNow_addUse : (r.addUse n).exhaustNow = exh := by
  rw [hexh, hu]
  rfl

include hu hwarn hexh hq in
theorem worn_eq : r.worn n = exhaustedIf exh q := by
  have hwarned : (r.warned || decide (r.limit * 8 * r.warn ≤ u * 100)) = (r.warned || warn) := by
    rw [hwarn]
    cases r.warned <;> simp
  have hrec : ({ r.addUse n with warned := (r.addUse n).warned || (r.addUse n).warnReached } : AsmRecord) = q := by
    rw [hq, ← hwarned, hu]
    rfl
  have hq' : q.exhaustNow = exh := by
    rw [hexh, hq]
    rfl
  unfold AsmRecord.worn exhaustedIf
  dsimp only
  rw [hrec, hq']
  cases exh <;> rfl

include hq in
/-- A report changes the persistent view in more than used where a test finds something (R143). -/
theorem viewChanged_worn (hwarn' : warn = true → r.warned = false) (hexh' : exh = true → r.state = .issued) :
    r.viewChanged (exhaustedIf exh q) = (warn || exh) := by
  unfold AsmRecord.viewChanged
  cases exh with
  | true =>
    rw [Bool.or_true]
    refine decide_eq_true fun he => ?_
    have hstate : r.view.state = .exhausted := congrArg AsmRecord.state he
    unfold AsmRecord.view at hstate
    rw [hexh' rfl] at hstate
    nomatch hstate
  | false =>
    rw [Bool.or_false, hq]
    cases warn with
    | true =>
      refine decide_eq_true fun he => ?_
      have hwarned : r.warned = (r.warned || true) := congrArg AsmRecord.warned he
      rw [hwarn' rfl] at hwarned
      nomatch hwarned
    | false =>
      refine decide_eq_false fun hne => hne ?_
      rw [Bool.or_false]
      rfl

end

/-- The pocket of the assembly is signalled when the report exhausts it, and not for its used alone (R19). -/
theorem changeAsm_worn (ha : a < 512) (hb : (s.asm a).binding = some (c, p)) (hexh : exh = true → (s.asm a).state = .issued)
    (hq : q = { s.asm a with used := u, warned := (s.asm a).warned || warn }) : s.changeAsm a (exhaustedIf exh q) =
      if exh then (s.setAsm a (exhaustedIf exh q)).disturb (.pocket c p) else s.setAsm a (exhaustedIf exh q) := by
  cases exh with
  | true =>
    have hrec : (s.setAsm a (exhaustedIf true q)).asm a = exhaustedIf true q := by simp [State.setAsm_asm, ha]
    rw [if_pos rfl]
    refine changeAsm_keepsPocket (pocketOf_bound (.inl (hexh rfl)) hb) (by rw [hexh rfl]; nofun) (pocketOf_bound (.inr ?_) ?_)
    · rw [hrec]; rfl
    · rw [hrec, hq]; exact hb
  | false =>
    rw [if_neg nofun]
    refine changeAsm_same _ _ ?_
    rw [hq]
    simp [exhaustedIf, AsmRecord.handoffChanged, AsmRecord.markSet]

/-! ### The automatic request (R126) -/

theorem sisterPockets_isEmpty : (v.sisterPockets c (some f)).isEmpty = true ↔ ∀ x b, x < 128 → v.pocket c x = .bound b →
    (v.asm b).state = .issued → (v.asm b).family = some f → (v.asm b).markSet = false := by
  unfold State.sisterPockets
  rw [List.isEmpty_iff, List.filter_eq_nil_iff]
  refine ⟨fun h x b hx hb hst hf => ?_, fun h x hx => ?_⟩
  · have hno := h x (List.mem_range.mpr hx)
    simpa [State.sisterPocket, State.boundAsm, hb, hst, hf] using hno
  · cases hb : v.pocket c x with
    | bound b =>
      intro hsister
      have hall : ((v.asm b).state = .issued ∧ (v.asm b).family = some f) ∧ (v.asm b).markSet = true := by
        simpa [State.sisterPocket, State.boundAsm, hb] using hsister
      obtain ⟨⟨hst, hf⟩, hm⟩ := hall
      rw [h x b (List.mem_range.mp hx) hb hst hf] at hm
      nomatch hm
    | empty => simp [State.sisterPocket, State.boundAsm, hb]
    | reserved b => simp [State.sisterPocket, State.boundAsm, hb]

theorem findPick_none {l : List Pick} : findPick l c p = none ↔ ∀ k ∈ l, ¬(k.cell = c ∧ k.pocket = p) := by
  unfold findPick
  rw [List.find?_eq_none]
  simp [Pick.names]

/-- No automatic request where one of its conditions is missing. -/
theorem autoRequest_none (h : (v.asm a).family = none ∨ (v.profile c).autoRequest = false ∨ (∃ k ∈ v.picks, k.cell = c ∧ k.pocket = p) ∨
    ∃ x b f, x < 128 ∧ v.pocket c x = .bound b ∧ (v.asm a).family = some f ∧ (v.asm b).state = .issued ∧
      (v.asm b).family = some f ∧ (v.asm b).markSet = true) : v.autoRequest a c p = v := by
  unfold State.autoRequest
  cases hf : (v.asm a).family with
  | none => rfl
  | some f =>
    refine if_neg fun hcond => ?_
    simp only [Bool.and_eq_true, Option.isNone_iff_eq_none] at hcond
    obtain ⟨⟨hauto, hsisters⟩, hpick⟩ := hcond
    rcases h with h | h | ⟨k, hk, hkc⟩ | ⟨x, b, g, hx, hb, hg, hst, hfam, hm⟩
    · rw [hf] at h
      nomatch h
    · rw [h] at hauto
      nomatch hauto
    · exact findPick_none.mp hpick k hk hkc
    · obtain rfl : f = g := Option.some.inj (hf.symm.trans hg)
      rw [sisterPockets_isEmpty.mp hsisters x b hx hb hst hfam] at hm
      nomatch hm

/-- The automatic request, or the word that the list is full. -/
theorem autoRequest_some (hf : (v.asm a).family = some f) (hauto : (v.profile c).autoRequest = true)
    (hpick : ∀ k ∈ v.picks, ¬(k.cell = c ∧ k.pocket = p)) (hsisters : ∀ x b, x < 128 → v.pocket c x = .bound b →
      (v.asm b).state = .issued → (v.asm b).family = some f → (v.asm b).markSet = false) :
    v.autoRequest a c p = if v.picks.length < 32 then (v.setPicks (v.picks ++ [⟨c, p, f, .auto, .waitEmpty⟩])).placed
      [(.C, .pickAdded c p f .auto .waitEmpty (v.picks.length + 1))] else v.placed [(.C, .pickRefused c p f a)] := by
  unfold State.autoRequest
  rw [hf]
  refine if_pos ?_
  rw [hauto, sisterPockets_isEmpty.mpr hsisters, findPick_none.mpr hpick]
  rfl

/-! ### The commit of a report (R143) -/

theorem commitThreshold_eq (r : AsmRecord) : r.commitThreshold = (r.limit + 7) / 8 := by
  unfold AsmRecord.commitThreshold ceilDiv
  omega

theorem commitUse_spec {old : AsmRecord} (hasm : v.asm a = x) (hrst : v.rst = s.rst) :
    v.commitUse a old = { v with rst := (v.commitUse a old).rst } ∧
    (old.viewChanged x = true ∨ x.used ≠ old.used ∧ (x.limit + 7) / 8 ≤ x.used - x.committed → Dirties s (v.commitUse a old) [a]) ∧
    (old.viewChanged x = false → x.used = old.used ∨ x.used - x.committed < (x.limit + 7) / 8 → (v.commitUse a old).rst = s.rst) := by
  have hdirty : Dirties s (v.dirty a) [a] := dirties_one (u := v) hrst rfl (by simp)
  unfold State.commitUse
  rw [hasm]
  dsimp only
  rw [commitThreshold_eq]
  refine ⟨?_, fun h => ?_, fun hview h => ?_⟩
  · split
    · exact dirty_eq v a
    · split
      · exact dirty_eq v a
      · rfl
  · by_cases hview : old.viewChanged x = true
    · rw [if_pos hview]
      exact hdirty
    · rw [if_neg hview, if_pos (h.resolve_left hview)]
      exact hdirty
  · rw [hview, if_neg nofun, if_neg (by rintro ⟨hne, hle⟩; exact h.elim (fun he => hne he) fun hlt => by omega)]
    exact hrst

/-- The notices of a report on a record with used `u` (R139, R140). -/
def wearNotices (a c p u : Nat) (r : AsmRecord) (warn exh : Bool) : List (Port × Notice) :=
  (if warn then [(.C, .lifeWarning a c p (u / 8) r.limit r.warn (remainingOf r.mode r.limit u)),
      (.M, .lifeWarning a c p (u / 8) r.limit r.warn (remainingOf r.mode r.limit u))] else []) ++
    (if exh then [(.C, .lifeExhausted a c p r.family (u / 8) r.limit),
      (.M, .lifeExhausted a c p r.family (u / 8) r.limit)] else [])

/-- A report in the order of R141: the record and the pocket's signal, the notices, the automatic request, the commit. -/
theorem reportUse_eq (hr : r = s.asm a) (hu : u = min 64000000 (r.used + n))
    (hwarn : warn = (decide (r.limit * 8 * r.warn ≤ u * 100) && !r.warned))
    (hexh : exh = (decide (r.state = .issued) && decide (8 * r.limit ≤ u))) (hq : q = { r with used := u, warned := r.warned || warn }) :
    s.reportUse a c p n = (if exh then ((s.changeAsm a (exhaustedIf exh q)).placed (wearNotices a c p u r warn exh)).autoRequest a c p
      else (s.changeAsm a (exhaustedIf exh q)).placed (wearNotices a c p u r warn exh)).commitUse a r := by
  have hadd : r.addUse n = { r with used := u } := by rw [hu]; rfl
  unfold State.reportUse
  dsimp only
  rw [← hr, worn_eq hu hwarn hexh hq, warnNow_addUse hu hwarn, exhaustNow_addUse hu hexh, hadd]
  obtain ⟨w, hw⟩ : ∃ w, w = s.changeAsm a (exhaustedIf exh q) := ⟨_, rfl⟩
  rw [← hw]
  unfold State.noticeWarning State.noticeExhausted wearNotices
  simp only [remaining_eq, AsmRecord.units]
  cases warn <;> cases exh <;> simp [State.placed]

theorem autoRequest_eq (v : State) (a c p : Nat) : v.autoRequest a c p = { v with
    ctb := { v.ctb with picks := (v.autoRequest a c p).picks }, ports := (v.autoRequest a c p).ports } := by
  have hctb : (v.autoRequest a c p).ctb = { v.ctb with picks := (v.autoRequest a c p).picks } := by
    unfold State.autoRequest
    split
    · rfl
    · split
      · split
        · rw [notify_ctb, notify_picks]
          rfl
        · rw [notify_ctb, notify_picks]
          rfl
      · rfl
  refine eq_of_parts ?_ ?_ ?_ ?_ ?_ hctb ?_ ?_ ?_ ?_ ?_ ?_ ?_ <;> simp

/-- USAGE that its checks pass (R136). -/
theorem usage_passed {seconds count : Nat} (hc : c ≤ 15) (hp : p ≤ 127) (hsize : p < (s.profile c).size)
    (hpocket : s.pocket c p = .bound a) : usage c p seconds count s =
      if (s.asm a).mode = .none then
        (s, acceptClamped (decide (3600 < seconds) || decide (1000 < count)) (usageBody a (s.asm a) (s.asm a)))
      else (s.reportUse a c p (usageAmount (s.asm a).mode (min seconds 3600) (min count 1000) * (s.profile c).factor),
        acceptClamped (decide (3600 < seconds) || decide (1000 < count)) (usageBody a (s.asm a)
          ((s.reportUse a c p (usageAmount (s.asm a).mode (min seconds 3600) (min count 1000) * (s.profile c).factor)).asm a))) := by
  have hbound : s.boundAsm c p = some a := by simp only [State.boundAsm, hpocket]
  unfold usage
  rw [if_neg (by omega), if_neg (by omega), if_neg (by omega), hbound]

theorem usageBody_worn (hq : q = { r with used := u, warned := r.warned || warn }) :
    usageBody a r (exhaustedIf exh q) = .usage a (if exh then .exhausted else r.state) u (u / 8) (remainingOf r.mode r.limit u)
      (r.warned || warn) (u - r.used) := by
  unfold usageBody
  rw [remaining_eq, hq]
  cases exh <;> rfl

/-- The state behind a report before its commit. -/
def State.reported (s : State) (a c p u : Nat) (r q : AsmRecord) (warn exh : Bool) : State :=
  if exh then ((s.changeAsm a (exhaustedIf exh q)).placed (wearNotices a c p u r warn exh)).autoRequest a c p
  else (s.changeAsm a (exhaustedIf exh q)).placed (wearNotices a c p u r warn exh)

section

variable (ha : a < 512) (hr : r = s.asm a) (hb : r.binding = some (c, p)) (hexh : exh = true → r.state = .issued)
  (hq : q = { r with used := u, warned := r.warned || warn })

include ha hr hb hexh hq

/-- The record written, the pocket signalled and the notices placed. -/
theorem worn_eq_parts : (s.changeAsm a (exhaustedIf exh q)).placed (wearNotices a c p u r warn exh) = { s with
    atb := (s.setAsm a (exhaustedIf exh q)).atb
    hob := if exh then (s.disturb (.pocket c p)).hob else s.hob
    ports := s.ports.placeAll (wearNotices a c p u r warn exh) } := by
  subst hr
  rw [changeAsm_worn ha hb hexh hq]
  cases exh with
  | true =>
    rw [if_pos rfl, if_pos rfl]
    have hhob : ((s.setAsm a (exhaustedIf true q)).disturb (.pocket c p)).hob = (s.disturb (.pocket c p)).hob :=
      disturb_hob_congr _ rfl fun _ => rfl
    refine eq_of_parts ?_ ?_ ?_ ?_ ?_ ?_ ?_ ?_ ?_ ?_ ?_ ?_ ?_ <;> simp [hhob]
  | false =>
    rw [if_neg nofun, if_neg nofun]
    refine eq_of_parts ?_ ?_ ?_ ?_ ?_ ?_ ?_ ?_ ?_ ?_ ?_ ?_ ?_ <;> simp

theorem reported_frame : (s.reported a c p u r q warn exh) = { s with
      atb := (s.setAsm a (exhaustedIf exh q)).atb
      ctb := { s.ctb with picks := (s.reported a c p u r q warn exh).picks }
      hob := if exh then (s.disturb (.pocket c p)).hob else s.hob
      ports := (s.reported a c p u r q warn exh).ports } := by
  unfold State.reported
  rw [worn_eq_parts ha hr hb hexh hq]
  split
  · exact autoRequest_eq _ a c p
  · rfl

/-- No automatic request: the pick list stands. -/
theorem reported_quiet (h : exh = false ∨ r.family = none ∨ (s.profile c).autoRequest = false ∨
      (∃ k ∈ s.picks, k.cell = c ∧ k.pocket = p) ∨
      ∃ x b f, x < 128 ∧ s.pocket c x = .bound b ∧ b ≠ a ∧ r.family = some f ∧ (s.asm b).state = .issued ∧
        (s.asm b).family = some f ∧ (s.asm b).markSet = true) :
    (s.reported a c p u r q warn exh).picks = s.picks ∧
      (s.reported a c p u r q warn exh).ports = s.ports.placeAll (wearNotices a c p u r warn exh) := by
  obtain ⟨w, hw⟩ : ∃ w, w = (s.changeAsm a (exhaustedIf exh q)).placed (wearNotices a c p u r warn exh) := ⟨_, rfl⟩
  have hparts := hw.trans (worn_eq_parts ha hr hb hexh hq)
  have hasm : ∀ b, w.asm b = if a = b ∧ a < 512 then exhaustedIf exh q else s.asm b := fun b => by
    rw [hparts]
    exact State.setAsm_asm s a b _
  have hquiet : s.reported a c p u r q warn exh = w := by
    unfold State.reported
    rw [← hw]
    cases hcase : exh with
    | false => rfl
    | true =>
      have hfamily : (w.asm a).family = r.family := by
        rw [hasm, if_pos ⟨rfl, ha⟩, hq, hcase]
        rfl
      refine (if_pos rfl).trans (autoRequest_none ?_)
      rw [hfamily]
      rcases h with h | h | h | h | ⟨x, b, f, hx, hb', hne, hf, hst, hfam, hm⟩
      · rw [hcase] at h
        nomatch h
      · exact .inl h
      · exact .inr (.inl (by rw [hparts]; exact h))
      · exact .inr (.inr (.inl (by rw [hparts]; exact h)))
      · have hother : w.asm b = s.asm b := by rw [hasm, if_neg fun k => hne k.1.symm]
        exact .inr (.inr (.inr ⟨x, b, f, hx, by rw [hparts]; exact hb', hf, by rw [hother]; exact hst,
          by rw [hother]; exact hfam, by rw [hother]; exact hm⟩))
  rw [hquiet, hparts]
  exact ⟨rfl, rfl⟩

/-- The automatic request of an exhausted assembly (R126). -/
theorem reported_requests (he : exh = true) (hf : r.family = some f) (hauto : (s.profile c).autoRequest = true)
    (hpick : ∀ k ∈ s.picks, ¬(k.cell = c ∧ k.pocket = p)) (hsisters : ∀ x b, x < 128 → s.pocket c x = .bound b → b ≠ a →
      (s.asm b).state = .issued → (s.asm b).family = some f → (s.asm b).markSet = false) :
    (s.picks.length < 32 → (s.reported a c p u r q warn exh).picks = s.picks ++ [⟨c, p, f, .auto, .waitEmpty⟩] ∧
      (s.reported a c p u r q warn exh).ports = s.ports.placeAll (wearNotices a c p u r warn exh ++
        [(.C, .pickAdded c p f .auto .waitEmpty (s.picks.length + 1))])) ∧
    (32 ≤ s.picks.length → (s.reported a c p u r q warn exh).picks = s.picks ∧
      (s.reported a c p u r q warn exh).ports = s.ports.placeAll (wearNotices a c p u r warn exh ++ [(.C, .pickRefused c p f a)])) := by
  obtain ⟨w, hw⟩ : ∃ w, w = (s.changeAsm a (exhaustedIf exh q)).placed (wearNotices a c p u r warn exh) := ⟨_, rfl⟩
  have hparts := hw.trans (worn_eq_parts ha hr hb hexh hq)
  have hasm : ∀ b, w.asm b = if a = b ∧ a < 512 then exhaustedIf exh q else s.asm b := fun b => by
    rw [hparts]
    exact State.setAsm_asm s a b _
  have hself : w.asm a = exhaustedIf true q := by rw [hasm, if_pos ⟨rfl, ha⟩, he]
  have hpicks : w.picks = s.picks := by rw [hparts]; rfl
  have hports : w.ports = s.ports.placeAll (wearNotices a c p u r warn exh) := by rw [hparts]
  have hrequest : s.reported a c p u r q warn exh = w.autoRequest a c p := by
    unfold State.reported
    rw [← hw]
    exact if_pos he
  have hauto' := autoRequest_some (v := w) (a := a) (f := f) (c := c) (p := p) (by rw [hself, hq]; exact hf)
    (by rw [hparts]; exact hauto) (by rw [hpicks]; exact hpick) (fun x b hx hb' hst hfam => by
      have hne : b ≠ a := by
        rintro rfl
        rw [hself] at hst
        nomatch hst
      rw [hasm, if_neg fun k => hne k.1.symm] at hst hfam ⊢
      rw [hparts] at hb'
      exact hsisters x b hx hb' hne hst hfam)
  rw [hrequest, hauto', hpicks]
  refine ⟨fun hlt => ?_, fun hge => ?_⟩
  · rw [if_pos hlt, placeAll_append, ← hports]
    exact ⟨by simp, by simp⟩
  · rw [if_neg (Nat.not_lt.mpr hge), placeAll_append, ← hports]
    exact ⟨by simp [hpicks], by simp⟩

end

/-- Settles O44, by the mode of the record and the outcome of both tests. -/
theorem usageCountsWear : Obligations.UsageCountsWear := by
  unfold Obligations.UsageCountsWear
  intro c p seconds count a u warn exh r q tag s h hc hp hsize hpocket ha hr hb hu hwarn hexh hq
  have ha' : a < 512 := by omega
  have hrun := usage_passed (seconds := seconds) (count := count) hc hp hsize hpocket
  have hclamped : (decide (3600 < seconds) || decide (1000 < count)) = decide (3600 < seconds ∨ 1000 < count) :=
    (Bool.decide_or _ _).symm
  have htouch : s.touchNamed .M (.usage c p seconds count) = s := touchNamed_of_none rfl
  rw [hclamped, ← hr] at hrun
  refine ⟨fun hmode => ?_, fun hmode => ?_⟩
  · rw [if_pos hmode] at hrun
    have hbody : usageBody a r r = .usage a r.state r.used (r.used / 8) none r.warned 0 := by
      unfold usageBody
      rw [remaining_eq, remainingOf, if_pos hmode, Nat.sub_self]
      rfl
    rw [hbody] at hrun
    exact exec_accepted (p := .M) rfl h (by rw [htouch]; exact hrun)
  · rw [if_neg hmode] at hrun
    obtain ⟨n, hn⟩ : ∃ n, n = usageAmount r.mode (min seconds 3600) (min count 1000) * (s.profile c).factor := ⟨_, rfl⟩
    have hu' : u = min 64000000 (r.used + n) := by
      rw [hu, hn]
      cases hm : r.mode with
      | none => exact absurd hm hmode
      | count => rfl
      | time => rfl
    have hexh' : exh = true → r.state = .issued := fun he => by
      rw [he] at hexh
      have hboth := hexh.symm
      rw [Bool.and_eq_true, decide_eq_true_eq] at hboth
      exact hboth.1
    have hwarn' : warn = true → r.warned = false := fun hw => by
      rw [hw] at hwarn
      have hboth := hwarn.symm
      rw [Bool.and_eq_true, Bool.not_eq_true'] at hboth
      exact hboth.2
    obtain ⟨v, hv⟩ : ∃ v, v = s.reported a c p u r q warn exh := ⟨_, rfl⟩
    have hreport : s.reportUse a c p n = v.commitUse a r := by
      rw [hv]
      exact reportUse_eq hr hu' hwarn hexh hq
    have hframe := reported_frame (warn := warn) ha' hr hb hexh' hq
    have hquiet := reported_quiet (warn := warn) ha' hr hb hexh' hq
    have hrequests := fun f => reported_requests (f := f) (warn := warn) ha' hr hb hexh' hq
    rw [← hv] at hframe hquiet
    have hasm : ∀ b, v.asm b = if a = b ∧ a < 512 then exhaustedIf exh q else s.asm b := fun b => by
      rw [hframe]
      exact State.setAsm_asm s a b _
    have hself : v.asm a = exhaustedIf exh q := (hasm a).trans (if_pos ⟨rfl, ha'⟩)
    have hvrst : v.rst = s.rst := by rw [hframe]
    obtain ⟨hcommit, hdirty, hclean⟩ := commitUse_spec (old := r) hself hvrst
    obtain ⟨z, hz⟩ : ∃ z, z = v.commitUse a r := ⟨_, rfl⟩
    rw [← hz] at hcommit hdirty hclean hreport
    have hzself : z.asm a = exhaustedIf exh q := by
      rw [hcommit]
      exact hself
    rw [← hn, hreport, hzself, usageBody_worn hq] at hrun
    have hexec := exec_accepted (p := .M) rfl h (by rw [htouch]; exact hrun)
    have hview := viewChanged_worn (exh := exh) hq hwarn' hexh'
    have hfields : (exhaustedIf exh q).used = u ∧ (exhaustedIf exh q).limit = r.limit ∧ (exhaustedIf exh q).committed = r.committed := by
      rw [hq]
      cases exh <;> exact ⟨rfl, rfl, rfl⟩
    obtain ⟨hused, hlimit, hcommitted⟩ := hfields
    rw [hview, hused, hlimit, hcommitted] at hdirty hclean
    obtain ⟨rep, hrep⟩ : ∃ rep, rep = okReply tag (decide (3600 < seconds ∨ 1000 < count))
      (.usage a (if exh then .exhausted else r.state) u (u / 8) (remainingOf r.mode r.limit u) (r.warned || warn) (u - r.used)) :=
      ⟨_, rfl⟩
    rw [← hrep] at hexec
    obtain ⟨t, ht⟩ : ∃ t, t = z.replied .M rep := ⟨_, rfl⟩
    rw [← ht] at hexec
    have htv : t = { v with rst := z.rst, ports := t.ports } := by
      rw [ht, hcommit]
      rfl
    have htports : t.ports = (v.replied .M rep).ports := by
      rw [ht, hcommit]
      rfl
    have htasm : ∀ b, t.asm b = v.asm b := fun b => by rw [htv]; rfl
    have htrst : t.rst = z.rst := by rw [htv]
    have hthob : t.hob = if exh then (s.disturb (.pocket c p)).hob else s.hob := by rw [htv, hframe]
    have htpicks : t.picks = v.picks := by rw [htv]; rfl
    have htctb : t.ctb = { s.ctb with picks := t.picks } := by
      rw [htpicks, htv]
      exact congrArg State.ctb hframe
    have hplace : ∀ l, v.ports = s.ports.placeAll l → t.ports = ((s.placed l).replied .M rep).ports := fun l hl => by
      rw [htports]
      exact replied_congr (by rw [hl, placed_ports_eq]) _ _
    refine ⟨t, hexec, fun b hb' => ?_, ?_, fun hor => ?_, fun hw he hor => ?_, hthob, fun he => ?_, ?_, fun rep' l hrep' hl => ?_⟩
    · rw [htasm, hasm, if_neg fun k => hb' k.1.symm]
    · rw [htasm, hself]
      rfl
    · refine (hdirty ?_).congr htrst fun k _ => ?_
      · rcases hor with h1 | h2 | h3
        · exact .inl (by rw [h1]; rfl)
        · exact .inl (by rw [h2, Bool.or_true])
        · exact .inr h3
      · rw [ht]
        rfl
    · rw [htrst]
      exact hclean (by rw [hw, he]; rfl) hor
    · refine DisturbedBy.congr_profile (disturbedBy_disturb s (.pocket c p)) rfl (hthob.trans (if_pos he)) fun e => ?_
      have hctb : (s.disturb (.pocket c p)).ctb = s.ctb := by simp
      simp only [State.profile, State.cell, hctb, htctb]
    · refine eq_of_parts rfl ?_ ?_ ?_ ?_ htctb rfl rfl ?_ rfl ?_ ?_ ?_ <;> rw [htv, hframe]
    · obtain rfl : rep' = rep := hrep'.trans hrep.symm
      obtain rfl : l = wearNotices a c p u r warn exh := hl
      refine ⟨fun hq' => ?_, fun f he hf hauto hpick hsisters => ?_⟩
      · obtain ⟨hp1, hp2⟩ := hquiet hq'
        exact ⟨htpicks.trans hp1, hplace _ hp2⟩
      · obtain ⟨hlt, hge⟩ := hrequests f he hf hauto hpick hsisters
        rw [← hv] at hlt hge
        refine ⟨fun hlen => ?_, fun hlen => ?_⟩
        · obtain ⟨hp1, hp2⟩ := hlt hlen
          exact ⟨htpicks.trans hp1, hplace _ hp2⟩
        · obtain ⟨hp1, hp2⟩ := hge hlen
          exact ⟨htpicks.trans hp1, hplace _ hp2⟩

end Sys2Proof.Machine
end

section
/-! PROOFS. One millisecond of the timers (O2). -/

namespace Sys2Proof.Machine

open Sys2Proof

variable {s t : State}

/-! ### The timers a millisecond on (R14, R75, R76, R85, R169) -/

theorem asmTick_eq (r : AsmRecord) : r.tick = { r with idle := if r.holder.isSome then r.idle + 1 else r.idle } := by
  unfold AsmRecord.tick
  split <;> rfl

/-- The two timers of a drawer run in different states. -/
theorem drawerTick_eq (r : Drawer) : r.tick = { r with
    waitTimer := if r.state.waiting then r.waitTimer + 1 else r.waitTimer
    openTimer := if r.state = .opened then r.openTimer + 1 else r.openTimer } := by
  unfold Drawer.tick
  by_cases hw : r.state.waiting = true
  · have hopen : r.state ≠ .opened := fun h => by
      rw [h] at hw
      nomatch hw
    rw [if_pos hw, if_pos hw, if_neg hopen]
  · rw [if_neg hw, if_neg hw]
    split <;> rfl

theorem driverTick_eq (r : Driver) : r.tick =
    { r with pulseTimer := if r.pulsing.isSome then r.pulseTimer + 1 else r.pulseTimer } := by
  unfold Driver.tick
  split <;> rfl

theorem advance_asm (s : State) (a : Nat) : s.advance.asm a = (s.asm a).tick := tget_tmap AsmRecord.tick (blankRecord .vacant) s.atb a

theorem advance_drawer (s : State) (d : Nat) : s.advance.drawer d = (s.drawer d).tick := tget_tmap Drawer.tick State.noDrawer s.drc.drawers d

theorem advance_slot (s : State) (n : Nat) : s.advance.slot n = (s.slot n).tick := tget_tmap Slot.tick .free s.hob.slots n

/-! ### The expiries due -/

section

variable {α : Type} {n : Nat}

theorem mem_due (f : Nat → Bool) (g : Fin n → Instr) (i : Instr) :
    i ∈ ((List.finRange n).filter fun d : Fin n => f d.val).map g ↔ ∃ d : Fin n, f d.val = true ∧ g d = i := by
  simp

end

/-- The expiries due, by their kind. -/
theorem mem_dueExpiries (s : State) (i : Instr) : i ∈ s.dueExpiries ↔
    (s.pulseDue = true ∧ i = .pulseWidthElapsed) ∨ (∃ d : Fin 64, s.waitDue d.val = true ∧ .waitExpiry d = i) ∨
      (∃ d : Fin 64, s.openDue d.val = true ∧ .openTimeExpiry d = i) ∨ (∃ a : Fin 512, s.lockDue a.val = true ∧ .lockExpiry a = i) ∨
      ∃ n : Fin 4, s.discardDue n.val = true ∧ .discardExpiry n = i := by
  unfold State.dueExpiries
  simp only [List.mem_append, mem_due, or_assoc]
  refine or_congr ?_ Iff.rfl
  split
  · next h => simp [h]
  · next h => simp [h]

theorem discardDue_iff (s : State) (n : Nat) :
    s.discardDue n = true ↔ ∃ h b x, s.slot n = .complete h b x ∧ s.params.discardLimit ≤ x := by
  unfold State.discardDue
  split
  · next h b x hslot => simp [hslot]
  · next hno => exact ⟨nofun, fun ⟨h, b, x, hslot, _⟩ => absurd hslot (hno h b x)⟩

/-- Settles O2, by the tables of the timers and the list of the expiries due. -/
theorem emptyQueueIsOneMillisecond : Obligations.EmptyQueueIsOneMillisecond := by
  unfold Obligations.EmptyQueueIsOneMillisecond
  intro s hempty
  have hstep : step s = .next s.tick := by
    unfold step
    rw [hempty]
  refine ⟨fun hno => ?_, fun hactive => ?_⟩
  · rw [hstep, State.tick, if_neg (by rw [hno]; nofun)]
  · have htick : s.tick = { s.advance with pending := s.advance.dueExpiries } := if_pos hactive
    rw [htick] at hstep
    have hmem := mem_dueExpiries s.advance
    refine ⟨_, hstep, rfl, fun a => (advance_asm s a).trans (asmTick_eq _), fun d => (advance_drawer s d).trans (drawerTick_eq _), rfl,
      driverTick_eq _, fun n h b x hslot => ?_, fun n hno => ?_, rfl, ?_, fun d => ?_, fun d => ?_, fun a => ?_, fun n => ?_,
      fun i hi => ?_⟩
    · refine (advance_slot s n).trans ?_
      rw [hslot]
      rfl
    · refine (advance_slot s n).trans ?_
      cases hslot : s.slot n with
      | complete h b x => exact absurd hslot (hno h b x)
      | free => rfl
      | building h => rfl
    · refine (hmem .pulseWidthElapsed).trans ?_
      simp [State.pulseDue]
    · refine (hmem (.waitExpiry d)).trans ?_
      simp [State.waitDue]
      rfl
    · refine (hmem (.openTimeExpiry d)).trans ?_
      simp [State.openDue, and_assoc]
      rfl
    · refine (hmem (.lockExpiry a)).trans ?_
      simp [State.lockDue]
      rfl
    · refine (hmem (.discardExpiry n)).trans ?_
      simp [discardDue_iff]
      rfl
    · rcases (hmem i).mp hi with ⟨-, h⟩ | ⟨d, -, h⟩ | ⟨d, -, h⟩ | ⟨a, -, h⟩ | ⟨n, -, h⟩
      · exact .inl h
      · exact .inr (.inl ⟨d, h.symm⟩)
      · exact .inr (.inr (.inl ⟨d, h.symm⟩))
      · exact .inr (.inr (.inr (.inl ⟨a, h.symm⟩)))
      · exact .inr (.inr (.inr (.inr ⟨n, h.symm⟩)))

end Sys2Proof.Machine
end

section
/-! PROOFS. Reply reads (O6). -/

namespace Sys2Proof.Machine

open Sys2Proof

variable {s t : State} {p : Port} {n : Nat}

/-! ### The reply a read shows (R194) -/

/-- The reply that a read of a port shows. -/
def readReplyOf (b : PortBuf) : Reply :=
  match b with
  | .held x => x
  | .pending tag _ => ⟨.notReady, false, tag, .empty⟩
  | .empty => ⟨.notReady, false, 0, .empty⟩

/-- The buffer holds a reply. -/
def PortBuf.isHeld : PortBuf → Bool
  | .held _ => true
  | _ => false

theorem isHeld_iff (b : PortBuf) : b.isHeld = true ↔ ∃ x, b = .held x := by
  cases b <;> simp [PortBuf.isHeld]

/-- The bytes of a read behind the first: the frame, then FFh (R189). -/
def clockedBytes (f : List Byte) (n : Nat) : List Byte := f.take n ++ List.replicate (n - f.length) 0xFF

theorem take_padded (f : List Byte) (n : Nat) : (f ++ List.replicate (n - f.length) 0xFF#8).take n = clockedBytes f n := by
  rw [List.take_append, List.take_replicate, Nat.min_self]
  rfl

theorem exec_replyRead (hheld : s.phase ≠ .held) (hoff : s.phase ≠ .off) :
    exec (.replyRead p n) s = .next (s.readReply p n) := by
  refine congrArg Host.Outcome.next ?_
  unfold State.transact
  cases h : s.phase with
  | held => exact absurd h hheld
  | off => exact absurd h hoff
  | running => rfl
  | drain => rfl
  | load c => rfl

/-- A reply read drives its bytes, and takes a held reply that it reads to its end (R194). -/
theorem readReply_clocked (s : State) (p : Port) (n : Nat) : s.readReply p (n + 1) = s.setPort p { s.port p with
    dataOut := 0xFF :: clockedBytes (replyFrame (s.draw p) (readReplyOf (s.port p).buf)) n
    buf := if (s.port p).buf.isHeld = true ∧ (replyFrame (s.draw p) (readReplyOf (s.port p).buf)).length ≤ n then .empty
      else (s.port p).buf
    keep := if (s.port p).buf.isHeld = true ∧ (replyFrame (s.draw p) (readReplyOf (s.port p).buf)).length ≤ n then false
      else (s.port p).keep } := by
  unfold State.readReply
  rw [if_neg (Nat.succ_ne_zero n)]
  dsimp only
  rw [Nat.add_sub_cancel, take_padded]
  obtain ⟨f, hf⟩ : ∃ f, f = replyFrame (s.draw p) (readReplyOf (s.port p).buf) := ⟨_, rfl⟩
  have hframe : (s.port p).buf.isHeld = false → s.drive p (0xFF :: clockedBytes f n) = s.setPort p { s.port p with
      dataOut := 0xFF :: clockedBytes f n, buf := if (s.port p).buf.isHeld = true ∧ f.length ≤ n then .empty else (s.port p).buf,
      keep := if (s.port p).buf.isHeld = true ∧ f.length ≤ n then false else (s.port p).keep } := fun hno => by
    rw [hno, if_neg (by simp), if_neg (by simp)]
    rfl
  rw [← hf]
  cases hbuf : (s.port p).buf with
  | held x =>
    have hx : f = replyFrame (s.draw p) x := by rw [hf, hbuf]; rfl
    dsimp only
    rw [← hx]
    by_cases hle : f.length ≤ n
    · rw [if_pos (Nat.lt_succ_of_le hle), if_pos ⟨rfl, hle⟩, if_pos ⟨rfl, hle⟩]
      cases p <;> rfl
    · rw [if_neg fun h => hle (Nat.le_of_lt_succ h), if_neg fun h => hle h.2, if_neg fun h => hle h.2, ← hbuf]
      rfl
  | pending tag i =>
    have hx : f = replyFrame (s.draw p) ⟨.notReady, false, tag, .empty⟩ := by rw [hf, hbuf]; rfl
    rw [hbuf] at hframe
    dsimp only
    rw [← hx]
    exact hframe rfl
  | empty =>
    have hx : f = replyFrame (s.draw p) ⟨.notReady, false, 0, .empty⟩ := by rw [hf, hbuf]; rfl
    rw [hbuf] at hframe
    dsimp only
    rw [← hx]
    exact hframe rfl

/-- With the reset input low every byte of a transaction shows FFh (log 7). -/
theorem transact_held (hheld : s.phase = .held) (t : State) :
    s.transact p (n + 1) t = s.setPort p { s.port p with dataOut := List.replicate (n + 1) 0xFF } := by
  unfold State.transact
  rw [hheld]
  exact if_neg (Nat.succ_ne_zero n)

/-- Settles O6, by the buffer of the port and the number of bytes clocked. -/
theorem replyReadReturnsTheBuffer : Obligations.ReplyReadReturnsTheBuffer := by
  unfold Obligations.ReplyReadReturnsTheBuffer
  refine fun p n s => ⟨fun hheld hoff => ?_, fun hheld l midByte hl => ⟨?_, ?_⟩⟩
  · have hread := readReply_clocked s p n
    obtain ⟨f, hf⟩ : ∃ f, f = replyFrame (s.draw p) (readReplyOf (s.port p).buf) := ⟨_, rfl⟩
    rw [← hf] at hread
    obtain ⟨t, ht⟩ : ∃ t, t = s.readReply p (n + 1) := ⟨_, rfl⟩
    rw [← ht] at hread
    have hport : t.port p = { s.port p with
        dataOut := 0xFF :: clockedBytes f n
        buf := if (s.port p).buf.isHeld = true ∧ f.length ≤ n then .empty else (s.port p).buf
        keep := if (s.port p).buf.isHeld = true ∧ f.length ≤ n then false else (s.port p).keep } := by
      rw [hread, State.setPort_port, if_pos rfl]
    refine ⟨t, by rw [exec_replyRead hheld hoff, ht], ?_, by rw [hport], by rw [hport], by rw [hport], ?_⟩
    · rw [hport]
      exact hread
    · intro r hr
      have hr' : replyFrame (s.draw p) r = f := by rw [hf, hr]; rfl
      rw [hr']
      refine ⟨by rw [hport]; rfl, fun hx hle => ?_, fun hor => ?_, fun hx hlt m => ?_⟩
      · rw [hport]
        exact ⟨if_pos ⟨(isHeld_iff _).mpr hx, hle⟩, if_pos ⟨(isHeld_iff _).mpr hx, hle⟩⟩
      · have hno : ¬((s.port p).buf.isHeld = true ∧ f.length ≤ n) := fun ⟨hheld, hle⟩ => by
          obtain ⟨x, hx⟩ := (isHeld_iff _).mp hheld
          exact hor.elim (fun h => by omega) fun h => h x hx
        rw [hport]
        exact ⟨if_neg hno, if_neg hno⟩
      · have hbuf : (t.port p).buf = (s.port p).buf := by
          rw [hport]
          exact if_neg fun h => by omega
        have hdraw : t.draw p = s.draw p := by
          unfold State.draw
          rw [hport]
        have hphase : t.phase = s.phase := by
          rw [hread]
          cases p <;> rfl
        refine ⟨_, exec_replyRead (by rw [hphase]; exact hheld) (by rw [hphase]; exact hoff), ?_⟩
        rw [readReply_clocked, State.setPort_port, if_pos rfl, hbuf, hdraw, ← hf]
        rfl
  · exact congrArg Host.Outcome.next (transact_held hheld _)
  · have hexec : exec (.requestFrameEnd p l midByte) s = .next (s.transact p l.length (s.endFrame p l midByte)) := rfl
    rw [hexec, hl, transact_held hheld]

end Sys2Proof.Machine
end

section
/-! PROOFS. The layout of reply frames (O7). -/

namespace Sys2Proof.Machine

open Sys2Proof

variable {α : Type} {w v n : Nat} {l : List α} {f : α → List Byte}

/-! ### Bytes of numbers and blocks -/

theorem orderedBytes_length (o : ByteOrder) (w v : Nat) : (orderedBytes o w v).length = w := by
  cases o <;> simp [orderedBytes, Laws.leBytes_length]

theorem entryBytes_length (o : ByteOrder) (e : Entry) : (e.bytes o).length = 18 := by
  simp [Entry.bytes, orderedBytes_length]

theorem entryBytes_eq (o : ByteOrder) (e : Entry) : e.bytes o =
    [BitVec.ofNat 8 e.status.code, BitVec.ofNat 8 ((if e.asm.isSome then 1 else 0) + (if e.length.isSome then 2 else 0) +
      (if e.radius.isSome then 4 else 0) + (if e.life.isSome then 8 else 0) + if e.sister.isSome then 16 else 0),
      if e.clamped then 1 else 0] ++ orderedBytes o 2 (e.asm.getD 0) ++ orderedBytes o 4 (twos 4 (e.length.getD 0)) ++
      orderedBytes o 4 (twos 4 (e.radius.getD 0)) ++ orderedBytes o 4 (e.life.getD 0) ++
      [BitVec.ofNat 8 (e.sister.getD 0)] := by
  unfold Entry.bytes
  cases e.clamped <;> rfl

/-- Pieces of one size joined: their number times the size. -/
theorem length_flatten_map (hf : ∀ x, (f x).length = n) (l : List α) : (l.map f).flatten.length = n * l.length := by
  induction l with
  | nil => rfl
  | cons x l ih =>
    rw [List.map_cons, List.flatten_cons, List.length_append, hf, ih, List.length_cons]
    ring

/-- Pieces of one size joined: the piece at a place. -/
theorem take_drop_flatten_map (hf : ∀ x, (f x).length = n) {k : Nat} {x : α} (h : l[k]? = some x) :
    ((l.map f).flatten.drop (n * k)).take n = f x := by
  induction l generalizing k with
  | nil => simp at h
  | cons y l ih =>
    rw [List.map_cons, List.flatten_cons]
    cases k with
    | zero =>
      obtain rfl : y = x := by simpa using h
      rw [Nat.mul_zero, List.drop_zero, List.take_left' (hf y)]
    | succ k =>
      rw [Nat.mul_succ, Nat.add_comm, ← List.drop_drop, List.drop_left' (hf y)]
      exact ih (by simpa using h)

theorem resolveWire_bytes (draw k : Nat) (l : List Byte) : resolveWire draw k (l.map .byte) = l := by
  induction l generalizing k with
  | nil => rfl
  | cons b l ih => simp [resolveWire, ih]

/-- The frame of a reply, its length field written out. -/
theorem replyFrame_eq (draw : Nat) (r : Reply) {body : List Byte} (hbody : body = resolveWire draw 0 r.body.wire) :
    replyFrame draw r = [BitVec.ofNat 8 (r.status.code + if r.clamped then 128 else 0), r.tag,
      BitVec.ofNat 8 (body.length % 256), BitVec.ofNat 8 (body.length / 256)] ++ body ++
      [crc8 ((replyFrame draw r).take (body.length + 4))] ∧ crc8 (replyFrame draw r) = 0 := by
  obtain ⟨g, hg⟩ : ∃ g, g = [statusByte r.status r.clamped, r.tag] ++ leBytes 2 body.length ++ body := ⟨_, rfl⟩
  have hframe : replyFrame draw r = g ++ [crc8 g] := by
    rw [hg, hbody]
    rfl
  have hlen : g.length = body.length + 4 := by
    rw [hg]
    simp [Laws.leBytes_length]
    omega
  have hhead : g = [BitVec.ofNat 8 (r.status.code + if r.clamped then 128 else 0), r.tag,
      BitVec.ofNat 8 (body.length % 256), BitVec.ofNat 8 (body.length / 256)] ++ body := by
    have hmod : BitVec.ofNat 8 (body.length % 256) = BitVec.ofNat 8 body.length := by
      apply BitVec.eq_of_toNat_eq
      simp
    rw [hg, hmod]
    rfl
  rw [hframe, ← hlen, List.take_left]
  exact ⟨by rw [← hhead], crc8_append_crc8 g⟩

/-- Settles O7, by the layout of the body. -/
theorem replyFrameIsWellMade : Obligations.ReplyFrameIsWellMade := by
  unfold Obligations.ReplyFrameIsWellMade
  intro draw r body hbody _
  obtain ⟨hframe, hcrc⟩ := replyFrame_eq draw r hbody
  refine ⟨hframe, hcrc, fun ov n hn => ?_, fun n b hb => ?_⟩
  · rw [hbody, hn]
    cases ov <;> rfl
  · have hbytes : body = b.bytes n := by
      rw [hbody, hb]
      exact resolveWire_bytes draw 0 (b.bytes n)
    have hentries : ∀ k, body.drop (6 + k) = ((b.entries.map (Entry.bytes b.order)).flatten).drop k := fun k => by
      rw [hbytes, ← List.drop_drop]
      rfl
    refine ⟨?_, ?_, fun k e le he hle => ?_⟩
    · have hlen := length_flatten_map (entryBytes_length b.order) b.entries
      rw [hbytes, ← hlen]
      exact Nat.add_comm _ 6
    · rw [hbytes]
      rfl
    · have hle' : le = orderedBytes b.order := by
        funext w v
        rw [hle]
        rfl
      rw [hentries, take_drop_flatten_map (entryBytes_length b.order) he, hle', entryBytes_eq]

end Sys2Proof.Machine
end

section
/-! PROOFS. Request frames and the requests they carry (O4). -/

namespace Sys2Proof.Machine

open Sys2Proof

variable {i : Instr} {p : Port} {tag : Byte} {code k n w v : Nat} {body l m : List Byte} {r : KindRow}

/-! ### Reading what was written (R190) -/

theorem readLe_leBytes (h : fitsUnsigned w v = true) : readLe (leBytes w v) = v := by
  have hlt : v < 256 ^ w := of_decide_eq_true h
  clear h
  induction w generalizing v with
  | zero =>
    rw [pow_zero] at hlt
    show 0 = v
    omega
  | succ w ih =>
    have hdiv : v / 256 < 256 ^ w := by
      rw [pow_succ] at hlt
      exact Nat.div_lt_of_lt_mul (by omega)
    have hlow : (lowByte v).toNat = v % 256 := by simp [lowByte]
    simp only [leBytes, readLe, ih hdiv, hlow]
    omega

theorem readSigned_signedBytes {x : Int} (h : fitsSigned w x = true) : readSigned (signedBytes w x) = x := by
  have hboth : -((256 ^ w : Nat) : Int) ≤ 2 * x ∧ 2 * x < ((256 ^ w : Nat) : Int) := by
    simpa only [fitsSigned, Bool.and_eq_true, decide_eq_true_eq] using h
  have hpos : 0 < 256 ^ w := Nat.pow_pos (by decide)
  obtain ⟨m, hm⟩ : ∃ m, m = 256 ^ w := ⟨_, rfl⟩
  have hmod : 0 ≤ x % (m : Int) ∧ x % (m : Int) < m := ⟨Int.emod_nonneg _ (by omega), Int.emod_lt_of_pos _ (by omega)⟩
  have htwos : ((twos w x : Nat) : Int) = x % (m : Int) := by
    unfold twos
    rw [← hm]
    exact Int.toNat_of_nonneg hmod.1
  have hfits : fitsUnsigned w (twos w x) = true := decide_eq_true (by rw [← hm]; omega)
  unfold readSigned signedBytes
  rw [readLe_leBytes hfits, Laws.leBytes_length, ← hm]
  dsimp only
  rw [← hm] at hboth
  have hcases : x % (m : Int) = x ∨ x % (m : Int) = x + m := by
    rcases Int.lt_or_le x 0 with hneg | hnn
    · right
      rw [← Int.add_emod_right]
      exact Int.emod_eq_of_lt (by omega) (by omega)
    · left
      exact Int.emod_eq_of_lt hnn (by omega)
  split <;> omega

/-- A field behind a part is a field of the rest. -/
theorem field_skip (h : l.length ≤ k) : field (l ++ m) k w = field m (k - l.length) w := by
  unfold field
  rw [List.drop_append, List.drop_of_length_le h, List.nil_append]

theorem field_part (h : l.length = w) : field (l ++ m) 0 w = l := by
  unfold field
  rw [List.drop_zero, List.take_left' h]

theorem field_whole (h : l.length = w) : field l 0 w = l := by
  unfold field
  rw [List.drop_zero, List.take_of_length_le (by omega)]

theorem arg_skip (h : w ≤ k) : arg (leBytes w v ++ m) k n = arg m (k - w) n := by
  unfold arg
  rw [field_skip (by rw [Laws.leBytes_length]; exact h), Laws.leBytes_length]

theorem arg_part (h : fitsUnsigned w v = true) : arg (leBytes w v ++ m) 0 w = v := by
  unfold arg
  rw [field_part (Laws.leBytes_length w v), readLe_leBytes h]

theorem arg_whole (h : fitsUnsigned w v = true) : arg (leBytes w v) 0 w = v := by
  unfold arg
  rw [field_whole (Laws.leBytes_length w v), readLe_leBytes h]

/-- Every command is covered by Table 10.3, or carried by no frame. -/
theorem coverage : ∀ i : Instr, Laws.Coverage.Statement i
  | .measureOpen asm => Laws.Coverage.measureOpen asm
  | .reading z x => Laws.Coverage.reading z x
  | .sessionClose temp => Laws.Coverage.sessionClose temp
  | .sessionAbandon => Laws.Coverage.sessionAbandon
  | .zeroOpen set => Laws.Coverage.zeroOpen set
  | .spanOpen set lm dm => Laws.Coverage.spanOpen set lm dm
  | .selectReference set => Laws.Coverage.selectReference set
  | .certifyReference set => Laws.Coverage.certifyReference set
  | .unlockReference set => Laws.Coverage.unlockReference set
  | .writeCurve values => Laws.Coverage.writeCurve values
  | .readReference set => Laws.Coverage.readReference set
  | .readCurve => Laws.Coverage.readCurve
  | .register asm family nomLength nomRadius mode limit warn =>
    Laws.Coverage.register asm family nomLength nomRadius mode limit warn
  | .retire asm => Laws.Coverage.retire asm
  | .returnFromRegrind asm => Laws.Coverage.returnFromRegrind asm
  | .stock asm drawer => Laws.Coverage.stock asm drawer
  | .withdraw asm => Laws.Coverage.withdraw asm
  | .issue asm cell pocket => Laws.Coverage.issue asm cell pocket
  | .issuePick cell pocket => Laws.Coverage.issuePick cell pocket
  | .returnTool asm drawer condition => Laws.Coverage.returnTool asm drawer condition
  | .cancelDrawer drawer => Laws.Coverage.cancelDrawer drawer
  | .clearJam drawer => Laws.Coverage.clearJam drawer
  | .clearDriver => Laws.Coverage.clearDriver
  | .setLife asm mode limit warn => Laws.Coverage.setLife asm mode limit warn
  | .writeCell cell size unit form order datum factor auto =>
    Laws.Coverage.writeCell cell size unit form order datum factor auto
  | .readDrawer drawer => Laws.Coverage.readDrawer drawer
  | .readPicks => Laws.Coverage.readPicks
  | .restart => Laws.Coverage.restart
  | .lock p asm => Laws.Coverage.lock p asm
  | .unlock p asm => Laws.Coverage.unlock p asm
  | .readRecord p asm => Laws.Coverage.readRecord p asm
  | .handoff cell start size => Laws.Coverage.handoff cell start size
  | .usage cell pocket seconds count => Laws.Coverage.usage cell pocket seconds count
  | .requestTool cell pocket family => Laws.Coverage.requestTool cell pocket family
  | .withdrawRequest cell pocket => Laws.Coverage.withdrawRequest cell pocket
  | .readCell cell => Laws.Coverage.readCell cell
  | .readNotice p => Laws.Coverage.readNotice p
  | .status p => Laws.Coverage.status p
  | .setParameter p number value => Laws.Coverage.setParameter p number value
  | .requestFrameEnd _ _ _ | .replyRead _ _ | .openSeen _ | .closeSeen _ | .presenceLevelChange _ _ | .pulseWidthElapsed
  | .overcurrent | .waitExpiry _ | .openTimeExpiry _ | .lockExpiry _ | .discardExpiry _ | .entryFormation
  | .slotBuildCompletion | .readAheadBuildCompletion | .commitCompletion | .powerOn | .powerLoss _ | .resetInputAsserted _
  | .resetInputReleased | .loadEnd | .mntInputChange _ | .overcurrentSenseReleased => trivial

theorem arg_flag (b : Nat) (h : b < 256) (m : List Byte) : arg (leBytes 1 b ++ m) 0 1 = b :=
  arg_part (decide_eq_true (by omega))

/-- An optional argument in the parts of a body: its presence byte and its bytes. -/
theorem optBytes_parts (w : Nat) (x : Option (List Byte)) :
    optBytes w x = match x with
      | none => leBytes 1 0 ++ leBytes w 0
      | some l => leBytes 1 1 ++ l := by
  have hzero : ∀ w, List.replicate w 0 = leBytes w 0 := fun w => by
    induction w with
    | zero => rfl
    | succ w ih => rw [List.replicate_succ, ih]; rfl
  cases x with
  | none => rw [optBytes, hzero]; rfl
  | some l => rfl

/-- What the body of a WRITE_CURVE reads back as. -/
theorem curveArgs_bytes {vs : List Int} (hlen : vs.length = 9) (hfits : ∀ x ∈ vs, fitsSigned 2 x = true) :
    curveArgs ((vs.map (signedBytes 2)).flatten) = vs := by
  apply List.ext_getElem
  · simp [curveArgs, hlen]
  · intro n h1 h2
    have hget : vs[n]? = some vs[n] := List.getElem?_eq_getElem h2
    have hfield : field ((vs.map (signedBytes 2)).flatten) (2 * n) 2 = signedBytes 2 vs[n] :=
      take_drop_flatten_map (fun _ => Laws.leBytes_length 2 _) hget
    simp only [curveArgs, List.getElem_map, List.getElem_range, hfield]
    exact readSigned_signedBytes (hfits _ (List.getElem_mem h2))

/-- The bytes of a request read back as the request (R190). -/
def Carried (i : Instr) (p : Port) : Prop :=
  ∃ code body r, requestBytes i = some (code, body) ∧ kindRow code = some r ∧ requestOf r.kind p body = i

theorem optArg_skip {α : Type} {y : α} (h : l.length ≤ k) : optArg (l ++ m) k y = optArg m (k - l.length) y := by
  unfold optArg arg
  rw [field_skip h]

/-- An optional argument at the front of a body, where its value reads back. -/
theorem optArg_part {α : Type} {f : α → List Byte} {x : Option α} {y : α} (hy : ∀ z, x = some z → y = z) :
    optArg (optBytes w (x.map f) ++ m) 0 y = x := by
  cases x with
  | none => rfl
  | some z => exact congrArg some (hy z rfl)

/-- Behind the presence byte of an argument that is present stand its own bytes. -/
theorem arg_opt {α : Type} {f : α → List Byte} {z : α} : arg (optBytes w ((some z).map f) ++ m) (k + 1) n = arg (f z ++ m) k n := by
  rfl

/-- A nominal pair reads back from its two words. -/
theorem pair_part {x : Option (Nat × Nat)} {z : Nat × Nat} (hfits : fitsPair x = true) (hx : x = some z) :
    arg (optBytes 8 (x.map pairBytes) ++ m) 1 4 = z.1 ∧ arg (optBytes 8 (x.map pairBytes) ++ m) 5 4 = z.2 := by
  subst hx
  obtain ⟨h1, h2⟩ : fitsUnsigned 4 z.1 = true ∧ fitsUnsigned 4 z.2 = true := by simpa [fitsPair] using hfits
  rw [arg_opt (k := 0), arg_opt (k := 4)]
  simp only [pairBytes, List.append_assoc]
  exact ⟨arg_part h1, (arg_skip (by decide)).trans (arg_part h2)⟩

theorem carried_register {a m l w : Nat} {f : Option Nat} {nl nr : Option (Nat × Nat)}
    (h : (Instr.register a f nl nr m l w).wellFormed = true) : Carried (.register a f nl nr m l w) .C := by
  refine ⟨_, _, _, rfl, rfl, ?_⟩
  simp only [Instr.wellFormed, Bool.and_eq_true] at h
  obtain ⟨⟨⟨⟨⟨⟨ha, hf⟩, hnl⟩, hnr⟩, hm⟩, hl⟩, hw⟩ := h
  have hfam : (optBytes 1 (f.map (leBytes 1))).length = 2 :=
    Laws.optBytes_length 1 _ (by cases f <;> simp [Laws.leBytes_length])
  have hpair : ∀ x : Option (Nat × Nat), (optBytes 8 (x.map pairBytes)).length = 9 := fun x =>
    Laws.optBytes_length 8 _ (by cases x <;> simp [pairBytes, Laws.leBytes_length])
  have skipFam : ∀ {k n : Nat} {t : List Byte}, 2 ≤ k → arg (optBytes 1 (f.map (leBytes 1)) ++ t) k n = arg t (k - 2) n :=
    fun hk => by unfold arg; rw [field_skip (by omega), hfam]
  have skipPair : ∀ {x : Option (Nat × Nat)} {k n : Nat} {t : List Byte}, 9 ≤ k →
      arg (optBytes 8 (x.map pairBytes) ++ t) k n = arg t (k - 9) n := fun {x} _ _ _ hk => by
    unfold arg
    rw [field_skip (by rw [hpair]; exact hk), hpair]
  have hnl : ∀ {t : List Byte}, optArg (optBytes 8 (nl.map pairBytes) ++ t) 0
      (arg (optBytes 8 (nl.map pairBytes) ++ t) 1 4, arg (optBytes 8 (nl.map pairBytes) ++ t) 5 4) = nl := fun {t} =>
    optArg_part fun z hz => Prod.ext (pair_part hnl hz).1 (pair_part hnl hz).2
  have hnr : ∀ {t : List Byte}, optArg (optBytes 8 (nr.map pairBytes) ++ t) 0
      (arg (optBytes 8 (nr.map pairBytes) ++ t) 1 4, arg (optBytes 8 (nr.map pairBytes) ++ t) 5 4) = nr := fun {t} =>
    optArg_part fun z hz => Prod.ext (pair_part hnr hz).1 (pair_part hnr hz).2
  have hf : ∀ {t : List Byte}, optArg (optBytes 1 (f.map (leBytes 1)) ++ t) 0
      (arg (optBytes 1 (f.map (leBytes 1)) ++ t) 1 1) = f := fun {t} => optArg_part fun z hz => by
    subst hz
    exact arg_part hf
  simp [requestOf, arg_skip, arg_part, arg_whole, optArg_skip, Laws.leBytes_length, hfam, hpair, skipFam, skipPair, ha, hf,
    hnl, hnr, hm, hl, hw]

theorem carried_writeCell {c n u f o lf au : Nat} {dt : Int} (h : (Instr.writeCell c n u f o dt lf au).wellFormed = true) :
    Carried (.writeCell c n u f o dt lf au) .C := by
  refine ⟨_, _, _, rfl, rfl, ?_⟩
  simp only [Instr.wellFormed, Bool.and_eq_true] at h
  obtain ⟨⟨⟨⟨⟨⟨⟨hc, hn⟩, hu⟩, hf⟩, ho⟩, hdt⟩, hlf⟩, hau⟩ := h
  have hlen : (signedBytes 4 dt).length = 4 := Laws.leBytes_length 4 _
  have skipByte : ∀ {k n v : Nat} {t : List Byte}, 1 ≤ k → field (leBytes 1 v ++ t) k n = field t (k - 1) n := fun hk => by
    rw [field_skip (by rw [Laws.leBytes_length]; exact hk), Laws.leBytes_length]
  have skipDatum : ∀ {k n : Nat} {t : List Byte}, 4 ≤ k → arg (signedBytes 4 dt ++ t) k n = arg t (k - 4) n := fun hk =>
    arg_skip hk
  simp [requestOf, arg_skip, arg_part, arg_whole, skipByte, skipDatum, field_part hlen, readSigned_signedBytes hdt, hc, hn,
    hu, hf, ho, hlf, hau]

/-- Every well-formed request reads back from its bytes. -/
theorem carried (hport : requestPort i = some p) (hwf : i.wellFormed = true) : Carried i p := by
  cases i
  case register => exact Option.some.inj hport ▸ carried_register hwf
  case writeCell => exact Option.some.inj hport ▸ carried_writeCell hwf
  case writeCurve vs =>
    obtain ⟨hlen, hfits⟩ : vs.length = 9 ∧ ∀ x ∈ vs, fitsSigned 2 x = true := by
      simpa [Instr.wellFormed] using hwf
    exact ⟨_, _, _, rfl, rfl, by simp only [requestOf, curveArgs_bytes hlen hfits]⟩
  case sessionClose x =>
    have hread : field (signedBytes 2 x) 0 2 = signedBytes 2 x := field_whole (Laws.leBytes_length 2 _)
    exact ⟨_, _, _, rfl, rfl, by simp only [requestOf, hread, readSigned_signedBytes hwf]⟩
  all_goals
    cases hport
  all_goals
    simp only [Instr.wellFormed, Bool.and_eq_true] at hwf
    exact ⟨_, _, _, rfl, rfl, by simp [requestOf, arg_skip, arg_part, arg_whole, hwf]⟩

end Sys2Proof.Machine
end

section
/-! PROOFS. The frame of a request, read on a port (O4). -/

namespace Sys2Proof.Machine

open Sys2Proof

variable {i : Instr} {p : Port} {tag : Byte} {code : Nat} {body : List Byte} {r : KindRow}

/-- The codes of Table 10.3 are bytes other than 00h, and its bodies are no longer than the limit of R192. -/
theorem kindRow_bounds (h : kindRow code = some r) : code ≠ 0 ∧ code < 256 ∧ r.length ≤ 1024 := by
  have hall : ∀ x ∈ kindTable, x.code ≠ 0 ∧ x.code < 256 ∧ x.length ≤ 1024 := by decide
  obtain rfl : r.code = code := by simpa using List.find?_some h
  exact hall r (List.mem_of_find?_eq_some h)

theorem frameOf_eq (h : requestBytes i = some (code, body)) :
    frameOf tag i = lowByte code :: tag :: (leBytes 2 body.length ++ (body ++ [crc8 ([lowByte code, tag] ++
      leBytes 2 body.length ++ body)])) := by
  rw [frameOf, h]
  simp

theorem frameOf_length (h : requestBytes i = some (code, body)) : (frameOf tag i).length = 5 + body.length := by
  rw [frameOf_eq h]
  simp only [List.length_cons, List.length_append, Laws.leBytes_length, List.length_nil]
  omega

theorem frameLength_frameOf (h : requestBytes i = some (code, body)) (hlen : body.length ≤ 1024) :
    frameLength (frameOf tag i) = body.length := by
  rw [frameOf_eq h]
  exact arg_part (decide_eq_true (by omega))

theorem frameBody_frameOf (h : requestBytes i = some (code, body)) : frameBody (frameOf tag i) = body := by
  rw [frameBody, frameOf_length h, frameOf_eq h]
  have hfour : field (body ++ [crc8 ([lowByte code, tag] ++ leBytes 2 body.length ++ body)]) 0 body.length = body :=
    field_part rfl
  rw [Nat.add_sub_cancel_left]
  exact hfour

/-- A frame made by `frameOf` with a body of the length its row gives is sound (R190 to R192). -/
theorem frameFaulty_frameOf (h : requestBytes i = some (code, body)) (hrow : kindRow code = some r)
    (hlen : body.length = r.length) : frameFaulty (frameOf tag i) false = false := by
  obtain ⟨-, hcode, hmax⟩ := kindRow_bounds hrow
  have hcrc : crc8 (frameOf tag i) = 0 := by
    rw [frameOf, h]
    exact crc8_append_crc8 _
  have hfield := frameLength_frameOf (tag := tag) h (hlen ▸ hmax)
  have harg : arg (frameOf tag i) 0 1 = code := by
    rw [frameOf_eq h]
    exact arg_kindCode _ hcode
  simp only [frameFaulty, hfield, frameOf_length h, hcrc, harg, hrow, hlen]
  simp
  omega

/-- What a frame made by `frameOf` is on a port: its request where the row of its code lists the port (R193). -/
theorem parseFrame_frameOf (h : requestBytes i = some (code, body)) (hrow : kindRow code = some r)
    (hlen : body.length = r.length) :
    parseFrame p (frameOf tag i) false =
      if p ∈ r.ports then .request tag (requestOf r.kind p body) else .notPermitted tag := by
  have harg : arg (frameOf tag i) 0 1 = code := by
    rw [frameOf_eq h]
    exact arg_kindCode _ (kindRow_bounds hrow).2.1
  have htag : (frameOf tag i).getD 1 0 = tag := by
    rw [frameOf_eq h]
    rfl
  simp only [parseFrame, frameFaulty_frameOf h hrow hlen, harg, hrow, htag, frameBody_frameOf h, Bool.false_eq_true,
    if_false]

/-- The row of a permitted request: its frame stands on the port, its body has the row's length and reads back. -/
theorem carried_row (hport : requestPort i = some p) (hperm : requestPermitted i = true) (hwf : i.wellFormed = true) :
    ∃ code body r, requestBytes i = some (code, body) ∧ kindRow code = some r ∧ p ∈ r.ports ∧
      body.length = r.length ∧ requestOf r.kind p body = i := by
  obtain ⟨code, body, r, hbytes, hrow, hreq⟩ := carried hport hwf
  have hcov := coverage i
  simp only [Laws.Coverage.Statement, hport, hbytes] at hcov
  obtain ⟨r', hrow', hmem, hlen⟩ := hcov
  cases hrow.symm.trans hrow'
  exact ⟨code, body, r, hbytes, hrow, hmem.mpr hperm, hlen hwf, hreq⟩

/-- Settles O4, by the bytes of each request read back and the frame check of R192 on the frame they make. -/
theorem frameCarriesItsRequest : Obligations.FrameCarriesItsRequest := by
  intro i p tag hport hperm hwf
  obtain ⟨code, body, r, hbytes, hrow, hmem, hlen, hreq⟩ := carried_row hport hperm hwf
  rw [parseFrame_frameOf hbytes hrow hlen, if_pos hmem, hreq]

end Sys2Proof.Machine
end

section
/-! PROOFS. Frames handed over, answered or discarded (O5). -/

namespace Sys2Proof.Machine

open Sys2Proof

variable {s : State} {p : Port} {b tag g : Byte} {l : List Byte} {i : Instr} {f : Frame} {midByte : Bool}

/-- The tag of a frame. -/
def frameTag : Frame → Byte
  | .faulty tag | .unknown tag | .notPermitted tag | .request tag _ => tag

/-- What the buffer of a port becomes of a frame in normal operation (R192, R193). -/
def bufOfFrame : Frame → PortBuf
  | .faulty tag => .held ⟨.frameError, false, tag, .empty⟩
  | .unknown tag => .held ⟨.unknownKind, false, tag, .empty⟩
  | .notPermitted tag => .held ⟨.notPermitted, false, tag, .empty⟩
  | .request tag i => .pending tag i

/-- What the buffer of a port becomes of a sound frame in a drain or a load (R193, R182). -/
def bufLoading (drain : Bool) (f : Frame) : PortBuf := .held ⟨.loading, false, frameTag f, .phase drain⟩

/-- A frame that arrives at a port that keeps no reply moves the buffer and the reply count of its port alone. -/
def FrameMoves (s : State) (p : Port) (f : Frame) (x : PortBuf) : Prop :=
  ∃ n, s.frameArrives p f = s.setPort p { s.port p with buf := x, draws := n }

theorem answer_moves {a : Answer} (hkeep : (s.port p).keep = false) (ha : a.keep = false) :
    ∃ n, s.answer p tag a = s.setPort p { s.port p with buf := .held ⟨a.status, a.clamped, tag, a.body⟩, draws := n } := by
  refine ⟨(s.port p).draws + 1, ?_⟩
  unfold State.answer State.hold
  rw [if_neg (by simp [hkeep])]
  exact congrArg (s.setPort p) (by simp [hkeep, ha])

theorem frameArrives_faulty (hkeep : (s.port p).keep = false) :
    FrameMoves s p (.faulty tag) (bufOfFrame (.faulty tag)) := answer_moves hkeep rfl

theorem frameArrives_running (hrun : s.phase = .running) (hkeep : (s.port p).keep = false) :
    FrameMoves s p f (bufOfFrame f) := by
  unfold FrameMoves State.frameArrives
  rw [hrun]
  cases f with
  | faulty tag => exact answer_moves hkeep rfl
  | unknown tag => exact answer_moves hkeep rfl
  | notPermitted tag => exact answer_moves hkeep rfl
  | request tag i => exact ⟨(s.port p).draws, rfl⟩

theorem frameArrives_drain (hdrain : s.phase = .drain) (hkeep : (s.port p).keep = false) (hsound : ∀ g, f ≠ .faulty g) :
    FrameMoves s p f (bufLoading true f) := by
  unfold FrameMoves State.frameArrives
  rw [hdrain]
  cases f with
  | faulty tag => exact absurd rfl (hsound tag)
  | unknown tag => exact answer_moves hkeep rfl
  | notPermitted tag => exact answer_moves hkeep rfl
  | request tag i => exact answer_moves hkeep rfl

theorem frameArrives_load {c : Cause} (hload : s.phase = .load c) (hkeep : (s.port p).keep = false)
    (hsound : ∀ g, f ≠ .faulty g) : FrameMoves s p f (bufLoading false f) := by
  unfold FrameMoves State.frameArrives
  rw [hload]
  cases f with
  | faulty tag => exact absurd rfl (hsound tag)
  | unknown tag => exact answer_moves hkeep rfl
  | notPermitted tag => exact answer_moves hkeep rfl
  | request tag i => exact answer_moves hkeep rfl

/-- The state with FFh driven for each byte of a frame (R189). -/
def frameDriven (s : State) (p : Port) (l : List Byte) : State := s.drive p (l.map fun _ => 0xFF)

theorem frameDriven_port (s : State) (p : Port) (l : List Byte) :
    (frameDriven s p l).port p = { s.port p with dataOut := List.replicate l.length 0xFF } := by
  simp [frameDriven, State.drive, State.setPort_port, List.map_const']

/-- The end of a frame that is no reply read, where the part takes part in transactions. -/
theorem exec_frameEnd (hb : b ≠ 0) (hheld : s.phase ≠ .held) (hoff : s.phase ≠ .off) :
    exec (.requestFrameEnd p (b :: l) midByte) s = .next (match ((frameDriven s p (b :: l)).port p).buf with
      | .pending _ _ => frameDriven s p (b :: l)
      | _ => (frameDriven s p (b :: l)).frameArrives p (parseFrame p (b :: l) midByte)) := by
  refine congrArg Host.Outcome.next ?_
  have hend : s.endFrame p (b :: l) midByte = (match ((frameDriven s p (b :: l)).port p).buf with
      | .pending _ _ => frameDriven s p (b :: l)
      | _ => (frameDriven s p (b :: l)).frameArrives p (parseFrame p (b :: l) midByte)) := if_neg hb
  rw [← hend]
  unfold State.transact
  cases h : s.phase with
  | held => exact absurd h hheld
  | off => exact absurd h hoff
  | running => rfl
  | drain => rfl
  | load c => rfl

/-- A frame behind a waiting request is discarded (R192). -/
theorem exec_frame_discarded (hb : b ≠ 0) (hheld : s.phase ≠ .held) (hoff : s.phase ≠ .off)
    (hwait : (s.port p).buf = .pending g i) :
    exec (.requestFrameEnd p (b :: l) midByte) s = .next (frameDriven s p (b :: l)) := by
  have hbuf : ((frameDriven s p (b :: l)).port p).buf = .pending g i := by rw [frameDriven_port]; exact hwait
  rw [exec_frameEnd hb hheld hoff, hbuf]

/-- A frame at a port where no request waits arrives (R192, R193). -/
theorem exec_frame_arrives (hb : b ≠ 0) (hheld : s.phase ≠ .held) (hoff : s.phase ≠ .off)
    (hfree : ∀ g j, (s.port p).buf ≠ .pending g j) :
    exec (.requestFrameEnd p (b :: l) midByte) s =
      .next ((frameDriven s p (b :: l)).frameArrives p (parseFrame p (b :: l) midByte)) := by
  have hbuf : ((frameDriven s p (b :: l)).port p).buf = (s.port p).buf := by rw [frameDriven_port]
  rw [exec_frameEnd hb hheld hoff, hbuf]
  cases h : (s.port p).buf with
  | pending g j => exact absurd h (hfree g j)
  | held r => rfl
  | empty => rfl

/-! ### The frame check on a frame of two or more bytes -/

theorem parseFrame_faulty (h : frameFaulty (b :: tag :: l) midByte = true) :
    parseFrame p (b :: tag :: l) midByte = .faulty tag := by
  unfold parseFrame
  rw [if_pos h]
  rfl

theorem arg_firstByte : arg (b :: l) 0 1 = b.toNat := by simp [arg, field, readLe]

theorem parseFrame_unknown (h : frameFaulty (b :: tag :: l) midByte = false) (hrow : kindRow b.toNat = none) :
    parseFrame p (b :: tag :: l) midByte = .unknown tag := by
  simp [parseFrame, h, arg_firstByte, hrow]

theorem parseFrame_notPermitted {r : KindRow} (h : frameFaulty (b :: tag :: l) midByte = false)
    (hrow : kindRow b.toNat = some r) (hport : p ∉ r.ports) :
    parseFrame p (b :: tag :: l) midByte = .notPermitted tag := by
  simp [parseFrame, h, arg_firstByte, hrow, hport]

/-- A sound frame is no faulty one, and carries its second byte as its tag. -/
theorem parseFrame_sound (h : frameFaulty (b :: tag :: l) midByte = false) :
    (∀ g, parseFrame p (b :: tag :: l) midByte ≠ .faulty g) ∧ frameTag (parseFrame p (b :: tag :: l) midByte) = tag := by
  unfold parseFrame
  rw [h, if_neg Bool.false_ne_true]
  split
  · exact ⟨by simp, rfl⟩
  · split
    · exact ⟨by simp, rfl⟩
    · exact ⟨by simp, rfl⟩

/-! ### The statement -/

/-- What a frame at a port leaves: FFh driven, and the buffer and the reply count moved. -/
theorem driven_moved {x : PortBuf} (h : FrameMoves (frameDriven s p l) p f x) :
    ∃ n, (frameDriven s p l).frameArrives p f =
      s.setPort p { s.port p with buf := x, dataOut := List.replicate l.length 0xFF, draws := n } := by
  obtain ⟨n, hn⟩ := h
  refine ⟨n, hn.trans ?_⟩
  rw [frameDriven_port]
  cases p <;> rfl

/-- A frame at a port where no request waits, in a phase that takes transactions, moves the buffer by its phase. -/
theorem frameArrives_moves (hkeep : (s.port p).keep = false) (hheld : s.phase ≠ .held) (hoff : s.phase ≠ .off) :
    ∃ x, FrameMoves s p (parseFrame p (b :: tag :: l) midByte) x ∧
      (frameFaulty (b :: tag :: l) midByte = true → x = .held ⟨.frameError, false, tag, .empty⟩) ∧
      (frameFaulty (b :: tag :: l) midByte = false →
        (s.phase = .drain → x = .held ⟨.loading, false, tag, .phase true⟩) ∧
        (∀ c, s.phase = .load c → x = .held ⟨.loading, false, tag, .phase false⟩) ∧
        (s.phase = .running →
          (kindRow b.toNat = none → x = .held ⟨.unknownKind, false, tag, .empty⟩) ∧
          (∀ r, kindRow b.toNat = some r → p ∉ r.ports → x = .held ⟨.notPermitted, false, tag, .empty⟩))) := by
  cases hfaulty : frameFaulty (b :: tag :: l) midByte with
  | true =>
    rw [parseFrame_faulty hfaulty]
    exact ⟨_, frameArrives_faulty hkeep, fun _ => rfl, fun h => by cases h⟩
  | false =>
    obtain ⟨hsound, htag⟩ := parseFrame_sound (p := p) hfaulty
    cases hph : s.phase with
    | held => exact absurd hph hheld
    | off => exact absurd hph hoff
    | drain =>
      refine ⟨_, frameArrives_drain hph hkeep hsound, by simp, fun _ => ⟨fun _ => ?_, by simp, by simp⟩⟩
      rw [bufLoading, htag]
    | load c =>
      refine ⟨_, frameArrives_load hph hkeep hsound, by simp, fun _ => ⟨by simp, fun _ _ => ?_, by simp⟩⟩
      rw [bufLoading, htag]
    | running =>
      refine ⟨_, frameArrives_running hph hkeep, by simp, fun _ => ⟨by simp, by simp, fun _ => ⟨fun hrow => ?_,
        fun r hrow hport => ?_⟩⟩⟩
      · rw [parseFrame_unknown hfaulty hrow, bufOfFrame]
      · rw [parseFrame_notPermitted hfaulty hrow hport, bufOfFrame]

/-- Settles O5, by whether a request waits at the port, then by the frame check and the phase; the frame of a permitted
request is that request by `parseFrame_frameOf`. -/
theorem framesAreHandedOverOrAnswered : Obligations.FramesAreHandedOverOrAnswered := by
  refine ⟨fun i p tag s hport hperm hwf hrun hfree => ?request, fun p b tag l midByte s hb hkeep hheld hoff => ?other⟩
  case request =>
    obtain ⟨code, body, r, hbytes, hrow, -, -, -⟩ := carried_row hport hperm hwf
    obtain ⟨hcode, hmax, -⟩ := kindRow_bounds hrow
    obtain ⟨rest, hframe⟩ : ∃ rest, frameOf tag i = lowByte code :: rest := ⟨_, frameOf_eq hbytes⟩
    have hb : lowByte code ≠ 0 := fun h => hcode (by
      have := congrArg BitVec.toNat h
      simpa [lowByte, Nat.mod_eq_of_lt hmax] using this)
    have hparse : parseFrame p (lowByte code :: rest) false = .request tag i :=
      hframe ▸ frameCarriesItsRequest i p tag hport hperm hwf
    have hph : (frameDriven s p (lowByte code :: rest)).phase = .running := hrun
    rw [hframe, exec_frame_arrives hb (by simp [hrun]) (by simp [hrun]) hfree, hparse]
    refine congrArg Host.Outcome.next ?_
    unfold State.frameArrives
    rw [hph]
    dsimp only
    rw [frameDriven_port]
    cases p <;> rfl
  case other =>
    by_cases hwait : ∃ g j, (s.port p).buf = .pending g j
    · obtain ⟨g, j, hbuf⟩ := hwait
      refine ⟨_, exec_frame_discarded hb hheld hoff hbuf, ?_, ?_, ?_, fun hfree => absurd hbuf (hfree g j)⟩
      · rw [frameDriven_port]
        rfl
      · rw [frameDriven_port]
        simp [frameDriven, State.drive, List.map_const', List.replicate_succ]
      · intro _ _ _
        rw [frameDriven_port]
    · have hfree : ∀ g j, (s.port p).buf ≠ .pending g j := fun g j h => hwait ⟨g, j, h⟩
      have hdkeep : ((frameDriven s p (b :: tag :: l)).port p).keep = false := by rw [frameDriven_port]; exact hkeep
      have hphase : (frameDriven s p (b :: tag :: l)).phase = s.phase := rfl
      obtain ⟨x, hmoves, hcases⟩ := frameArrives_moves (b := b) (tag := tag) (l := l) (midByte := midByte)
        hdkeep (hphase ▸ hheld) (hphase ▸ hoff)
      rw [hphase] at hcases
      obtain ⟨n, ht⟩ := driven_moved hmoves
      refine ⟨_, (exec_frame_arrives hb hheld hoff hfree).trans (congrArg Host.Outcome.next ht), ?_⟩
      rw [State.setPort_port, if_pos rfl]
      exact ⟨rfl, rfl, fun g j h => absurd h (hfree g j), fun _ => hcases⟩

end Sys2Proof.Machine
end

section
/-! PROOFS. The flush of a driver fault (O34). -/

namespace Sys2Proof.Machine

open Sys2Proof

variable {s t u v w : State} {a c d e p : Nat} {k m : Bool} {r : Option Bool} {l : List Nat} {o : Operation} {i : Instr}

/-! ### What the rollbacks of a list of drawers leave (R111, R112) -/

/-- Drawer `e` holds an ISSUE of assembly `a` into pocket `p` of cell `c`. -/
def Issues (s : State) (e a c p : Nat) : Prop := ∃ k m r, s.op e = some ⟨.issue c p k m, a, r⟩

/-- The signal of the rollback of a drawer's operation (R95). -/
def flushSignal (s : State) (e : Nat) : Option Signal :=
  match s.op e with
  | some ⟨.issue c p _ _, _, _⟩ => some (.pocket c p)
  | _ => none

/-- The rollback of a drawer's operation takes the pick entry back to WAITING. -/
def flushUnlinks (s : State) (x : Pick) (e : Nat) : Bool :=
  match s.op e with
  | some ⟨.issue c p true _, _, _⟩ => decide (x.cell = c ∧ x.pocket = p)
  | _ => false

/-- A pick entry behind the rollbacks. -/
def flushPick (s : State) (l : List Nat) (x : Pick) : Pick := if l.any (flushUnlinks s x) then { x with state := .waiting } else x

/-- An assembly record behind the rollback of its ISSUE. -/
def AsmRecord.unissued (x : AsmRecord) : AsmRecord :=
  { x with state := .ready, prior := none, rejected := none, binding := none }

/-- The rollback of the operations of the drawers `l`, each in its turn. -/
def Flushed (s t : State) (l : List Nat) : Prop :=
  (∀ x, t.op x = if x ∈ l then none else s.op x) ∧
    (∀ e ∈ l, ∀ a c p, Issues s e a c p → t.pocket c p = .empty ∧ t.asm a = (s.asm a).unissued) ∧
    (∀ a, (∀ e ∈ l, ∀ c p, ¬ Issues s e a c p) → t.asm a = s.asm a) ∧
    (∀ c p, (∀ e ∈ l, ∀ a, ¬ Issues s e a c p) → t.pocket c p = s.pocket c p) ∧
    (∀ c, t.profile c = s.profile c) ∧ t.picks = s.picks.map (flushPick s l) ∧
    t.hob = ((l.filterMap (flushSignal s)).foldl State.disturb s).hob ∧
    t.ports = s.ports.placeAll (l.flatMap (flushNotices s)) ∧
    t = { s with atb := t.atb, coc := t.coc, ctb := t.ctb, hob := t.hob, ports := t.ports }

/-- The operations that a flush finds: no assembly in two of them, each ISSUE in range, its assembly ISSUING in the
drawer. -/
def Flushable (s : State) (l : List Nat) : Prop :=
  (∀ d e o u, s.op d = some o → s.op e = some u → o.asm = u.asm → d = e) ∧
    ∀ e ∈ l, e < 64 ∧ ∀ a c p, Issues s e a c p →
      a < 512 ∧ c < 16 ∧ p < 128 ∧ (s.asm a).state = .issuing ∧ (s.asm a).stock = some e

theorem flushSignal_issue (h : s.op e = some ⟨.issue c p k m, a, r⟩) : flushSignal s e = some (.pocket c p) := by
  simp only [flushSignal, h]

theorem flushSignal_none (h : ∀ a c p, ¬ Issues s e a c p) : flushSignal s e = none := by
  unfold flushSignal
  split
  · next c p k m a r h' => exact absurd ⟨k, m, r, h'⟩ (h a c p)
  · rfl

theorem flushUnlinks_none {x : Pick} (h : ∀ a c p, ¬ Issues s e a c p) : flushUnlinks s x e = false := by
  unfold flushUnlinks
  split
  · next c p m a r h' => exact absurd ⟨true, m, r, h'⟩ (h a c p)
  · rfl

theorem flushPick_none (h : ∀ a c p, ¬ Issues s e a c p) : s.picks.map (flushPick s [e]) = s.picks := by
  have hid : ∀ x, flushPick s [e] x = x := fun x => by simp [flushPick, flushUnlinks_none h]
  rw [List.map_congr_left fun x _ => hid x, List.map_id']

/-- A drawer that holds no ISSUE: its rollback touches its operation and port C alone. -/
theorem flushed_of_noIssue (hd : e < 64) (h : ∀ a c p, ¬ Issues s e a c p) : Flushed s (s.rollback e .driverFault) [e] := by
  have hunissued : ∀ v : State, (∀ x, v.op x = if x = e then none else s.op x) →
      v.ports = s.ports.placeAll (flushNotices s e) → v = { s with coc := v.coc, ports := v.ports } → Flushed s v [e] := by
    intro v hop hports hframe
    have hasm : ∀ b, v.asm b = s.asm b := fun b => by rw [hframe]; rfl
    have hpocket : ∀ c p, v.pocket c p = s.pocket c p := fun c p => by rw [hframe]; rfl
    refine ⟨by simpa using hop, fun x hx a c p hi => ?_, fun a _ => hasm a, fun c p _ => hpocket c p, fun c => by rw [hframe]; rfl,
      ?_, ?_, by simpa using hports, by rw [hframe]⟩
    · obtain rfl := List.mem_singleton.mp hx
      exact absurd hi (h a c p)
    · rw [flushPick_none h, hframe]
      rfl
    · rw [hframe]
      simp [flushSignal_none h]
  cases ho : s.op e with
  | none =>
    have hroll : s.rollback e .driverFault = s := by simp only [State.rollback, ho]
    rw [hroll]
    refine hunissued s (fun x => ?_) (by simp [flushNotices, ho]) rfl
    split
    · next hx => rw [hx, ho]
    · rfl
  | some o =>
    have hk : ∀ c p k m, o.kind ≠ .issue c p k m := fun c p k m hk => by
      obtain ⟨kind, a, r⟩ := o
      cases hk
      exact h a c p ⟨k, m, r, ho⟩
    rw [rollback_of_plain .driverFault ho hk]
    refine hunissued _ (fun x => ?_) ?_ ?_
    · simp [State.setOp_op, hd, eq_comm]
    · obtain ⟨kind, a, r⟩ := o
      cases kind with
      | issue c p k m => exact absurd rfl (hk c p k m)
      | stock => simp [flushNotices, ho, rolledBackDone]
      | withdraw => simp [flushNotices, ho, rolledBackDone]
      | giveBack y => simp [flushNotices, ho, rolledBackDone]
    · refine eq_of_parts ?_ ?_ ?_ ?_ ?_ ?_ ?_ ?_ ?_ ?_ ?_ ?_ ?_ <;> simp

/-- A drawer that holds an ISSUE: its rollback undoes the issue. -/
theorem flushed_of_issue (hl : Flushable s [e]) (h : Issues s e a c p) : Flushed s (s.rollback e .driverFault) [e] := by
  obtain ⟨hd, hissue⟩ := hl.2 e (List.mem_singleton.mpr rfl)
  obtain ⟨ha, hc, hp, hst, hstock⟩ := hissue a c p h
  obtain ⟨k, m, r, ho⟩ := h
  have honly : ∀ {a' c' p'}, Issues s e a' c' p' → a' = a ∧ c' = c ∧ p' = p := fun ⟨_, _, _, ho'⟩ => by
    rw [ho] at ho'
    cases ho'
    exact ⟨rfl, rfl, rfl⟩
  obtain ⟨⟨hasm, hothers, hpocket, hpockets, hprofile, hpicks, hop, hops, hhob, -⟩, hdrc, hpins, hports⟩ :=
    rollback_issueUndone (s := s) (w := s) (x := .driverFault) ha hc hp hd rfl ho rfl hst hstock
  refine ⟨fun x => ?_, fun x hx a' c' p' hi => ?_, fun a' hno => hothers a' ?_, fun c' p' hno => hpockets c' p' ?_, hprofile, ?_, ?_, ?_,
    ?_⟩
  · split
    · next hx => rw [List.mem_singleton.mp hx]; exact hop
    · next hx => exact hops x (by simpa using hx)
  · obtain rfl := List.mem_singleton.mp hx
    obtain ⟨rfl, rfl, rfl⟩ := honly hi
    exact ⟨hpocket, hasm⟩
  · rintro rfl
    exact hno e (List.mem_singleton.mpr rfl) c p ⟨k, m, r, ho⟩
  · rintro ⟨rfl, rfl⟩
    exact hno e (List.mem_singleton.mpr rfl) a ⟨k, m, r, ho⟩
  · rw [hpicks]
    cases k with
    | true => simp [flushPick, flushUnlinks, ho]
    | false =>
      have hid : ∀ x, flushPick s [e] x = x := fun x => by simp [flushPick, flushUnlinks, ho]
      rw [List.map_congr_left fun x _ => hid x, List.map_id']
      rfl
  · simp [hhob, flushSignal_issue ho]
  · simp [hports, flushNotices, ho, undoneNotices, hstock]
  · refine eq_of_parts ?_ ?_ ?_ ?_ ?_ ?_ ?_ ?_ ?_ ?_ ?_ ?_ ?_ <;> simp

/-! ### One drawer, then the others -/

theorem foldl_disturb_hob_congr (l : List Signal) (hhob : v.hob = s.hob) (hprofile : ∀ c, v.profile c = s.profile c) :
    (l.foldl State.disturb v).hob = (l.foldl State.disturb s).hob := by
  induction l generalizing v s with
  | nil => exact hhob
  | cons g l ih =>
    exact ih (disturb_hob_congr g hhob hprofile) fun c => by simpa [State.profile, State.cell] using hprofile c

/-- Behind the rollback of one drawer the other drawers hold what they held, of the assemblies they held. -/
theorem Flushed.op_of_ne (h : Flushed s u [e]) {x : Nat} (hx : x ≠ e) : u.op x = s.op x := by
  rw [h.1 x, if_neg (by simpa using hx)]

theorem Flushed.issues_iff (h : Flushed s u [e]) {x : Nat} (hx : x ≠ e) : Issues u x a c p ↔ Issues s x a c p := by
  unfold Issues
  rw [h.op_of_ne hx]

theorem Flushed.asm_of_other (h : Flushed s u [e]) (hs : Flushable s l) {x : Nat} (hx : x ≠ e) (ho : s.op x = some o) :
    u.asm o.asm = s.asm o.asm := by
  obtain ⟨-, -, hasm, -⟩ := h
  refine hasm _ fun y hy c p hi => ?_
  obtain rfl := List.mem_singleton.mp hy
  obtain ⟨k, m, r, hop⟩ := hi
  exact hx (hs.1 x y _ _ ho hop rfl)

theorem Flushed.flushable (h : Flushed s u [e]) (hs : Flushable s (e :: l)) (hnot : e ∉ l) : Flushable u l := by
  refine ⟨fun x y o q hx hy heq => ?_, fun x hx => ?_⟩
  · have hne : ∀ {z o}, u.op z = some o → s.op z = some o := fun {z o} hz => by
      rw [h.1 z] at hz
      split at hz
      · cases hz
      · exact hz
    exact hs.1 x y o q (hne hx) (hne hy) heq
  · have hxe : x ≠ e := fun hxe => hnot (hxe ▸ hx)
    obtain ⟨hlt, hissue⟩ := hs.2 x (List.mem_cons_of_mem _ hx)
    refine ⟨hlt, fun a c p hi => ?_⟩
    have hi' := (h.issues_iff hxe).mp hi
    have hsame : u.asm a = s.asm a := by
      obtain ⟨k, m, r, ho⟩ := hi'
      exact h.asm_of_other hs hxe ho
    rw [hsame]
    exact hissue a c p hi'

theorem Flushed.notices_of_other (h : Flushed s u [e]) (hs : Flushable s l) {x : Nat} (hx : x ≠ e) :
    flushNotices u x = flushNotices s x := by
  unfold flushNotices
  rw [h.op_of_ne hx]
  cases ho : s.op x with
  | none => rfl
  | some o => simp only [h.asm_of_other hs hx ho]

theorem flushPick_cons (h : Flushed s u [e]) (hnot : e ∉ l) (x : Pick) :
    flushPick u l (flushPick s [e] x) = flushPick s (e :: l) x := by
  have hfields : ∀ y, flushUnlinks u (flushPick s [e] x) y = flushUnlinks u x y := fun y => by
    have hcell : (flushPick s [e] x).cell = x.cell ∧ (flushPick s [e] x).pocket = x.pocket := by
      unfold flushPick
      split <;> exact ⟨rfl, rfl⟩
    simp only [flushUnlinks, hcell]
  have hany : l.any (flushUnlinks u (flushPick s [e] x)) = l.any (flushUnlinks s x) := by
    rw [Bool.eq_iff_iff, List.any_eq_true, List.any_eq_true]
    refine exists_congr fun y => and_congr_right fun hy => ?_
    rw [hfields]
    simp only [flushUnlinks, h.op_of_ne (fun hye => hnot (hye ▸ hy))]
  rw [flushPick, hany]
  unfold flushPick
  simp only [List.any_cons, List.any_nil, Bool.or_false]
  by_cases hhead : flushUnlinks s x e = true
  · by_cases hrest : l.any (flushUnlinks s x) = true <;> simp [hhead, hrest]
  · simp [hhead]

theorem Flushed.cons (h : Flushed s u [e]) (hs : Flushable s (e :: l)) (hnot : e ∉ l) (ht : Flushed u t l) :
    Flushed s t (e :: l) := by
  have hne : ∀ {x}, x ∈ l → x ≠ e := fun hx hxe => hnot (hxe ▸ hx)
  have hissues : ∀ {x a c p}, x ∈ l → (Issues u x a c p ↔ Issues s x a c p) := fun hx => h.issues_iff (hne hx)
  obtain ⟨hop, hissue, hasm, hpocket, hprofile, hpicks, hhob, hports, hframe⟩ := h
  have h : Flushed s u [e] := ⟨hop, hissue, hasm, hpocket, hprofile, hpicks, hhob, hports, hframe⟩
  obtain ⟨hop', hissue', hasm', hpocket', hprofile', hpicks', hhob', hports', hframe'⟩ := ht
  refine ⟨fun x => ?_, fun x hx a c p hi => ?_, fun a hno => ?_, fun c p hno => ?_, fun c => (hprofile' c).trans (hprofile c),
    ?_, ?_, ?_, ?_⟩
  · rw [hop' x, hop x]
    by_cases hxe : x = e <;> by_cases hxl : x ∈ l <;> simp [hxe, hxl]
  · rcases List.mem_cons.mp hx with rfl | hx
    · obtain ⟨hempty, hready⟩ := hissue x (List.mem_singleton.mpr rfl) a c p hi
      refine ⟨?_, ?_⟩
      · by_cases hagain : ∃ y ∈ l, ∃ b, Issues s y b c p
        · obtain ⟨y, hy, b, hi'⟩ := hagain
          exact (hissue' y hy b c p ((hissues hy).mpr hi')).1
        · rw [hpocket' c p fun y hy b hi' => hagain ⟨y, hy, b, (hissues hy).mp hi'⟩, hempty]
      · rw [hasm' a fun y hy c' p' hi' => ?_, hready]
        obtain ⟨k, m, r, ho⟩ := hi
        obtain ⟨k', m', r', ho'⟩ := (hissues hy).mp hi'
        exact hne hy (hs.1 y x _ _ ho' ho rfl)
    · obtain ⟨hempty, hready⟩ := hissue' x hx a c p ((hissues hx).mpr hi)
      obtain ⟨k, m, r, ho⟩ := hi
      exact ⟨hempty, by rw [hready, h.asm_of_other hs (hne hx) ho]⟩
  · rw [hasm' a fun y hy c p hi => hno y (List.mem_cons_of_mem _ hy) c p ((hissues hy).mp hi)]
    exact hasm a fun y hy c p => hno y (List.mem_singleton.mp hy ▸ List.mem_cons_self) c p
  · rw [hpocket' c p fun y hy a hi => hno y (List.mem_cons_of_mem _ hy) a ((hissues hy).mp hi)]
    exact hpocket c p fun y hy a => hno y (List.mem_singleton.mp hy ▸ List.mem_cons_self) a
  · rw [hpicks', hpicks, List.map_map]
    exact List.map_congr_left fun x _ => flushPick_cons h hnot x
  · have hsignals : l.filterMap (flushSignal u) = l.filterMap (flushSignal s) :=
      List.filterMap_congr fun x hx => by simp only [flushSignal, h.op_of_ne (hne hx)]
    have hsplit : ((e :: l).filterMap (flushSignal s)).foldl State.disturb s =
        (l.filterMap (flushSignal s)).foldl State.disturb (([e].filterMap (flushSignal s)).foldl State.disturb s) := by
      rw [← List.foldl_append, ← List.filterMap_append]
      rfl
    rw [hhob', hsignals, hsplit]
    refine foldl_disturb_hob_congr _ hhob fun c => (hprofile c).trans ?_
    cases hsig : flushSignal s e <;> simp [hsig, State.profile, State.cell]
  · have hnotices : l.flatMap (flushNotices u) = l.flatMap (flushNotices s) :=
      List.flatMap_congr fun x hx => h.notices_of_other hs (hne hx)
    rw [hports', hnotices, hports]
    simp
  · rw [hframe', hframe]

theorem flushed_nil (s : State) : Flushed s s [] := by
  refine ⟨fun _ => by simp, by simp, fun _ _ => rfl, fun _ _ _ => rfl, fun _ => rfl, ?_, rfl, rfl, rfl⟩
  rw [List.map_congr_left (g := id) fun x _ => by simp [flushPick], List.map_id]

/-- The rollbacks of the flush, in the order of the list (R112). -/
theorem flushed_foldl (hnodup : l.Nodup) (hs : Flushable s l) :
    Flushed s (l.foldl (fun v x => State.rollback v x .driverFault) s) l := by
  induction l generalizing s with
  | nil => exact flushed_nil s
  | cons e l ih =>
    obtain ⟨hnot, hl⟩ := List.nodup_cons.mp hnodup
    have hself : Flushable s [e] := ⟨hs.1, fun x hx => hs.2 x (List.mem_singleton.mp hx ▸ List.mem_cons_self)⟩
    have hone : Flushed s (s.rollback e .driverFault) [e] := by
      by_cases hi : ∃ a c p, Issues s e a c p
      · obtain ⟨a, c, p, hi⟩ := hi
        exact flushed_of_issue hself hi
      · exact flushed_of_noIssue (hs.2 e List.mem_cons_self).1 fun a c p h => hi ⟨a, c, p, h⟩
    exact hone.cons hs hnot (ih hl (hone.flushable hs hnot))

end Sys2Proof.Machine
end

section
/-! PROOFS. The third overcurrent in succession (O34). -/

namespace Sys2Proof.Machine

open Sys2Proof

variable {s t u v w : State} {d e n : Nat} {l : List Nat} {i : Instr}

/-- A state that differs from `s` in the drawers, the driver, the pins and the ports alone, its release set the same, and
each drawer of it the same but for what a flush clears. -/
def AboutToFlush (s v : State) : Prop :=
  v = { s with drc := v.drc, pins := v.pins } ∧
    (∀ e, (v.drawer e).state.releasing = (s.drawer e).state.releasing) ∧
    (∀ e, (s.drawer e).state.releasing = false → v.drawer e = s.drawer e) ∧
    ∀ e, ({ v.drawer e with state := .closed, attempts := 0, waitTimer := 0 } : Drawer) =
      { s.drawer e with state := .closed, attempts := 0, waitTimer := 0 }

/-- The state in which the flush begins to roll back. -/
def flushBegun (v : State) (d : Nat) : State :=
  (v.releaseSet.foldl (fun v x => State.drawerRest v x .closed 0)
    ((v.setDriver { v.drc.driver with fault := true }).setReleaseQueue [])).placed [(.C, .driverFault d v.releaseSet.length)]

theorem driverFault_begun (v : State) (d : Nat) :
    v.driverFault d = v.releaseSet.foldl (fun v x => State.rollback v x .driverFault) (flushBegun v d) := rfl

theorem flushBegun_frame (v : State) (d : Nat) : flushBegun v d = { v with
    drc := (flushBegun v d).drc, ports := (v.placed [(.C, .driverFault d v.releaseSet.length)]).ports } := by
  unfold flushBegun
  refine eq_of_parts ?_ ?_ ?_ ?_ ?_ ?_ ?_ ?_ ?_ ?_ ?_ ?_ ?_ <;> simp

/-- Rollbacks see neither drawers, driver and pins nor the notices placed before. -/
theorem Flushed.of_frame (h : Flushed w t l) (hw : w = { s with drc := w.drc, pins := w.pins, ports := w.ports }) :
    (∀ x, t.op x = if x ∈ l then none else s.op x) ∧
    (∀ e ∈ l, ∀ a c p, Issues s e a c p → t.pocket c p = .empty ∧ t.asm a = (s.asm a).unissued) ∧
    (∀ a, (∀ e ∈ l, ∀ c p, ¬ Issues s e a c p) → t.asm a = s.asm a) ∧
    (∀ c p, (∀ e ∈ l, ∀ a, ¬ Issues s e a c p) → t.pocket c p = s.pocket c p) ∧
    (∀ c, t.profile c = s.profile c) ∧ t.picks = s.picks.map (flushPick s l) ∧
    t.hob = ((l.filterMap (flushSignal s)).foldl State.disturb s).hob ∧
    t.ports = w.ports.placeAll (l.flatMap (flushNotices s)) ∧
    t = { s with atb := t.atb, drc := w.drc, coc := t.coc, ctb := t.ctb, hob := t.hob, ports := t.ports, pins := w.pins } := by
  have hop : ∀ x, w.op x = s.op x := fun x => by rw [hw]; rfl
  have hasm : ∀ x, w.asm x = s.asm x := fun x => by rw [hw]; rfl
  have hissues : ∀ {e a c p}, Issues w e a c p ↔ Issues s e a c p := by intros; simp only [Issues, hop]
  have hpick : ∀ x, flushPick w l x = flushPick s l x := fun x => by
    have hunlinks : flushUnlinks w x = flushUnlinks s x := funext fun e => by simp only [flushUnlinks, hop]
    simp only [flushPick, hunlinks]
  have hsignal : flushSignal w = flushSignal s := funext fun e => by simp only [flushSignal, hop]
  have hnotices : flushNotices w = flushNotices s := funext fun e => by simp only [flushNotices, hop, hasm]
  have hpicks : w.picks = s.picks := by rw [hw]; rfl
  obtain ⟨h1, h2, h3, h4, h5, h6, h7, h8, h9⟩ := h
  refine ⟨fun x => by rw [h1, hop], fun e he a c p hi => ?_, fun a hno => ?_, fun c p hno => ?_, fun c => ?_, ?_, ?_, ?_, ?_⟩
  · rw [← hasm]
    exact h2 e he a c p (hissues.mpr hi)
  · rw [← hasm]
    exact h3 a fun e he c p hi => hno e he c p (hissues.mp hi)
  · rw [h4 c p fun e he a hi => hno e he a (hissues.mp hi), hw]
    rfl
  · rw [h5, hw]
    rfl
  · rw [h6, hpicks]
    exact List.map_congr_left fun x _ => hpick x
  · rw [h7, hsignal]
    exact foldl_disturb_hob_congr _ (by rw [hw]) fun c => by rw [hw]; rfl
  · rw [h8, hnotices]
  · rw [h9, hw]

theorem releaseSet_nodup (s : State) : s.releaseSet.Nodup := List.nodup_range.filter _

theorem AboutToFlush.releaseSet (h : AboutToFlush s v) : v.releaseSet = s.releaseSet := by
  obtain ⟨-, hreleasing, -⟩ := h
  unfold State.releaseSet
  exact List.filter_congr fun e _ => hreleasing e

/-- A flush leaves the drawers of the release set CLOSED and the others as they were (R81). -/
theorem AboutToFlush.drawers (h : AboutToFlush s v) (e : Nat) : (v.driverFault d).drawer e =
    if (s.drawer e).state.releasing = true then { s.drawer e with state := .closed, attempts := 0, waitTimer := 0 }
      else s.drawer e := by
  obtain ⟨-, hreleasing, hrest, hclosed⟩ := h
  rw [driverFault_drawer, hreleasing]
  split
  · exact hclosed e
  · next hno => exact hrest e (by simpa using hno)

/-- The failed attempt that counts the third overcurrent (R81). -/
theorem failedAttempt_faults (hoc : v.drc.driver.overcurrents = 3) :
    (v.failedAttempt d).kickDriver = v.driverFault d := by
  unfold State.failedAttempt
  dsimp only
  rw [if_pos hoc]
  exact kickDriver_empty (by simp)

/-- What a flush rolls back of the state in which the third overcurrent came (R112). -/
theorem AboutToFlush.flushed (h : AboutToFlush s v) (hs : Flushable s s.releaseSet) :
    ∃ w, Flushed w (v.driverFault d) s.releaseSet ∧ w = { s with drc := w.drc, pins := w.pins, ports := w.ports } ∧
      w.pins = v.pins ∧ w.ports = s.ports.placeAll [(.C, .driverFault d s.releaseSet.length)] := by
  have hset := h.releaseSet
  obtain ⟨hframe, -⟩ := h
  have hbegun := flushBegun_frame v d
  obtain ⟨w, hw⟩ : ∃ w, w = flushBegun v d := ⟨_, rfl⟩
  rw [← hw] at hbegun
  have hports : w.ports = s.ports.placeAll [(.C, .driverFault d s.releaseSet.length)] := by
    rw [hbegun, hset]
    simp only [placed_ports_eq]
    rw [hframe]
  have hpins : w.pins = v.pins := by rw [hbegun]
  have hwframe : w = { s with drc := w.drc, pins := w.pins, ports := w.ports } := by
    rw [hpins, hports]
    rw [hbegun, hset]
    simp only [placed_ports_eq]
    rw [hframe]
  have hop : ∀ x, w.op x = s.op x := fun x => by rw [hwframe]; rfl
  have hasm : ∀ x, w.asm x = s.asm x := fun x => by rw [hwframe]; rfl
  have hws : Flushable w s.releaseSet := by
    simpa only [Flushable, Issues, hop, hasm] using hs
  refine ⟨w, ?_, hwframe, hpins, hports⟩
  rw [driverFault_begun, hset, ← hw]
  exact flushed_foldl (releaseSet_nodup s) hws

/-- A pulse has ended with the third overcurrent. -/
theorem aboutToFlush_pulseEnded (s : State) : AboutToFlush s (s.pulseEnded 3 .spent) :=
  ⟨rfl, fun _ => rfl, fun _ _ => rfl, fun _ => rfl⟩

/-- A waiting drawer was queued and its pulse ended as it began, with the third overcurrent. -/
theorem aboutToFlush_pulseBegun (hst : (s.drawer d).state.waiting = true) :
    AboutToFlush s ((s.pulseBegun d n).pulseEnded 3 .spent) := by
  have hdrawer : ∀ e, ((s.pulseBegun d n).pulseEnded 3 .spent).drawer e =
      if d = e ∧ d < 64 then { s.drawer d with state := .pulsing, attempts := n, waitTimer := 0 } else s.drawer e :=
    pulseBegun_drawer s d n
  have hreleasing : (s.drawer d).state.releasing = true := by
    revert hst
    cases (s.drawer d).state <;> simp [DrawerState.waiting, DrawerState.releasing]
  refine ⟨rfl, fun e => ?_, fun e he => ?_, fun e => ?_⟩
  · rw [hdrawer]
    split
    · next h => rw [← h.1, hreleasing]; rfl
    · rfl
  · rw [hdrawer, if_neg fun h => by rw [← h.1, hreleasing] at he; cases he]
  · rw [hdrawer]
    split
    · next h => rw [← h.1]
    · rfl

/-- The events that count the third overcurrent, and the state in which they count it. -/
theorem exec_thirdOvercurrent {d : Fin 64} (hactive : s.phase.active = true) (hoc : s.drc.driver.overcurrents = 2)
    (hi : i = .overcurrent ∧ s.drc.driver.pulsing = some d.val ∧ (s.drawer d).state = .pulsing ∨
      i = .waitExpiry d ∧ s.drc.driver.pulsing = none ∧ s.drc.driver.fault = false ∧ s.drc.queue = [] ∧
        s.pins.sense = .asserted ∧ (s.drawer d).state.waiting = true ∧ (s.drawer d).waitTime ≤ (s.drawer d).waitTimer) :
    ∃ v, exec i s = .next (v.driverFault d) ∧ AboutToFlush s v ∧ v.pins = { s.pins with sense := .spent } ∧
      v.drc.driver = { s.drc.driver with
        pulsing := none, pulseTimer := 0, overcurrents := 3
        pulseWidth := if i = .overcurrent then s.drc.driver.pulseWidth else s.params.pulseWidth
        bus := if i = .overcurrent then s.drc.driver.bus else d.val } := by
  rcases hi with ⟨rfl, hpulsing, -⟩ | ⟨rfl, hidle, hfault, hq, hsense, hst, hdue⟩
  · refine ⟨s.pulseEnded 3 .spent, ?_, aboutToFlush_pulseEnded s, rfl, ?_⟩
    · rw [exec_failedAttempt (oc := 3) hactive hpulsing (.inr ⟨rfl, by rw [hoc]⟩), if_pos rfl,
        failedAttempt_faults rfl]
    · rw [if_pos rfl, if_pos rfl]
      rfl
  · obtain ⟨v, hv⟩ : ∃ v, v = (s.pulseBegun d (s.drawer d).attempts).pulseEnded 3 .spent := ⟨_, rfl⟩
    have habout : AboutToFlush s v := hv ▸ aboutToFlush_pulseBegun hst
    have hqueue : (s.queueDrawer d (s.drawer d).attempts).drc.queue = [d.val] := by
      show s.drc.queue ++ [d.val] = [d.val]
      rw [hq]
      rfl
    have hended : (s.pulseBegun d (s.drawer d).attempts).overcurrentPulse d = v.failedAttempt d := by
      have hcount : (s.pulseBegun d (s.drawer d).attempts).drc.driver.overcurrents + 1 = 3 := by
        show s.drc.driver.overcurrents + 1 = 3
        rw [hoc]
      unfold State.overcurrentPulse
      rw [hcount, hv]
      rfl
    have hfails : v.failedAttempt d = v.driverFault d := by
      unfold State.failedAttempt
      dsimp only
      exact if_pos (by rw [hv]; rfl)
    refine ⟨v, ?_, habout, by rw [hv]; rfl, ?_⟩
    · rw [exec_event rfl]
      show Host.Outcome.next (if s.phase.active && s.waitDue d then s.expireWait d else s) = _
      rw [if_pos (by simp [hactive, State.waitDue, hst, hdue])]
      unfold State.expireWait
      rw [kickDriver_fails (w := s.queueDrawer d (s.drawer d).attempts) hidle hfault hqueue hsense, beginPulse_queued s d.isLt hq, hended, hfails]
    · rw [if_neg nofun, if_neg nofun, hv]
      show ({ s.drc.driver with pulsing := none, pulseTimer := 0, overcurrents := 3, pulseWidth := _, bus := _ } : Driver) = _
      rfl

/-- Settles O34, by the rollbacks of the flush one drawer after the other. -/
theorem thirdOvercurrentFaults : Obligations.ThirdOvercurrentFaults := by
  unfold Obligations.ThirdOvercurrentFaults
  intro i d l s hactive hoc hi hlaw hl hissues
  obtain ⟨hdistinct, hissuing, -, -⟩ := hlaw
  obtain rfl : l = s.releaseSet := hl
  have hlt : ∀ {e}, e ∈ s.releaseSet → e < 64 := fun he => List.mem_range.mp (List.mem_filter.mp he).1
  have hs : Flushable s s.releaseSet := by
    refine ⟨hdistinct, fun e he => ⟨hlt he, fun a c p ⟨k, m, r, ho⟩ => ?_⟩⟩
    obtain ⟨hc, hp, ha, hstock⟩ := hissues e he c p k m a r ho
    exact ⟨by omega, by omega, by omega, hissuing e _ c p k m ho rfl, hstock⟩
  obtain ⟨v, hexec, habout, hpins, hdriver⟩ := exec_thirdOvercurrent hactive hoc hi
  obtain ⟨w, hflushed, hw, hwpins, hwports⟩ := habout.flushed (d := d) hs
  have hdrawers := habout.drawers (d := d)
  obtain ⟨t, ht⟩ : ∃ t, t = v.driverFault d := ⟨_, rfl⟩
  have hqueue : t.drc.queue = [] ∧ t.drc.driver = { v.drc.driver with fault := true } := by
    rw [ht]
    simp
  rw [← ht] at hexec hflushed hdrawers
  obtain ⟨hop, hissue, hasm, hpocket, hprofile, hpicks, hhob, hports, hframe⟩ := hflushed.of_frame hw
  refine ⟨t, hexec, hqueue.1, ?_, fun e he hrel => ⟨?_, ?_⟩, fun e hrel => ⟨?_, ?_⟩, fun e he c p k m a r ho => ?_, fun a hno => ?_,
    fun c p hno => ?_, hprofile, hpicks, hhob, ?_, ?_⟩
  · rw [hqueue.2, hdriver]
  · rw [hop, if_pos (mem_releaseSet.mpr hrel)]
  · rw [hdrawers, if_pos hrel]
  · rw [hop, if_neg fun h => by rw [mem_releaseSet.mp h] at hrel; cases hrel]
  · rw [hdrawers, if_neg (by simp [hrel])]
  · exact hissue e he a c p ⟨k, m, r, ho⟩
  · exact hasm a fun e he c p ⟨k, m, r, ho⟩ => hno e he c p k m r ho
  · exact hpocket c p fun e he a ⟨k, m, r, ho⟩ => hno e he k m a r ho
  · rw [hports, hwports]
    simp
  · rw [hwpins, hpins] at hframe
    rw [hframe]

end Sys2Proof.Machine
end

section
/-! PROOFS. What a lowered limit does (O15). -/

namespace Sys2Proof.Machine

open Sys2Proof

variable {s t u w : State} {a b n v : Nat} {p : Port} {tag : Byte} {l : List Nat}

/-- A SET_PARAMETER that changes the value (R196). -/
theorem exec_setParameter (h : s.taken p (.setParameter p n v) = some tag) (howner : paramOwner n = some p)
    (hne : s.params.get n ≠ paramStored n v) : exec (.setParameter p n v) s =
      .next ((((s.setParams (s.params.put n (paramStored n v))).actOnLimit n).dirty paramsKey).replied p
        (okReply tag (decide (paramStored n v ≠ v)) (.parameter n (paramStored n v)))) := by
  obtain ⟨-, hx⟩ := (setParameter_checked s p n v).2 (by simp [firstOf, howner])
  rw [if_neg hne] at hx
  exact exec_accepted rfl h (by rw [touchNamed_of_none rfl]; exact hx)

/-! ### Locks that expire one after the other (R15, R16) -/

theorem expireLock_of_free (hp : (s.asm a).holder = none) : s.expireLock a = s := by
  unfold State.expireLock
  rw [hp]

/-- An expiry of a lock leaves every other record, the Handoff Builder and the parameters. -/
theorem expireLock_others (s : State) (a : Nat) : (∀ b, b ≠ a → (s.expireLock a).asm b = s.asm b) ∧
    (s.expireLock a).hob = s.hob ∧ (s.expireLock a).params = s.params := by
  cases hp : (s.asm a).holder with
  | none => rw [expireLock_of_free hp]; exact ⟨fun _ _ => rfl, rfl, rfl⟩
  | some p =>
    by_cases hm : (s.asm a).state = .measuring
    · have hfree : ∀ v : State, (v.asm a).state = .measuring → v.changeAsm a (v.asm a).restorePrior = v.setAsm a (v.asm a).restorePrior :=
        fun v hv => changeAsm_unpocketed (by rw [hv]; exact free_measuring) (restorePrior_free _ (by rw [hv]; exact free_measuring))
      have hun : (((s.setAsm a (s.asm a).unlocked).notify p (.lockExpired a)).asm a).state = .measuring := by
        rw [notify_asm, State.setAsm_asm]
        split <;> exact hm
      unfold State.expireLock
      rw [hp]
      dsimp only
      rw [if_pos hm]
      cases hx : s.ocu with
      | none => exact ⟨fun b hb => by simp [State.setAsm_asm, Ne.symm hb], by simp, by simp⟩
      | some x =>
        dsimp only
        rw [hfree _ hun]
        exact ⟨fun b hb => by simp [State.setAsm_asm, Ne.symm hb], by simp, by simp⟩
    · rw [expireLock_of_idle hp hm]
      exact ⟨fun b hb => by simp [State.setAsm_asm, Ne.symm hb], by simp, by simp⟩

/-- An expiry of the lock of a record that is not MEASURING leaves the session and the stores. -/
theorem expireLock_session (hm : (s.asm a).state ≠ .measuring) :
    (s.expireLock a).ocu = s.ocu ∧ (s.expireLock a).rfs = s.rfs ∧ (s.expireLock a).rst = s.rst := by
  cases hp : (s.asm a).holder with
  | none => rw [expireLock_of_free hp]; exact ⟨rfl, rfl, rfl⟩
  | some p => rw [expireLock_of_idle hp hm]; simp

theorem foldl_expireLock_parts (l : List Nat) (w : State) : l.foldl State.expireLock w = { w with
    atb := (l.foldl State.expireLock w).atb, ocu := (l.foldl State.expireLock w).ocu, rfs := (l.foldl State.expireLock w).rfs,
    rst := (l.foldl State.expireLock w).rst, ports := (l.foldl State.expireLock w).ports } := by
  induction l generalizing w with
  | nil => rfl
  | cons a l ih =>
    have hone : w.expireLock a = { w with
        atb := (w.expireLock a).atb, ocu := (w.expireLock a).ocu, rfs := (w.expireLock a).rfs
        rst := (w.expireLock a).rst, ports := (w.expireLock a).ports } := by
      obtain ⟨-, hhob, -⟩ := expireLock_others w a
      refine eq_of_parts ?_ ?_ ?_ ?_ ?_ ?_ ?_ ?_ ?_ ?_ ?_ ?_ ?_ <;> simp [hhob]
    rw [List.foldl_cons, ih (w.expireLock a), hone]

theorem foldl_expireLock_other (hb : b ∉ l) : (l.foldl State.expireLock w).asm b = w.asm b := by
  induction l generalizing w with
  | nil => rfl
  | cons a l ih =>
    obtain ⟨hba, hbl⟩ : b ≠ a ∧ b ∉ l := by simpa using hb
    rw [List.foldl_cons, ih hbl]
    exact (expireLock_others w a).1 b hba

/-- Locks of records none of which is MEASURING leave the session and the stores. -/
theorem foldl_expireLock_session (hl : l.Nodup) (hm : ∀ a ∈ l, (w.asm a).state ≠ .measuring) :
    (l.foldl State.expireLock w).ocu = w.ocu ∧ (l.foldl State.expireLock w).rfs = w.rfs ∧
      (l.foldl State.expireLock w).rst = w.rst := by
  induction l generalizing w with
  | nil => exact ⟨rfl, rfl, rfl⟩
  | cons a l ih =>
    obtain ⟨hal, hl⟩ := List.nodup_cons.mp hl
    obtain ⟨hocu, hrfs, hrst⟩ := expireLock_session (hm a List.mem_cons_self)
    obtain ⟨hocu', hrfs', hrst'⟩ := ih (w := w.expireLock a) hl fun b hb => by
      rw [(expireLock_others w a).1 b fun h => hal (h ▸ hb)]
      exact hm b (List.mem_cons_of_mem _ hb)
    exact ⟨hocu'.trans hocu, hrfs'.trans hrfs, hrst'.trans hrst⟩

/-- The turn of one lock among the others: those before and behind it leave its record. -/
theorem foldl_expireLock_split (hl : l.Nodup) (ha : a ∈ l) : ∃ l₁ l₂, l = l₁ ++ a :: l₂ ∧ a ∉ l₁ ∧ a ∉ l₂ ∧ l₁.Nodup ∧
    l₂.Nodup ∧ (∀ b ∈ l₁ ++ l₂, b ∈ l ∧ b ≠ a) ∧ (∀ b ∈ l₂, b ∉ l₁) ∧
    l.foldl State.expireLock w = l₂.foldl State.expireLock ((l₁.foldl State.expireLock w).expireLock a) := by
  obtain ⟨l₁, l₂, rfl⟩ := List.append_of_mem ha
  obtain ⟨h₁, h₂, hdisjoint⟩ := List.nodup_append.mp hl
  obtain ⟨ha₂, h₂⟩ := List.nodup_cons.mp h₂
  have ha₁ : a ∉ l₁ := fun h => hdisjoint a h a List.mem_cons_self rfl
  refine ⟨l₁, l₂, rfl, ha₁, ha₂, h₁, h₂, fun b hb => ?_,
    fun b hb₂ hb₁ => hdisjoint b hb₁ b (List.mem_cons_of_mem _ hb₂) rfl, by rw [List.foldl_append, List.foldl_cons]⟩
  rcases List.mem_append.mp hb with hb | hb
  · exact ⟨List.mem_append_left _ hb, fun h => ha₁ (h ▸ hb)⟩
  · exact ⟨List.mem_append_right _ (List.mem_cons_of_mem _ hb), fun h => ha₂ (h ▸ hb)⟩

theorem foldl_expireLock_idle (hl : l.Nodup) (ha : a ∈ l) (hlt : a < 512) (hp : (w.asm a).holder ≠ none)
    (hm : (w.asm a).state ≠ .measuring) :
    (l.foldl State.expireLock w).asm a = { w.asm a with holder := none, idle := 0 } := by
  obtain ⟨l₁, l₂, -, ha₁, ha₂, -, -, -, -, hfold⟩ := foldl_expireLock_split (w := w) hl ha
  have hrec : (l₁.foldl State.expireLock w).asm a = w.asm a := foldl_expireLock_other ha₁
  obtain ⟨p, hp⟩ := Option.ne_none_iff_exists'.mp hp
  rw [hfold, foldl_expireLock_other ha₂, expireLock_of_idle (by rw [hrec]; exact hp) (by rw [hrec]; exact hm)]
  simp [State.setAsm_asm, hlt, hrec, AsmRecord.unlocked]

/-- What an expiry reports reads the record, and of a MEASURING one the session and the staged curve. -/
theorem expiryNotices_congr (hasm : u.asm a = w.asm a)
    (hm : (w.asm a).state = .measuring → u.ocu = w.ocu ∧ u.rfs = w.rfs) : expiryNotices u a = expiryNotices w a := by
  unfold expiryNotices
  rw [hasm]
  cases (w.asm a).holder with
  | none => rfl
  | some p =>
    by_cases h : (w.asm a).state = .measuring
    · obtain ⟨hocu, hrfs⟩ := hm h
      rw [hocu, hrfs]
    · cases u.ocu <;> cases w.ocu <;> simp [h]

/-- Locks that expire, at most one of them of a MEASURING record, report in the order of their numbers. -/
theorem foldl_expireLock_ports (hl : l.Nodup) (hlt : ∀ a ∈ l, a < 512)
    (hone : ∀ a ∈ l, ∀ b ∈ l, (w.asm a).state = .measuring → (w.asm b).state = .measuring → a = b) :
    (l.foldl State.expireLock w).ports = w.ports.placeAll (l.flatMap (expiryNotices w)) := by
  induction l generalizing w with
  | nil => rfl
  | cons a l ih =>
    obtain ⟨hal, hl⟩ := List.nodup_cons.mp hl
    have hne : ∀ b ∈ l, b ≠ a := fun b hb h => hal (h ▸ hb)
    have hasm : ∀ b ∈ l, (w.expireLock a).asm b = w.asm b := fun b hb => (expireLock_others w a).1 b (hne b hb)
    have hnotices : l.flatMap (expiryNotices (w.expireLock a)) = l.flatMap (expiryNotices w) :=
      List.flatMap_congr fun b hb => expiryNotices_congr (hasm b hb) fun hm => by
        have ham : (w.asm a).state ≠ .measuring := fun ham =>
          hne b hb (hone b (List.mem_cons_of_mem _ hb) a List.mem_cons_self hm ham)
        obtain ⟨hocu, hrfs, -⟩ := expireLock_session ham
        exact ⟨hocu, hrfs⟩
    rw [List.foldl_cons, ih (w := w.expireLock a) hl (fun b hb => hlt b (List.mem_cons_of_mem _ hb)) fun b hb c hc hbm hcm =>
      hone b (List.mem_cons_of_mem _ hb) c (List.mem_cons_of_mem _ hc) (by rwa [hasm b hb] at hbm) (by rwa [hasm c hc] at hcm),
      hnotices, expireLock_ports w (hlt a List.mem_cons_self)]
    simp

theorem viewOf_curveKey (h : t.rfs = s.rfs) : t.viewOf curveKey = s.viewOf curveKey := by
  simp [State.viewOf, curveKey, h]

/-- Locks that expire, that of the session's subject among them: the session is aborted. -/
theorem foldl_expireLock_abort {x : Session} {r : PriorState} (hl : l.Nodup) (ha : a ∈ l) (hlt : a < 512)
    (hone : ∀ b ∈ l, (w.asm b).state = .measuring → b = a) (hm : (w.asm a).state = .measuring)
    (hp : (w.asm a).holder ≠ none) (hr : (w.asm a).prior = some r) (hx : w.ocu = some x) :
    (l.foldl State.expireLock w).asm a = { w.asm a with state := r.toState, prior := none, holder := none, idle := 0 } ∧
      (l.foldl State.expireLock w).ocu = none ∧
      (w.rfs.staged = none → (l.foldl State.expireLock w).rfs = w.rfs ∧ Dirties w (l.foldl State.expireLock w) []) ∧
      ∀ c, w.rfs.staged = some c → (l.foldl State.expireLock w).rfs = { w.rfs with curve := c, staged := none } ∧
        Dirties w (l.foldl State.expireLock w) [curveKey] := by
  obtain ⟨l₁, l₂, -, ha₁, ha₂, h₁, h₂, hmem, hapart, hfold⟩ := foldl_expireLock_split (w := w) hl ha
  have hidle : ∀ b ∈ l₁ ++ l₂, (w.asm b).state ≠ .measuring := fun b hb hbm =>
    (hmem b hb).2 (hone b (hmem b hb).1 hbm)
  obtain ⟨u, hu⟩ : ∃ u, u = l₁.foldl State.expireLock w := ⟨_, rfl⟩
  obtain ⟨hocu, hrfs, hrst⟩ := foldl_expireLock_session h₁ fun b hb => hidle b (List.mem_append_left _ hb)
  have hrec : u.asm a = w.asm a := hu ▸ foldl_expireLock_other ha₁
  rw [← hu] at hocu hrfs hrst hfold
  obtain ⟨p, hp⟩ := Option.ne_none_iff_exists'.mp hp
  have hexpire := expireLock_of_measuring (s := u) hlt (by rw [hrec]; exact hp) (by rw [hrec]; exact hm) (hocu.trans hx)
  obtain ⟨q, hq⟩ : ∃ q, q = (u.setAsm a (u.asm a).unlocked.restorePrior).notify p (.lockExpired a) := ⟨_, rfl⟩
  have hqrfs : q.rfs = w.rfs := by rw [hq]; simp [hrfs]
  have hqrst : q.rst = w.rst := by rw [hq]; simp [hrst]
  have hrecord : (u.asm a).unlocked.restorePrior =
      { w.asm a with state := r.toState, prior := none, holder := none, idle := 0 } := by
    rw [hrec]
    exact restorePrior_some (r := (w.asm a).unlocked) hr
  rw [← hq] at hexpire
  have hothers : ∀ b ∈ l₂, ((u.expireLock a).asm b).state ≠ .measuring := fun b hb => by
    have hba := (hmem b (List.mem_append_right _ hb)).2
    rw [(expireLock_others u a).1 b hba, hu, foldl_expireLock_other (hapart b hb)]
    exact hidle b (List.mem_append_right _ hb)
  obtain ⟨hocu', hrfs', hrst'⟩ := foldl_expireLock_session h₂ hothers
  obtain ⟨hnone, hsome⟩ := finishSession_dirties (w := q) (dirtyForm_dirties w []) (endedWithout x .aborted) (by simp)
    (dirties_nil hqrst)
  rw [hexpire] at hocu' hrfs' hrst'
  rw [hfold, foldl_expireLock_other ha₂, hexpire]
  refine ⟨?_, hocu'.trans (by simp), fun hn => ⟨?_, ?_⟩, fun c hc => ⟨?_, ?_⟩⟩
  · rw [← hrecord, hq]
    simp [State.setAsm_asm, hlt]
  · rw [hrfs', finishSession_rfs_of_none _ (by rw [hqrfs, hn]), hqrfs]
  · exact Dirties.congr (hnone (by rw [hqrfs, hn])) hrst' fun k hk => by simp at hk
  · rw [hrfs', finishSession_rfs_of_some _ (by rw [hqrfs, hc]), hqrfs]
  · refine Dirties.congr (hsome c (by rw [hqrfs, hc])) hrst' fun k hk => ?_
    obtain rfl : k = curveKey := by simpa using hk
    exact viewOf_curveKey hrfs'

end Sys2Proof.Machine
end

section
/-! PROOFS. The statement about lowered limits (O15). -/

namespace Sys2Proof.Machine

open Sys2Proof

variable {s t u w : State} {a b d n v : Nat} {p : Port} {tag : Byte} {l : List Nat}

theorem flatMap_filter_eq {α β : Type} (q : α → Bool) (f : α → List β) (l : List α) :
    (l.filter q).flatMap f = l.flatMap fun x => if q x = true then f x else [] := by
  induction l with
  | nil => rfl
  | cons x l ih =>
    rw [List.filter_cons, List.flatMap_cons, ← ih]
    split <;> rfl

/-- The state in which a limit takes effect (R196). -/
def State.limited (s : State) (n v : Nat) : State := s.setParams (s.params.put n (paramStored n v))

/-- What a changed limit leaves, from what its timers did. -/
def State.limitSet (w : State) (tag : Byte) (n v : Nat) : State :=
  (w.dirty paramsKey).replied .C (okReply tag (decide (paramStored n v ≠ v)) (.parameter n (paramStored n v)))

theorem limitSet_rst (w : State) (tag : Byte) (n v : Nat) : (w.limitSet tag n v).rst = (w.dirty paramsKey).rst := by
  simp [State.limitSet]

theorem limitSet_viewOf (w : State) (tag : Byte) (n v k : Nat) : (w.limitSet tag n v).viewOf k = w.viewOf k := by
  simp [State.limitSet]

/-- The parameter record is dirtied behind what the timers dirtied (R196, log 27). -/
theorem limitSet_dirties (h : Dirties s w l) (hk : paramsKey ∉ l) : Dirties s (w.limitSet tag n v) (l ++ [paramsKey]) :=
  (h.snoc hk).congr (limitSet_rst w tag n v) fun k _ => by rw [limitSet_viewOf, dirty_viewOf]

theorem limitSet_frame (w : State) (tag : Byte) (n v : Nat) :
    w.limitSet tag n v = { w with rst := (w.limitSet tag n v).rst, ports := (w.limitSet tag n v).ports } ∧
      (w.limitSet tag n v).ports =
        w.ports.reply .C (okReply tag (decide (paramStored n v ≠ v)) (.parameter n (paramStored n v))) := by
  refine ⟨?_, by simp [State.limitSet]⟩
  refine eq_of_parts ?_ ?_ ?_ ?_ ?_ ?_ ?_ ?_ ?_ ?_ ?_ ?_ ?_ <;> simp [State.limitSet]

/-- A limit that changes acts, and the parameter record is dirtied (R196). -/
theorem exec_limit (h : s.taken .C (.setParameter .C n v) = some tag) (howner : paramOwner n = some .C)
    (hne : s.params.get n ≠ paramStored n v) :
    exec (.setParameter .C n v) s = .next (((s.limited n v).actOnLimit n).limitSet tag n v) := exec_setParameter h howner hne

/-! ### The lock idle limit -/

/-- The locks at or beyond the new limit. -/
def expiredLocks (s : State) (v : Nat) : List Nat := (List.range 512).filter (s.limited 8 v).lockDue

theorem mem_expiredLocks : a ∈ expiredLocks s v ↔ a < 512 ∧ (s.asm a).holder ≠ none ∧ paramStored 8 v ≤ (s.asm a).idle := by
  unfold expiredLocks
  rw [List.mem_filter, List.mem_range]
  have hdue : (s.limited 8 v).lockDue a = ((s.asm a).holder.isSome && decide (paramStored 8 v ≤ (s.asm a).idle)) := rfl
  simp [hdue, Option.isSome_iff_ne_none]

theorem expiredLocks_nodup (s : State) (v : Nat) : (expiredLocks s v).Nodup := List.nodup_range.filter _

/-- What the expired locks report, in the order of their numbers. -/
theorem expiredLocks_notices (s : State) (v : Nat) : (expiredLocks s v).flatMap (expiryNotices s) =
    (List.range 512).flatMap fun a => if paramStored 8 v ≤ (s.asm a).idle then expiryNotices s a else [] := by
  unfold expiredLocks
  rw [flatMap_filter_eq]
  refine List.flatMap_congr fun a _ => ?_
  have hdue : (s.limited 8 v).lockDue a = ((s.asm a).holder.isSome && decide (paramStored 8 v ≤ (s.asm a).idle)) := rfl
  rw [hdue]
  cases hp : (s.asm a).holder with
  | none => simp [expiryNotices, hp]
  | some p => simp

/-- The subject of the session alone is MEASURING. -/
theorem measuring_unique (hs : SessionLaw s) (ha : (s.asm a).state = .measuring) (hb : (s.asm b).state = .measuring) : a = b := by
  obtain ⟨-, k, l, hka⟩ := hs.2 a ha
  obtain ⟨-, k', l', hkb⟩ := hs.2 b hb
  rw [hka] at hkb
  cases hkb
  rfl

/-- A changed lock idle limit (R16). -/
theorem lockLimit_acts (h : s.taken .C (.setParameter .C 8 v) = some tag) (hne : s.params.lockIdleLimit ≠ paramStored 8 v) :
    ∃ t, exec (.setParameter .C 8 v) s = .next t ∧
      t = { s with
        params := t.params, atb := t.atb, ocu := t.ocu, rfs := t.rfs, rst := t.rst, ports := t.ports } ∧
      (∀ a, a < 512 → ((s.asm a).holder = none ∨ (s.asm a).idle < paramStored 8 v → t.asm a = s.asm a) ∧
        ((s.asm a).holder ≠ none → paramStored 8 v ≤ (s.asm a).idle → (s.asm a).state ≠ .measuring →
          t.asm a = { s.asm a with holder := none, idle := 0 })) ∧
      (SessionLaw s → t.ports = ((s.placed ((List.range 512).flatMap fun a =>
          if paramStored 8 v ≤ (s.asm a).idle then expiryNotices s a else [])).replied .C
            (okReply tag (decide (paramStored 8 v ≠ v)) (.parameter 8 (paramStored 8 v)))).ports ∧
        ((∀ a, a < 512 → (s.asm a).state = .measuring → (s.asm a).idle < paramStored 8 v) →
          t.ocu = s.ocu ∧ t.rfs = s.rfs ∧ Dirties s t [paramsKey]) ∧
        ∀ a r, a < 512 → (s.asm a).prior = some r → (s.asm a).state = .measuring → paramStored 8 v ≤ (s.asm a).idle →
          t.asm a = { s.asm a with state := r.toState, prior := none, holder := none, idle := 0 } ∧ t.ocu = none ∧
          (s.rfs.staged = none → t.rfs = s.rfs ∧ Dirties s t [paramsKey]) ∧
          ∀ c, s.rfs.staged = some c → t.rfs = { s.rfs with curve := c, staged := none } ∧
            Dirties s t [curveKey, paramsKey]) := by
  have hmem : ∀ {a}, a ∈ expiredLocks s v ↔ a < 512 ∧ (s.asm a).holder ≠ none ∧ paramStored 8 v ≤ (s.asm a).idle := mem_expiredLocks
  have hnodup := expiredLocks_nodup s v
  have hact : (s.limited 8 v).actOnLimit 8 = (expiredLocks s v).foldl State.expireLock (s.limited 8 v) := rfl
  obtain ⟨w, hw⟩ : ∃ w, w = (expiredLocks s v).foldl State.expireLock (s.limited 8 v) := ⟨_, rfl⟩
  have hlimited : ∀ a, (s.limited 8 v).asm a = s.asm a := fun _ => rfl
  have hwframe := foldl_expireLock_parts (expiredLocks s v) (s.limited 8 v)
  rw [← hw] at hwframe
  obtain ⟨hframe, hports⟩ := limitSet_frame w tag 8 v
  obtain ⟨t, ht⟩ : ∃ t, t = w.limitSet tag 8 v := ⟨_, rfl⟩
  have hDirties : ∀ {l}, Dirties (s.limited 8 v) w l → paramsKey ∉ l → Dirties s t (l ++ [paramsKey]) := fun hd hk =>
    ht ▸ limitSet_dirties (s := s) hd hk
  rw [← ht] at hframe hports
  have hasm : ∀ a, t.asm a = w.asm a := fun a => by rw [hframe]; rfl
  refine ⟨t, by rw [exec_limit h rfl hne, hact, ← hw, ht], ?_, fun a ha => ⟨fun hkept => ?_, fun hp hidle hm => ?_⟩, fun hs =>
    ⟨?_, fun hbelow => ?_, fun a r ha hr hm hidle => ?_⟩⟩
  · rw [hframe, hwframe]
    rfl
  · rw [hasm, hw, foldl_expireLock_other fun hmem' => ?_, hlimited]
    obtain ⟨-, hp, hidle⟩ := hmem.mp hmem'
    exact hkept.elim hp fun hlt => absurd hidle (Nat.not_le.mpr hlt)
  · rw [hasm, hw, foldl_expireLock_idle (w := s.limited 8 v) hnodup (hmem.mpr ⟨ha, hp, hidle⟩) ha hp hm, hlimited]
  · have hplaced := foldl_expireLock_ports (w := s.limited 8 v) hnodup (fun a ha => (hmem.mp ha).1) fun a _ b _ ham hbm =>
      measuring_unique hs ham hbm
    have hnotices : expiryNotices (s.limited 8 v) = expiryNotices s := rfl
    rw [hports, hw, hplaced, hnotices, expiredLocks_notices]
    simp [State.limited, State.setParams]
  · obtain ⟨hocu, hrfs, hrst⟩ := foldl_expireLock_session (w := s.limited 8 v) hnodup fun a ha hm => by
      obtain ⟨hlt, -, hidle⟩ := hmem.mp ha
      exact absurd hidle (Nat.not_le.mpr (hbelow a hlt hm))
    rw [← hw] at hocu hrfs hrst
    exact ⟨by rw [hframe]; exact hocu, by rw [hframe]; exact hrfs, hDirties (dirties_nil hrst) (by simp)⟩
  · obtain ⟨-, k, l, hocu⟩ := hs.2 a hm
    obtain ⟨-, hp⟩ := hs.1 a k l hocu
    have hp : (s.asm a).holder ≠ none := by simp [hp]
    obtain ⟨hrec, hnone, hquiet, hcurve⟩ := foldl_expireLock_abort (w := s.limited 8 v) hnodup (hmem.mpr ⟨ha, hp, hidle⟩) ha
      (fun b _ hbm => measuring_unique hs hbm hm) hm hp hr hocu
    rw [← hw] at hrec hnone hquiet hcurve
    refine ⟨by rw [hasm, hrec, hlimited], by rw [hframe]; exact hnone, fun hn => ?_, fun c hc => ?_⟩
    · obtain ⟨hrfs, hd⟩ := hquiet hn
      exact ⟨by rw [hframe]; exact hrfs, hDirties hd (by simp)⟩
    · obtain ⟨hrfs, hd⟩ := hcurve c hc
      exact ⟨by rw [hframe]; exact hrfs, hDirties hd (by decide)⟩

/-! ### The open-time limit -/

/-- The drawers left open that the new limit reports. -/
def overdueDrawers (s : State) (v : Nat) : List Nat := (List.range 64).filter (s.limited 7 v).openDue

theorem drc_of_rest (hq : w.drc.queue = s.drc.queue) (hd : w.drc.driver = s.drc.driver) :
    w.drc = { s.drc with drawers := w.drc.drawers } := by
  show w.drc = ⟨w.drc.drawers, s.drc.queue, s.drc.driver⟩
  rw [← hq, ← hd]

theorem foldl_reportLeftOpen_eq (l : List Nat) (w : State) :
    (∀ e, (l.foldl State.reportLeftOpen w).drawer e =
      if e ∈ l ∧ e < 64 then { w.drawer e with openReported := true } else w.drawer e) ∧
    (l.foldl State.reportLeftOpen w).ports = w.ports.placeAll (l.map fun d => (.C, .drawerLeftOpen d (w.op d).isSome)) := by
  induction l generalizing w with
  | nil => exact ⟨fun _ => by simp, rfl⟩
  | cons d l ih =>
    obtain ⟨hdrawer, hports⟩ := ih (w.reportLeftOpen d)
    have hone : ∀ e, (w.reportLeftOpen d).drawer e =
        if d = e ∧ d < 64 then { w.drawer d with openReported := true } else w.drawer e := fun e => by
      unfold State.reportLeftOpen
      rw [notify_drawer, State.setDrawer_drawer]
    have hop : ∀ e, (w.reportLeftOpen d).op e = w.op e := fun e => by simp [State.reportLeftOpen]
    refine ⟨fun e => ?_, ?_⟩
    · rw [List.foldl_cons, hdrawer, hone]
      by_cases hde : d = e
      · subst hde
        by_cases h64 : d < 64 <;> simp [h64]
      · simp [hde, Ne.symm hde]
    · rw [List.foldl_cons, hports]
      simp only [hop]
      simp [State.reportLeftOpen]

/-- A changed open-time limit (R85). -/
theorem openLimit_acts (h : s.taken .C (.setParameter .C 7 v) = some tag) (hne : s.params.openLimit ≠ paramStored 7 v) :
    ∃ t, exec (.setParameter .C 7 v) s = .next t ∧ Dirties s t [paramsKey] ∧
      t = { s with params := t.params, drc := { s.drc with drawers := t.drc.drawers }, rst := t.rst, ports := t.ports } ∧
      (∀ d, d < 64 → t.drawer d = { s.drawer d with
        openReported := (s.drawer d).openReported || (decide ((s.drawer d).state = .opened)
          && decide (paramStored 7 v * 1000 ≤ (s.drawer d).openTimer)) }) ∧
      t.ports = ((s.placed ((List.range 64).flatMap fun d =>
        if (s.drawer d).state = .opened ∧ (s.drawer d).openReported = false ∧
          paramStored 7 v * 1000 ≤ (s.drawer d).openTimer then [(.C, .drawerLeftOpen d (s.op d).isSome)]
        else [])).replied .C (okReply tag (decide (paramStored 7 v ≠ v)) (.parameter 7 (paramStored 7 v)))).ports := by
  have hact : (s.limited 7 v).actOnLimit 7 = (overdueDrawers s v).foldl State.reportLeftOpen (s.limited 7 v) := rfl
  have hdue : ∀ d, (s.limited 7 v).openDue d = (decide ((s.drawer d).state = .opened) && !(s.drawer d).openReported
      && decide (paramStored 7 v * 1000 ≤ (s.drawer d).openTimer)) := fun _ => rfl
  have hmem : ∀ {d}, d ∈ overdueDrawers s v ↔ d < 64 ∧ (s.limited 7 v).openDue d = true := fun {d} => by
    rw [overdueDrawers, List.mem_filter, List.mem_range]
  obtain ⟨w, hw⟩ : ∃ w, w = (overdueDrawers s v).foldl State.reportLeftOpen (s.limited 7 v) := ⟨_, rfl⟩
  obtain ⟨hdrawer, hwports⟩ := foldl_reportLeftOpen_eq (overdueDrawers s v) (s.limited 7 v)
  have hwframe : w = { s with
      params := w.params, drc := { s.drc with drawers := w.drc.drawers }, ports := w.ports } := by
    rw [hw]
    refine eq_of_parts ?_ ?_ ?_ (drc_of_rest ?_ ?_) ?_ ?_ ?_ ?_ ?_ ?_ ?_ ?_ ?_ <;> simp [State.limited, State.setParams]
  rw [← hw] at hdrawer hwports
  obtain ⟨hframe, hports⟩ := limitSet_frame w tag 7 v
  have hd : Dirties s (w.limitSet tag 7 v) [paramsKey] := limitSet_dirties (l := []) (dirties_nil (by rw [hwframe])) (by simp)
  obtain ⟨t, ht⟩ : ∃ t, t = w.limitSet tag 7 v := ⟨_, rfl⟩
  rw [← ht] at hframe hports hd
  refine ⟨t, by rw [exec_limit h rfl hne, hact, ← hw, ht], hd, ?_, fun d hlt => ?_, ?_⟩
  · rw [hframe, hwframe]
  · have htd : t.drawer d = w.drawer d := by rw [hframe]; rfl
    have hlimited : (s.limited 7 v).drawer d = s.drawer d := rfl
    rw [htd, hdrawer, hlimited]
    by_cases hreport : d ∈ overdueDrawers s v
    · obtain ⟨-, hover⟩ := hmem.mp hreport
      obtain ⟨⟨hst, -⟩, htime⟩ : ((s.drawer d).state = .opened ∧ (s.drawer d).openReported = false) ∧
          paramStored 7 v * 1000 ≤ (s.drawer d).openTimer := by simpa [hdue] using hover
      rw [if_pos ⟨hreport, hlt⟩]
      simp [hst, htime]
    · have hno : ((s.drawer d).openReported || (decide ((s.drawer d).state = .opened)
          && decide (paramStored 7 v * 1000 ≤ (s.drawer d).openTimer))) = (s.drawer d).openReported := by
        have hnot : (s.limited 7 v).openDue d = false := by simpa [hlt] using fun h => hreport (hmem.mpr ⟨hlt, h⟩)
        rw [hdue] at hnot
        revert hnot
        cases (s.drawer d).openReported <;> simp
      rw [if_neg fun hin => hreport hin.1, hno]
  · have hnotices : (overdueDrawers s v).map (fun d => (Port.C, Notice.drawerLeftOpen d (s.op d).isSome)) =
        (List.range 64).flatMap fun d => if (s.drawer d).state = .opened ∧ (s.drawer d).openReported = false ∧
          paramStored 7 v * 1000 ≤ (s.drawer d).openTimer then [(Port.C, Notice.drawerLeftOpen d (s.op d).isSome)] else [] := by
      rw [List.map_eq_flatMap, overdueDrawers, flatMap_filter_eq]
      refine List.flatMap_congr fun d _ => ?_
      simp [hdue, and_assoc]
    have hsame : ((overdueDrawers s v).map fun d => (Port.C, Notice.drawerLeftOpen d ((s.limited 7 v).op d).isSome)) =
        (overdueDrawers s v).map fun d => (Port.C, Notice.drawerLeftOpen d (s.op d).isSome) := rfl
    rw [hports, hwports, hsame, hnotices, replied_ports_eq, placed_ports_eq]
    rfl

/-! ### The discard limit -/

/-- The slots that the new limit frees. -/
def discardedSlots (s : State) (v : Nat) : List Nat := (List.range 4).filter (s.limited 9 v).discardDue

theorem foldl_freeSlot_slot (l : List Nat) (w : State) (n : Nat) :
    (l.foldl State.freeSlot w).slot n = if n ∈ l ∧ n < 4 then .free else w.slot n := by
  induction l generalizing w with
  | nil => simp
  | cons m l ih =>
    have hone : (w.freeSlot m).slot n = if m = n ∧ m < 4 then .free else w.slot n := State.setSlot_slot _ _ _ _
    rw [List.foldl_cons, ih, hone]
    by_cases hmn : m = n
    · subst hmn
      by_cases h4 : m < 4 <;> simp [h4]
    · simp [hmn, Ne.symm hmn]

theorem foldl_freeSlot_parts (l : List Nat) (w : State) : l.foldl State.freeSlot w = { w with
    hob := { w.hob with slots := (l.foldl State.freeSlot w).hob.slots } } := by
  induction l generalizing w with
  | nil => rfl
  | cons m l ih => rw [List.foldl_cons, ih (w.freeSlot m)]; rfl

/-- A changed discard limit (R169). -/
theorem discardLimit_acts (h : s.taken .C (.setParameter .C 9 v) = some tag) (hne : s.params.discardLimit ≠ paramStored 9 v) :
    ∃ t, exec (.setParameter .C 9 v) s = .next t ∧ Dirties s t [paramsKey] ∧
      t = { s.replied .C (okReply tag (decide (paramStored 9 v ≠ v)) (.parameter 9 (paramStored 9 v))) with
        params := t.params, hob := { s.hob with slots := t.hob.slots }, rst := t.rst } ∧
      ∀ n, t.slot n = match s.slot n with
      | .complete h b x => if paramStored 9 v ≤ x then .free else .complete h b x
      | y => y := by
  have hact : (s.limited 9 v).actOnLimit 9 = (discardedSlots s v).foldl State.freeSlot (s.limited 9 v) := rfl
  have hmem : ∀ {n}, n ∈ discardedSlots s v ↔ n < 4 ∧ ∃ h b x, s.slot n = .complete h b x ∧ paramStored 9 v ≤ x := fun {n} => by
    rw [discardedSlots, List.mem_filter, List.mem_range, discardDue_iff]
    rfl
  obtain ⟨w, hw⟩ : ∃ w, w = (discardedSlots s v).foldl State.freeSlot (s.limited 9 v) := ⟨_, rfl⟩
  have hslot := foldl_freeSlot_slot (discardedSlots s v) (s.limited 9 v)
  have hwframe := foldl_freeSlot_parts (discardedSlots s v) (s.limited 9 v)
  rw [← hw] at hslot hwframe
  obtain ⟨hframe, hports⟩ := limitSet_frame w tag 9 v
  have hd : Dirties s (w.limitSet tag 9 v) [paramsKey] :=
    limitSet_dirties (l := []) (dirties_nil (by rw [hwframe]; rfl)) (by simp)
  obtain ⟨t, ht⟩ : ∃ t, t = w.limitSet tag 9 v := ⟨_, rfl⟩
  rw [← ht] at hframe hports hd
  have hwports : w.ports = s.ports := by rw [hwframe]; rfl
  refine ⟨t, by rw [exec_limit h rfl hne, hact, ← hw, ht], hd, ?_, fun n => ?_⟩
  · rw [hframe, hports, hwports, hwframe]
    refine eq_of_parts ?_ ?_ ?_ ?_ ?_ ?_ ?_ ?_ ?_ ?_ ?_ ?_ ?_ <;> simp [State.limited, State.setParams]
  · have htn : t.slot n = w.slot n := by rw [hframe]; rfl
    have hlimited : (s.limited 9 v).slot n = s.slot n := rfl
    rw [htn, hslot, hlimited]
    by_cases hfree : n ∈ discardedSlots s v
    · obtain ⟨h4, g, b, x, hs, hx⟩ := hmem.mp hfree
      rw [if_pos ⟨hfree, h4⟩, hs]
      exact (if_pos hx).symm
    · rw [if_neg fun hin => hfree hin.1]
      cases hs : s.slot n with
      | complete g b x =>
        have hx : ¬ paramStored 9 v ≤ x := fun hx => hfree (hmem.mpr ⟨slot_lt (by rw [hs]; nofun), g, b, x, hs, hx⟩)
        exact (if_neg hx).symm
      | free => rfl
      | building g => rfl

/-- Settles O15, by the timers of each of the three limits. -/
theorem loweredLimitsActAtOnce : Obligations.LoweredLimitsActAtOnce := by
  unfold Obligations.LoweredLimitsActAtOnce
  rintro v tag s rep rfl
  exact ⟨lockLimit_acts, openLimit_acts, discardLimit_acts⟩

end Sys2Proof.Machine
end

section
/-! PROOFS. The keys that the load dirties (R186). -/

namespace Sys2Proof.Machine

open Sys2Proof

variable {s t w : State} {a c d k n p : Nat}

/-! ### Where records differ -/

theorem mem_differAt {α : Type} [DecidableEq α] {l m : List α} (hlen : l.length = m.length) :
    k ∈ differAt n l m ↔ ∃ i, i < l.length ∧ k = n + i ∧ l[i]? ≠ m[i]? := by
  induction l generalizing m n with
  | nil => simp [differAt]
  | cons x l ih =>
    cases m with
    | nil => cases hlen
    | cons y m =>
      have hlen : l.length = m.length := Nat.succ_injective hlen
      have hrest : (∃ i, i < l.length ∧ k = n + 1 + i ∧ l[i]? ≠ m[i]?) ↔
          ∃ i, i < l.length ∧ k = n + (i + 1) ∧ (x :: l)[i + 1]? ≠ (y :: m)[i + 1]? := by
        simp only [List.getElem?_cons_succ, Nat.add_assoc, Nat.add_comm 1]
      have hsplit : (∃ i, i < (x :: l).length ∧ k = n + i ∧ (x :: l)[i]? ≠ (y :: m)[i]?) ↔
          (k = n ∧ x ≠ y) ∨ ∃ i, i < l.length ∧ k = n + (i + 1) ∧ (x :: l)[i + 1]? ≠ (y :: m)[i + 1]? := by
        constructor
        · rintro ⟨i, hi, hk, hne⟩
          cases i with
          | zero => exact .inl ⟨hk, by simpa using hne⟩
          | succ i => exact .inr ⟨i, Nat.lt_of_succ_lt_succ hi, hk, hne⟩
        · rintro (⟨hk, hne⟩ | ⟨i, hi, hk, hne⟩)
          · exact ⟨0, Nat.succ_pos _, hk, by simpa using hne⟩
          · exact ⟨i + 1, Nat.succ_lt_succ hi, hk, hne⟩
      rw [hsplit, ← hrest, ← ih hlen]
      have hdiffer : differAt n (x :: l) (y :: m) = if x = y then differAt (n + 1) l m else n :: differAt (n + 1) l m := rfl
      rw [hdiffer]
      split
      · next h => simp [h]
      · next h => simp [h]

/-- The entries of two tables differ under `f` where their lists do. -/
theorem toList_map_ne_iff {α β : Type} {m : Nat} (f : α → β) (e : α) (v u : Vector α m) {i : Nat} (hi : i < m) :
    (v.toList.map f)[i]? ≠ (u.toList.map f)[i]? ↔ f (tget e v i) ≠ f (tget e u i) := by
  have hget : ∀ x : Vector α m, (x.toList.map f)[i]? = some (f (tget e x i)) := fun x => by
    simp [tget, List.getD_eq_getElem?_getD, hi]
  rw [hget, hget]
  simp

/-- The keys of the records that a cross-check changed. -/
theorem mem_changedKeys : k ∈ s.changedKeys t ↔ (k < 512 ∧ (s.asm k).view ≠ (t.asm k).view) ∨
    (∃ d, d < 64 ∧ k = 512 + d ∧ (s.drawer d).mark ≠ (t.drawer d).mark) ∨ (k = curveKey ∧ s.rfs.active ≠ t.rfs.active) := by
  unfold State.changedKeys
  rw [List.mem_append, List.mem_append, mem_differAt (by simp), mem_differAt (by simp), or_assoc]
  refine or_congr ?_ (or_congr ?_ ?_)
  · constructor
    · rintro ⟨i, hi, rfl, hne⟩
      have hi : i < 512 := by simpa using hi
      rw [toList_map_ne_iff AsmRecord.view (blankRecord .vacant) _ _ hi] at hne
      rw [Nat.zero_add]
      exact ⟨hi, hne⟩
    · rintro ⟨hk, hne⟩
      exact ⟨k, by simpa using hk, (Nat.zero_add k).symm, (toList_map_ne_iff AsmRecord.view (blankRecord .vacant) _ _ hk).mpr hne⟩
  · refine exists_congr fun i => ?_
    constructor
    · rintro ⟨hi, rfl, hne⟩
      have hi : i < 64 := by simpa using hi
      exact ⟨hi, rfl, (toList_map_ne_iff Drawer.mark State.noDrawer _ _ hi).mp hne⟩
    · rintro ⟨hi, rfl, hne⟩
      exact ⟨by simpa using hi, rfl, (toList_map_ne_iff Drawer.mark State.noDrawer _ _ hi).mpr hne⟩
  · split
    · next h => simp [h]
    · next h => simp [h]

/-! ### The cross-checks one after the other (R184, R185) -/

theorem checkReferences_asm (s : State) (a : Nat) :
    s.checkReferences.asm a = if s.namesInvalid (s.asm a) then (s.asm a).clearMark else s.asm a := by
  have h := tget_tmap (fun r : AsmRecord => if s.namesInvalid r then r.clearMark else r) (blankRecord .vacant) s.atb a
  exact h

theorem checkActive_rfs (s : State) : s.checkActive.rfs = { s.rfs with active := s.checkActive.rfs.active } ∧
    (s.rfs.active = none → s.checkActive.rfs.active = none) ∧
    ∀ k, s.rfs.active = some k → s.checkActive.rfs.active = if (s.refSet k).certified then some k else none := by
  unfold State.checkActive
  cases h : s.rfs.active with
  | none => exact ⟨rfl, fun _ => h, nofun⟩
  | some k =>
    dsimp only
    split
    · next hc => exact ⟨rfl, nofun, fun j hj => by cases hj; rw [h, if_pos hc]⟩
    · next hc => exact ⟨rfl, nofun, fun j hj => by cases hj; rw [if_neg hc]; rfl⟩

/-- A record is placed, or lost, in its own turn alone. -/
theorem placeBinding_asm (s : State) (a b : Nat) : (s.placeBinding a).asm b = s.asm b ∨
    a = b ∧ ((s.asm b).state = .issued ∨ (s.asm b).state = .exhausted) ∧ (s.placeBinding a).asm b = (s.asm b).enter .lost := by
  have hlost : ∀ (hb : (s.asm a).state = .issued ∨ (s.asm a).state = .exhausted), (s.setAsm a ((s.asm a).enter .lost)).asm b = s.asm b ∨
      a = b ∧ ((s.asm b).state = .issued ∨ (s.asm b).state = .exhausted) ∧
        (s.setAsm a ((s.asm a).enter .lost)).asm b = (s.asm b).enter .lost := fun hb => by
    rw [State.setAsm_asm]
    split
    · next h => exact .inr ⟨h.1, h.1 ▸ hb, by rw [h.1]⟩
    · exact .inl rfl
  unfold State.placeBinding
  dsimp only
  split
  · next hb =>
    split
    · split
      · exact .inl rfl
      · exact hlost hb
    · exact hlost hb
  · exact .inl rfl

/-- The binding placement leaves a record, or makes a bound one LOST. -/
theorem foldl_placeBinding_asm {l : List Nat} (hl : l.Nodup) (s : State) (b : Nat) :
    (l.foldl State.placeBinding s).asm b = s.asm b ∨ b ∈ l ∧ ((s.asm b).state = .issued ∨ (s.asm b).state = .exhausted) ∧
      (l.foldl State.placeBinding s).asm b = (s.asm b).enter .lost := by
  induction l generalizing s with
  | nil => exact .inl rfl
  | cons a l ih =>
    obtain ⟨hal, hl⟩ := List.nodup_cons.mp hl
    rw [List.foldl_cons]
    rcases placeBinding_asm s a b with hsame | ⟨rfl, hb, hlost⟩
    · rcases ih hl (s.placeBinding a) with h | ⟨hmem, hb, h⟩
      · exact .inl (h.trans hsame)
      · rw [hsame] at hb h
        exact .inr ⟨List.mem_cons_of_mem _ hmem, hb, h⟩
    · rcases ih hl (s.placeBinding a) with h | ⟨hmem, -, -⟩
      · exact .inr ⟨List.mem_cons_self, hb, h.trans hlost⟩
      · exact absurd hmem hal

theorem placeBindings_asm (s : State) (a : Nat) : s.placeBindings.asm a = s.asm a ∨
    ((s.asm a).state = .issued ∨ (s.asm a).state = .exhausted) ∧ s.placeBindings.asm a = (s.asm a).enter .lost :=
  (foldl_placeBinding_asm List.nodup_range s a).imp id fun ⟨_, hb, h⟩ => ⟨hb, h⟩

/-! ### The stock cross-check (R185) -/

namespace State

/-- The stock of drawer `d` does not stand. -/
def stockFalls (s : State) (d : Nat) : Bool :=
  match (s.drawer d).stock with
  | some a => !s.stockStands d a
  | none => false

/-- Assembly `a` names drawer `d`, which does not name it. -/
def unnamed (s : State) (a d : Nat) : Bool := decide ((s.asm a).stock = some d) && decide ((s.drawer d).stock ≠ some a)

/-- The drawer that assembly `a` names does not name it. -/
def asmFalls (s : State) (a : Nat) : Bool :=
  match (s.asm a).stock with
  | some d => s.unnamed a d
  | none => false

end State

theorem checkDrawerStock_eq (s : State) (d : Nat) :
    s.checkDrawerStock d = if s.stockFalls d then s.setStock d none true else s := by
  unfold State.checkDrawerStock State.stockFalls
  cases (s.drawer d).stock with
  | none => rfl
  | some a => cases h : s.stockStands d a <;> simp [h]

theorem stockFalls_lt (h : s.stockFalls d = true) : d < 64 := by
  by_contra hd
  have hno : s.drawer d = State.noDrawer := tget_beyond _ _ _ (Nat.not_lt.mp hd)
  simp [State.stockFalls, hno, State.noDrawer, restDrawer] at h

/-- The drawers' half of the stock cross-check: each drawer whose stock falls loses it and is marked. -/
theorem foldl_checkDrawerStock_drawer {l : List Nat} (hl : l.Nodup) (s : State) (e : Nat) :
    (l.foldl State.checkDrawerStock s).drawer e =
      if e ∈ l ∧ s.stockFalls e = true then { s.drawer e with stock := none, mismatch := true } else s.drawer e := by
  induction l generalizing s with
  | nil => simp
  | cons d l ih =>
    obtain ⟨hdl, hl⟩ := List.nodup_cons.mp hl
    have hone : (s.checkDrawerStock d).drawer e =
        if d = e ∧ s.stockFalls e = true then { s.drawer e with stock := none, mismatch := true } else s.drawer e := by
      rw [checkDrawerStock_eq]
      by_cases hde : d = e
      · subst hde
        by_cases hf : s.stockFalls d = true
        · simp [hf, State.setStock, State.setDrawer_drawer, stockFalls_lt hf]
        · simp [hf]
      · split <;> simp [State.setStock, State.setDrawer_drawer, hde]
    have hfalls : d ≠ e → (s.checkDrawerStock d).stockFalls e = s.stockFalls e := fun hde => by
      unfold State.stockFalls State.stockStands
      rw [hone, if_neg fun h => hde h.1]
      simp
    rw [List.foldl_cons, ih hl, hone]
    by_cases hde : d = e
    · subst hde
      simp [hdl]
    · rw [hfalls hde]
      simp [hde, Ne.symm hde]

theorem asm_stock_lt (h : (s.asm a).stock = some d) : a < 512 := by
  by_contra ha
  have hno : s.asm a = blankRecord .vacant := tget_beyond _ _ _ (Nat.not_lt.mp ha)
  rw [hno] at h
  cases h

/-- The assembly's half of the stock cross-check, for one assembly. -/
theorem checkAsmStock_one (s : State) (a : Nat) :
    (∀ b, (s.checkAsmStock a).asm b = if a = b ∧ s.asmFalls b = true then { s.asm b with stock := none } else s.asm b) ∧
    ∀ d, d < 64 → (s.checkAsmStock a).drawer d = { s.drawer d with mismatch := (s.drawer d).mismatch || s.unnamed a d } := by
  unfold State.checkAsmStock
  cases hstock : (s.asm a).stock with
  | none =>
    refine ⟨fun b => ?_, fun d _ => ?_⟩
    · rw [if_neg]
      rintro ⟨rfl, h⟩
      simp [State.asmFalls, hstock] at h
    · simp [State.unnamed, hstock]
  | some e =>
    dsimp only
    by_cases he : (s.drawer e).stock = some a
    · rw [if_pos he]
      refine ⟨fun b => ?_, fun d _ => ?_⟩
      · rw [if_neg]
        rintro ⟨rfl, h⟩
        simp [State.asmFalls, State.unnamed, hstock, he] at h
      · by_cases hed : e = d
        · subst hed
          have hnamed : s.unnamed a e = false := by simp [State.unnamed, he]
          simp [hnamed]
        · simp [State.unnamed, hstock, hed]
    · rw [if_neg he]
      have ha := asm_stock_lt hstock
      refine ⟨fun b => ?_, fun d hd => ?_⟩
      · by_cases hab : a = b
        · subst hab
          simp [State.asmFalls, State.unnamed, hstock, he, State.setStock, State.setAsm_asm, ha]
        · simp [hab, State.setStock, State.setAsm_asm]
      · by_cases hed : e = d
        · subst hed
          simp [State.unnamed, hstock, he, State.setStock, State.setDrawer_drawer, hd]
        · simp [State.unnamed, hstock, hed, State.setStock, State.setDrawer_drawer]

/-- The assemblies' half of the stock cross-check: each assembly that its drawer does not name loses its stock, and the drawer
is marked. -/
theorem foldl_checkAsmStock_eq {l : List Nat} (hl : l.Nodup) (s : State) :
    (∀ b, (l.foldl State.checkAsmStock s).asm b =
      if b ∈ l ∧ s.asmFalls b = true then { s.asm b with stock := none } else s.asm b) ∧
    ∀ d, d < 64 → (l.foldl State.checkAsmStock s).drawer d =
      { s.drawer d with mismatch := (s.drawer d).mismatch || l.any fun a => s.unnamed a d } := by
  induction l generalizing s with
  | nil => exact ⟨fun _ => by simp, fun _ _ => by simp⟩
  | cons a l ih =>
    obtain ⟨hal, hl⟩ := List.nodup_cons.mp hl
    obtain ⟨hasm, hdrawer⟩ := checkAsmStock_one s a
    have hstock : ∀ d, ((s.checkAsmStock a).drawer d).stock = (s.drawer d).stock := fun d => by
      by_cases hd : d < 64
      · rw [hdrawer d hd]
      · have hno : ∀ v : State, v.drawer d = State.noDrawer := fun v => tget_beyond _ _ _ (Nat.not_lt.mp hd)
        rw [hno, hno]
    have hother : ∀ b, b ≠ a → (s.checkAsmStock a).asm b = s.asm b := fun b hb => by
      rw [hasm, if_neg fun h => hb h.1.symm]
    have hunnamed : ∀ b d, b ≠ a → (s.checkAsmStock a).unnamed b d = s.unnamed b d := fun b d hb => by
      simp only [State.unnamed, hother b hb, hstock]
    have hfalls : ∀ b, b ≠ a → (s.checkAsmStock a).asmFalls b = s.asmFalls b := fun b hb => by
      unfold State.asmFalls
      rw [hother b hb]
      cases (s.asm b).stock with
      | none => rfl
      | some d => exact hunnamed b d hb
    obtain ⟨hasm', hdrawer'⟩ := ih hl (s.checkAsmStock a)
    refine ⟨fun b => ?_, fun d hd => ?_⟩
    · rw [List.foldl_cons, hasm', hasm]
      by_cases hb : b = a
      · subst hb
        simp [hal]
      · rw [hfalls b hb]
        simp [hb, Ne.symm hb]
    · have hany : (l.any fun b => (s.checkAsmStock a).unnamed b d) = l.any fun b => s.unnamed b d := by
        rw [Bool.eq_iff_iff, List.any_eq_true, List.any_eq_true]
        exact exists_congr fun b => and_congr_right fun hb => by rw [hunnamed b d fun h => hal (h ▸ hb)]
      rw [List.foldl_cons, hdrawer' d hd, hdrawer d hd, hany]
      simp [Bool.or_assoc]

/-- The stock cross-check, from the state in which it begins (R185). -/
theorem checkStock_eq (s : State) : ∃ v : State, (∀ a, v.asm a = s.asm a) ∧
    (∀ d, d < 64 → v.drawer d = if s.stockFalls d = true then { s.drawer d with stock := none, mismatch := true } else s.drawer d) ∧
    (∀ a, s.checkStock.asm a = if v.asmFalls a = true then { s.asm a with stock := none } else s.asm a) ∧
    ∀ d, d < 64 → s.checkStock.drawer d =
      { v.drawer d with mismatch := (v.drawer d).mismatch || (List.range 512).any fun a => v.unnamed a d } := by
  obtain ⟨v, hv⟩ : ∃ v, v = (List.range 64).foldl State.checkDrawerStock s := ⟨_, rfl⟩
  have hasm : ∀ a, v.asm a = s.asm a := fun a => by rw [hv]; simp
  obtain ⟨hasm', hdrawer'⟩ := foldl_checkAsmStock_eq List.nodup_range v
  have hcheck : s.checkStock = (List.range 512).foldl State.checkAsmStock v := by rw [hv]; rfl
  refine ⟨v, hasm, fun d hd => ?_, fun a => ?_, fun d hd => ?_⟩
  · rw [hv, foldl_checkDrawerStock_drawer List.nodup_range]
    simp [hd]
  · rw [hcheck, hasm', hasm]
    by_cases ha : a < 512
    · simp [ha]
    · have hno : v.asmFalls a = false := by
        have hblank : v.asm a = blankRecord .vacant := tget_beyond _ _ _ (Nat.not_lt.mp ha)
        simp [State.asmFalls, hblank, blankRecord]
      simp [hno]
  · rw [hcheck, hdrawer' d hd]

end Sys2Proof.Machine
end

section
/-! PROOFS. The end of the load (O54). -/

namespace Sys2Proof.Machine

open Sys2Proof

variable {s t w : State} {a c d k n p : Nat}

/-! ### The records behind the cross-checks -/

/-- The state in which the stock cross-check begins. -/
def State.placed3 (s : State) : State := s.checkReferences.checkActive.placeBindings.settleDrawers

theorem crossChecked_def (s : State) : s.crossChecked = s.placed3.checkStock := rfl

/-- The fields of a view (R21). -/
theorem view_fields (r : AsmRecord) : r.view.facts = r.facts ∧ r.view.stock = r.stock := ⟨rfl, rfl⟩

theorem view_state {r : AsmRecord} (hm : r.state ≠ .measuring) (hi : r.state ≠ .issuing) : r.view.state = r.state := by
  unfold AsmRecord.view
  dsimp only
  split
  · next h => exact absurd h hm
  · next h => exact absurd h hi
  · rfl

theorem clearMark_self {r : AsmRecord} (h : r.clearMark.facts = r.facts) : r.clearMark = r := by
  have hfacts : r.facts.map (fun f => { f with current := false }) = r.facts := h
  unfold AsmRecord.clearMark
  rw [hfacts]

theorem settleDrawers_asm (s : State) (a : Nat) : s.settleDrawers.asm a = s.asm a := rfl

theorem placed3_asm_eq (s : State) (a : Nat) : s.placed3.asm a = s.checkReferences.checkActive.placeBindings.asm a :=
  settleDrawers_asm _ a

theorem placed3_rfs (s : State) : s.placed3.rfs = s.checkReferences.checkActive.rfs := by
  simp only [State.placed3, settleDrawers_frame, placeBindings_frame]

/-- Up to the stock cross-check a record keeps what step 1 left, or was bound and is LOST. -/
theorem placed3_asm (s : State) (a : Nat) : s.placed3.asm a = s.checkReferences.asm a ∨
    ((s.asm a).state = .issued ∨ (s.asm a).state = .exhausted) ∧ s.placed3.asm a = (s.checkReferences.asm a).enter .lost := by
  have hstate : (s.checkReferences.asm a).state = (s.asm a).state := by
    rw [checkReferences_asm]
    split <;> rfl
  have hactive : s.checkReferences.checkActive.asm a = s.checkReferences.asm a := by simp
  rw [placed3_asm_eq, ← hactive]
  rcases placeBindings_asm s.checkReferences.checkActive a with h | ⟨hb, h⟩
  · exact .inl h
  · rw [hactive, hstate] at hb
    exact .inr ⟨hb, h⟩

theorem placed3_drawer (s : State) (hd : d < 64) : s.placed3.drawer d = State.settleDrawer (s.drawer d) := by
  have hbefore : s.checkReferences.checkActive.placeBindings.drawer d = s.drawer d := by simp
  unfold State.placed3
  rw [settleDrawers_drawer, if_pos hd, hbefore]

/-- The stock cross-check takes stocks away, and touches no other field of a record. -/
theorem crossChecked_asm (s : State) (a : Nat) : s.crossChecked.asm a = s.placed3.asm a ∨
    s.crossChecked.asm a = { s.placed3.asm a with stock := none } := by
  obtain ⟨v, -, -, hasm, -⟩ := checkStock_eq s.placed3
  rw [crossChecked_def, hasm]
  split
  · exact .inr rfl
  · exact .inl rfl

/-- What the cross-checks make of one record: step 1, then step 3, then step 5. -/
def RecordChecked (r r₁ r₃ r₅ : AsmRecord) : Prop :=
  (r₁ = r ∨ r₁ = r.clearMark) ∧ (r₃ = r₁ ∨ (r.state = .issued ∨ r.state = .exhausted) ∧ r₃ = r₁.enter .lost) ∧
    (r₅ = r₃ ∨ r₅ = { r₃ with stock := none })

theorem recordChecked (s : State) (a : Nat) :
    RecordChecked (s.asm a) (s.checkReferences.asm a) (s.placed3.asm a) (s.crossChecked.asm a) := by
  refine ⟨?_, placed3_asm s a, crossChecked_asm s a⟩
  rw [checkReferences_asm]
  split
  · exact .inr rfl
  · exact .inl rfl

/-- A record whose view no cross-check changed in the end is one that none changed (R186). -/
theorem RecordChecked.unchanged {r r₁ r₃ r₅ : AsmRecord} (h : RecordChecked r r₁ r₃ r₅) (hview : r₅.view = r.view) :
    r₁ = r ∧ r₃ = r ∧ r₅ = r := by
  obtain ⟨hrefs, hplaced, hstock⟩ := h
  have hkept : r₅.facts = r₃.facts ∧ r₅.state = r₃.state := by rcases hstock with rfl | rfl <;> exact ⟨rfl, rfl⟩
  have hfacts : r₅.facts = r.facts := by rw [← (view_fields r₅).1, hview, (view_fields r).1]
  have hstocks : r₅.stock = r.stock := by rw [← (view_fields r₅).2, hview, (view_fields r).2]
  rcases hplaced with rfl | ⟨hbound, hlost⟩
  · have hr : r₃ = r := by
      rcases hrefs with hr | hr
      · exact hr
      · rw [hr]
        exact clearMark_self (by rw [← hr, ← hkept.1, hfacts])
    refine ⟨hr, hr, ?_⟩
    rcases hstock with rfl | rfl
    · exact hr
    · subst hr
      have hnone : none = r₃.stock := hstocks
      rw [hnone]
  · have hleft : r₅.state = .lost := by rw [hkept.2, hlost]; rfl
    have hstate : r.view.state = .lost := by
      rw [← hview, view_state (by rw [hleft]; nofun) (by rw [hleft]; nofun), hleft]
    rw [view_state (by rcases hbound with hb | hb <;> rw [hb] <;> nofun) (by rcases hbound with hb | hb <;> rw [hb] <;> nofun)]
      at hstate
    rcases hbound with hb | hb <;> rw [hb] at hstate <;> cases hstate

/-- The keys that the cross-checks dirty: of an assembly, a drawer, or the curve record. -/
theorem mem_checkedKeys : k ∈ s.checkedKeys ↔
    (k < 512 ∧ ((s.asm k).view ≠ (s.checkReferences.asm k).view ∨ (s.checkReferences.asm k).view ≠ (s.placed3.asm k).view ∨
      (s.placed3.asm k).view ≠ (s.crossChecked.asm k).view)) ∨
    (∃ d, d < 64 ∧ k = 512 + d ∧ ((s.drawer d).mark ≠ (s.placed3.drawer d).mark ∨
      (s.placed3.drawer d).mark ≠ (s.crossChecked.drawer d).mark)) ∨
    (k = curveKey ∧ s.rfs.active ≠ s.crossChecked.rfs.active) := by
  have hasm : ∀ a, s.checkReferences.checkActive.asm a = s.checkReferences.asm a := fun a => by simp
  have hsettled : ∀ a, s.checkReferences.checkActive.placeBindings.asm a = s.placed3.asm a := fun a => (placed3_asm_eq s a).symm
  have hdrawer : ∀ d, s.checkReferences.drawer d = s.drawer d ∧ s.checkReferences.checkActive.drawer d = s.drawer d ∧
      s.checkReferences.checkActive.placeBindings.drawer d = s.drawer d := fun d => by simp
  have hrfs : s.checkReferences.rfs = s.rfs ∧ s.checkReferences.checkActive.placeBindings.rfs = s.checkReferences.checkActive.rfs ∧
      s.placed3.rfs = s.checkReferences.checkActive.rfs ∧ s.crossChecked.rfs = s.checkReferences.checkActive.rfs := by
    refine ⟨by simp only [checkReferences_frame], by simp only [placeBindings_frame], placed3_rfs s, ?_⟩
    rw [crossChecked_def, ← placed3_rfs]
    simp only [checkStock_frame]
  have hplaced : s.checkReferences.checkActive.placeBindings.settleDrawers = s.placed3 := rfl
  obtain ⟨hrfs1, hrfs3, hrfs4, hrfs5⟩ := hrfs
  unfold State.checkedKeys
  simp only [hplaced, List.mem_append, mem_changedKeys, hasm, hsettled, hdrawer, hrfs1, hrfs3, hrfs4, hrfs5]
  simp only [ne_eq, not_true_eq_false, and_false, exists_false, or_false, false_or]
  grind

end Sys2Proof.Machine
end

section
/-! PROOFS. LOAD_END starts the part (O54). -/

namespace Sys2Proof.Machine

open Sys2Proof

variable {s t w : State} {a c d k n p : Nat} {cause : Cause} {l : List Nat}

/-! ### The keys to write (R186) -/

theorem drawer_settled (s : State) (hd : d < 64) : (s.placed3.drawer d).mark ≠ (s.drawer d).mark →
    (s.drawer d).levelOpen = false ∧ (s.drawer d).mismatch ≠ decide ((s.drawer d).present ≠ (s.drawer d).stock.isSome) := by
  rw [placed3_drawer s hd]
  unfold State.settleDrawer
  cases hl : (s.drawer d).levelOpen with
  | true => exact fun h => absurd rfl h
  | false =>
    rw [if_neg Bool.false_ne_true]
    refine fun h => ⟨rfl, fun heq => h ?_⟩
    unfold Drawer.mark Drawer.agrees
    rw [heq]
    simp

/-- A key that the cross-checks dirty is of a record that they changed, or of a drawer whose mark was not what its presence
says. -/
theorem checkedKeys_cases (h : k ∈ s.checkedKeys) : (k < 512 ∧ (s.crossChecked.asm k).view ≠ (s.asm k).view) ∨
    (∃ d, d < 64 ∧ k = 512 + d ∧ ((s.crossChecked.drawer d).mark ≠ (s.drawer d).mark ∨ (s.drawer d).levelOpen = false ∧
      (s.drawer d).mismatch ≠ decide ((s.drawer d).present ≠ (s.drawer d).stock.isSome))) ∨
    (k = curveKey ∧ s.crossChecked.rfs.active ≠ s.rfs.active) := by
  rcases mem_checkedKeys.mp h with ⟨hk, hasm⟩ | ⟨d, hd, hk, hdrawer⟩ | ⟨hk, hactive⟩
  · refine .inl ⟨hk, fun hview => ?_⟩
    obtain ⟨h1, h3, h5⟩ := (recordChecked s k).unchanged hview
    rw [h1, h3, h5] at hasm
    simp at hasm
  · refine .inr (.inl ⟨d, hd, hk, ?_⟩)
    by_cases hsettled : (s.placed3.drawer d).mark = (s.drawer d).mark
    · rw [hsettled] at hdrawer
      exact .inl (hdrawer.resolve_left (fun hne => hne rfl)).symm
    · exact .inr (drawer_settled s hd hsettled)
  · exact .inr (.inr ⟨hk, hactive.symm⟩)

theorem checkedKeys_asm (hk : k < 512) (h : (s.crossChecked.asm k).view ≠ (s.asm k).view) : k ∈ s.checkedKeys := by
  refine mem_checkedKeys.mpr (.inl ⟨hk, ?_⟩)
  by_contra hno
  simp only [not_or, ne_eq, not_not] at hno
  obtain ⟨h1, h3, h5⟩ := hno
  exact h (h5.symm.trans (h3.symm.trans h1.symm))

theorem checkedKeys_drawer (hd : d < 64) (h : (s.crossChecked.drawer d).mark ≠ (s.drawer d).mark) : 512 + d ∈ s.checkedKeys := by
  refine mem_checkedKeys.mpr (.inr (.inl ⟨d, hd, rfl, ?_⟩))
  by_contra hno
  simp only [not_or, ne_eq, not_not] at hno
  obtain ⟨h4, h5⟩ := hno
  exact h (h5.symm.trans h4.symm)

theorem checkedKeys_active (h : s.crossChecked.rfs.active ≠ s.rfs.active) : curveKey ∈ s.checkedKeys :=
  mem_checkedKeys.mpr (.inr (.inr ⟨rfl, h.symm⟩))

theorem mem_loadKeys : k ∈ s.loadKeys ↔ k < 598 ∧ (s.readPage k = .failed ∨ k ∈ s.checkedKeys) := by
  unfold State.loadKeys State.failedKeys
  simp only [List.mem_filter, List.mem_range, Bool.or_eq_true, decide_eq_true_eq]
  constructor
  · rintro ⟨hk, ⟨-, hf⟩ | hc⟩
    · exact ⟨hk, .inl hf⟩
    · exact ⟨hk, .inr hc⟩
  · rintro ⟨hk, hf | hc⟩
    · exact ⟨hk, .inl ⟨hk, hf⟩⟩
    · exact ⟨hk, .inr hc⟩

theorem loadKeys_sorted (s : State) : s.loadKeys.Pairwise (· < ·) := List.pairwise_lt_range.filter _

theorem checkedKeys_lt (h : k ∈ s.checkedKeys) : k < 598 := by
  rcases mem_checkedKeys.mp h with ⟨hk, -⟩ | ⟨d, hd, rfl, -⟩ | ⟨rfl, -⟩
  · omega
  · omega
  · decide

/-! ### What the Record Store holds behind the load -/

theorem loadEnd_viewOf (s : State) (c : Cause) (k : Nat) : (s.loadEnd c).viewOf k = s.crossChecked.viewOf k := by
  obtain ⟨⟨-, hasm⟩, -, ⟨hrfs, href⟩, ⟨-, hdrawer, -⟩, -, ⟨-, hprofile, -⟩, -, -, hparams, -⟩ := loadEnd_frame (s := s) c
  exact viewOf_of_records (fun a => by rw [hasm]) (fun d => by rw [hdrawer]; exact ⟨rfl, rfl⟩) hprofile href (by rw [hrfs]; exact ⟨rfl, rfl⟩)
    hparams k

/-- Keys queued for an engine that goes on: each waits, or is in flight with its record's view (R179). -/
theorem queued_written (w : State) (h : k ∈ l) : k ∈ (w.setCommitQueue l).kickEngine.rst.queue ∨
    ∃ c, (w.setCommitQueue l).kickEngine.rst.flight = some c ∧ c.key = k ∧ c.snapshot = w.viewOf k := by
  unfold State.kickEngine
  split
  · next j q hf hq =>
    have hq : l = j :: q := hq
    rw [hq] at h
    rcases List.mem_cons.mp h with rfl | h
    · exact .inr ⟨_, rfl, rfl, rfl⟩
    · exact .inl h
  · exact .inl h

/-- Keys queued for an idle engine: the first is in flight, and the others wait (R179). -/
theorem queued_rst (w : State) (hf : w.rst.flight = none) :
    (l = [] → (w.setCommitQueue l).kickEngine.rst = ⟨w.rst.pages, [], none⟩) ∧
      ∀ k m, l = k :: m → (w.setCommitQueue l).kickEngine.rst = ⟨w.rst.pages, m, some ⟨k, w.viewOf k, false⟩⟩ := by
  have hidle : (w.setCommitQueue l).rst = ⟨w.rst.pages, l, none⟩ := by
    rw [← hf]
    rfl
  obtain ⟨hnone, hsome⟩ := kickEngine_idle (w := w.setCommitQueue l) (by rw [hidle])
  refine ⟨fun hl => ?_, fun k m hl => ?_⟩
  · rw [hnone (by rw [hidle]; exact hl), hidle, hl]
  · rw [hsome k m (by rw [hidle]; exact hl)]
    rfl

/-- The keys queued at the end of the load will be written (R186). -/
theorem loadEnd_willWrite (c : Cause) (h : k ∈ s.loadKeys) : (s.loadEnd c).willWrite k := by
  obtain ⟨-, -, -, -, -, -, -, hrst, -⟩ := loadEnd_frame (s := s) c
  unfold State.willWrite
  rw [hrst, loadEnd_viewOf]
  rcases queued_written s.crossChecked h with hq | ⟨x, hx, hkey, hsnap⟩
  · exact .inl hq
  · exact .inr ⟨x, hx, hkey, .inr hsnap⟩

/-- With the engine idle before, the first key is in flight and the others wait (R179, R186). -/
theorem loadEnd_rst (c : Cause) (hf : s.rst.flight = none) :
    (s.loadKeys = [] → (s.loadEnd c).rst = ⟨s.rst.pages, [], none⟩) ∧
      ∀ k l, s.loadKeys = k :: l → (s.loadEnd c).rst = ⟨s.rst.pages, l, some ⟨k, (s.loadEnd c).viewOf k, false⟩⟩ := by
  obtain ⟨-, -, -, -, -, -, -, hrst, -⟩ := loadEnd_frame (s := s) c
  obtain ⟨-, -, -, -, -, -, -, -, ⟨hkept, -⟩, -⟩ := crossChecked_frame s
  obtain ⟨hnone, hsome⟩ := queued_rst (l := s.loadKeys) s.crossChecked (by rw [hkept, hf])
  rw [hkept] at hnone hsome
  rw [hrst]
  exact ⟨hnone, fun k l hk => by rw [hsome k l hk, loadEnd_viewOf]⟩

/-! ### STARTED (Table 9.5) -/

theorem countKeys_failed (s : State) {lo hi : Nat} (m : Nat) (hhi : hi = lo + m) (h : hi ≤ 598) :
    State.countKeys s.failedKeys lo hi = ((List.range m).filter fun k => s.readPage (lo + k) = .failed).length := by
  obtain ⟨r, hr⟩ : ∃ r, 598 = lo + m + r := ⟨598 - (lo + m), by omega⟩
  have hbelow : (List.range lo).filter (fun k => (decide (lo ≤ k) && decide (k < hi)) && decide (s.readPage k = .failed)) = [] :=
    List.filter_eq_nil_iff.mpr fun k hk => by
      have := List.mem_range.mp hk
      simp
      omega
  have habove : ((List.range r).map (lo + m + ·)).filter (fun k => (decide (lo ≤ k) && decide (k < hi)) && decide (s.readPage k = .failed)) = [] :=
    List.filter_eq_nil_iff.mpr fun k hk => by
      obtain ⟨j, -, rfl⟩ := List.mem_map.mp hk
      simp
      omega
  unfold State.countKeys State.failedKeys
  rw [List.filter_filter, hr, List.range_add, List.range_add, List.filter_append, List.filter_append, hbelow, habove,
    List.append_nil, List.nil_append, List.filter_map, List.length_map]
  refine congrArg List.length (List.filter_congr fun k hk => ?_)
  have hlt := List.mem_range.mp hk
  have hin : lo ≤ lo + k ∧ lo + k < hi := by omega
  simp [hin]

theorem startedNotice_fields (c : Cause) (f l : List Nat) : (State.startedNotice c f l).cause = c ∧
    (State.startedNotice c f l).asm = State.countKeys f 0 512 ∧ (State.startedNotice c f l).drawer = State.countKeys f 512 576 ∧
    (State.startedNotice c f l).cell = State.countKeys f 576 592 ∧ (State.startedNotice c f l).ref = State.countKeys f 592 596 ∧
    (State.startedNotice c f l).curve = State.countKeys f 596 597 ∧
    (State.startedNotice c f l).params = State.countKeys f 597 598 ∧ (State.startedNotice c f l).keys = l.length :=
  ⟨rfl, rfl, rfl, rfl, rfl, rfl, rfl, rfl⟩

/-- What STARTED says of the pages. -/
theorem startedNotice_counts (s : State) (c : Cause) (l : List Nat) (failed : Nat → Nat → Nat)
    (h : ∀ lo m, failed lo m = ((List.range m).filter fun k => s.readPage (lo + k) = .failed).length) :
    (State.startedNotice c s.failedKeys l).asm = failed 0 512 ∧ (State.startedNotice c s.failedKeys l).drawer = failed 512 64 ∧
      (State.startedNotice c s.failedKeys l).cell = failed 576 16 ∧ (State.startedNotice c s.failedKeys l).ref = failed 592 4 ∧
      (State.startedNotice c s.failedKeys l).curve = failed 596 1 ∧
      (State.startedNotice c s.failedKeys l).params = failed 597 1 := by
  obtain ⟨-, hasm, hdrawer, hcell, href, hcurve, hparams, -⟩ := startedNotice_fields c s.failedKeys l
  have hcount : ∀ {lo hi m}, hi = lo + m → hi ≤ 598 → State.countKeys s.failedKeys lo hi = failed lo m := fun hhi hle => by
    rw [h]
    exact countKeys_failed s _ hhi hle
  rw [hasm, hdrawer, hcell, href, hcurve, hparams]
  exact ⟨hcount (by omega) (by omega), hcount (by omega) (by omega), hcount (by omega) (by omega), hcount (by omega) (by omega),
    hcount (by omega) (by omega), hcount (by omega) (by omega)⟩

/-- A page fails its check when it is of mixed content, or holds another key, another kind's view or another check value
(R176, R177). -/
theorem readPage_failed (s : State) (k : Nat) : s.readPage k = .failed ↔ s.page k = .mixed ∨
    ∃ j v c, s.page k = .written j v c ∧ (j ≠ k ∨ v.fits k = false ∨ c ≠ checkValue j v) := by
  unfold State.readPage Page.read
  cases hp : s.page k with
  | blank => simp
  | mixed => simp
  | written j v c =>
    dsimp only
    split
    · next h =>
      obtain ⟨hj, hv, hc⟩ := h
      simp only [reduceCtorEq, false_or, false_iff, not_exists, not_and, Page.written.injEq]
      rintro _ _ _ ⟨rfl, rfl, rfl⟩
      simp [hj, hv, hc]
    · next h =>
      refine ⟨fun _ => .inr ⟨j, v, c, rfl, ?_⟩, fun _ => rfl⟩
      by_contra hno
      simp only [not_or, not_not, Bool.not_eq_false] at hno
      exact h hno

theorem exec_loadEnd (hload : s.phase = .load cause) : exec .loadEnd s = .next (s.loadEnd cause) := by
  rw [exec_event rfl]
  show Host.Outcome.next s.finishLoad = _
  unfold State.finishLoad
  rw [hload]

/-- The drawers behind the load (R89). -/
theorem loadEnd_drawer (s : State) (c : Cause) (hd : d < 64) :
    ((s.loadEnd c).drawer d).state = (if (s.drawer d).levelOpen then .opened else .closed) ∧
      ((s.drawer d).levelOpen = true → ((s.loadEnd c).drawer d).openTimer = 0) := by
  obtain ⟨-, -, -, ⟨-, hdrawer, -⟩, -⟩ := loadEnd_frame (s := s) c
  obtain ⟨v, -, hv, -, hchecked⟩ := checkStock_eq s.placed3
  have hkept : (s.crossChecked.drawer d).state = (s.placed3.drawer d).state ∧
      (s.crossChecked.drawer d).openTimer = (s.placed3.drawer d).openTimer := by
    obtain ⟨r, hr⟩ : ∃ r, r = s.placed3.drawer d := ⟨_, rfl⟩
    rw [crossChecked_def, hchecked d hd, hv d hd, ← hr]
    split <;> exact ⟨rfl, rfl⟩
  rw [hdrawer, hkept.1, hkept.2, placed3_drawer s hd]
  unfold State.settleDrawer
  cases (s.drawer d).levelOpen with
  | true => exact ⟨rfl, fun _ => rfl⟩
  | false => exact ⟨rfl, nofun⟩

/-- The active set behind the load (R66). -/
theorem loadEnd_active (s : State) (c : Cause) : (s.loadEnd c).rfs = { s.rfs with active := (s.loadEnd c).rfs.active } ∧
    (s.rfs.active = none → (s.loadEnd c).rfs.active = none) ∧
    ∀ k, s.rfs.active = some k → (s.loadEnd c).rfs.active = if (s.refSet k).certified then some k else none := by
  obtain ⟨-, -, ⟨hrfs, -⟩, -⟩ := loadEnd_frame (s := s) c
  have hchecked : s.crossChecked.rfs = s.checkReferences.checkActive.rfs := by
    rw [crossChecked_def, ← placed3_rfs]
    simp only [checkStock_frame]
  rw [hrfs, hchecked]
  exact checkActive_rfs s.checkReferences

/-- A state whose other records are those of `s` is `s` with the records that the load settles. -/
theorem eq_of_settled (hocu : t.ocu = s.ocu) (hcoc : t.coc = s.coc) (hhob : t.hob = s.hob) (hparams : t.params = s.params)
    (hphase : t.phase = .running) (hpins : t.pins = s.pins) (hpending : t.pending = s.pending) :
    t = { s with
      atb := t.atb, drc := t.drc, ctb := t.ctb, rfs := t.rfs, rst := t.rst, ports := t.ports, phase := .running } :=
  eq_of_parts rfl hocu rfl rfl hcoc rfl hhob rfl hparams rfl hphase hpins hpending

/-- What the end of the load leaves of the records that no cross-check reads. -/
theorem loadEnd_keeps (s : State) (c : Cause) : (s.loadEnd c).ocu = s.ocu ∧ (s.loadEnd c).coc = s.coc ∧
    (s.loadEnd c).hob = s.hob ∧ (s.loadEnd c).params = s.params ∧ (s.loadEnd c).phase = .running ∧
    (s.loadEnd c).pins = s.pins ∧ (s.loadEnd c).pending = s.pending := by
  obtain ⟨-, hocu, -, -, ⟨hcoc, -⟩, -, ⟨hhob, -⟩, -, hparams, hphase, hpending, hpins, -⟩ := loadEnd_frame (s := s) c
  obtain ⟨hocu', -, -, -, ⟨hcoc', -⟩, -, -, ⟨hhob', -⟩, -, -, ⟨hparams', -, hpending'⟩, hpins'⟩ := crossChecked_frame s
  exact ⟨hocu.trans hocu', hcoc.trans hcoc', hhob.trans hhob', hparams.trans hparams', hphase, hpins.trans hpins',
    hpending.trans hpending'⟩

/-- The ports behind the load (R186, R194). -/
theorem loadEnd_started (c : Cause) (hnotices : ∀ p, (s.port p).notices = []) (p : Port) : (s.loadEnd c).port p =
    { s.port p with notices := [s.loadNotice c], keep := if p = .C then false else (s.port p).keep } := by
  rw [loadEnd_port]
  unfold PortState.place
  rw [hnotices p]
  rfl

/-- A key queued at the end of the load is of a failed page, or of a record that a cross-check changed (R186). -/
theorem loadEnd_queued (c : Cause) (hf : s.rst.flight = none) (h : (s.loadEnd c).queued k) : k ∈ s.loadKeys := by
  obtain ⟨hnone, hsome⟩ := loadEnd_rst (s := s) c hf
  unfold State.queued at h
  generalize (s.loadEnd c).rst = r at *
  generalize s.loadKeys = keys at *
  cases keys with
  | nil =>
    rw [hnone rfl] at h
    simp at h
  | cons j l =>
    rw [hsome j l rfl] at h
    simpa [eq_comm, or_comm] using h

/-- The reasons for which a key is queued, read in the state behind the load. -/
theorem loadKeys_cases (c : Cause) (h : k ∈ s.loadKeys) : s.readPage k = .failed ∨
    k < 512 ∧ ((s.loadEnd c).asm k).view ≠ (s.asm k).view ∨
    (∃ d, d < 64 ∧ k = 512 + d ∧ (((s.loadEnd c).drawer d).stock ≠ (s.drawer d).stock ∨
      ((s.loadEnd c).drawer d).mismatch ≠ (s.drawer d).mismatch ∨ (s.drawer d).levelOpen = false ∧
        (s.drawer d).mismatch ≠ decide ((s.drawer d).present ≠ (s.drawer d).stock.isSome))) ∨
    k = curveKey ∧ (s.loadEnd c).rfs.active ≠ s.rfs.active := by
  obtain ⟨⟨-, hasm⟩, -, ⟨hrfs, -⟩, ⟨-, hdrawer, -⟩, -⟩ := loadEnd_frame (s := s) c
  have hcases := fun hk => checkedKeys_cases (s := s) (k := k) hk
  obtain ⟨-, hwhy⟩ := mem_loadKeys.mp h
  generalize s.loadEnd c = t at *
  generalize s.crossChecked = w at *
  rcases hwhy with hfail | hchecked
  · exact .inl hfail
  · rcases hcases hchecked with ⟨hlt, hview⟩ | ⟨d, hd, hk, hmark⟩ | ⟨hk, hactive⟩
    · exact .inr (.inl ⟨hlt, by rw [hasm]; exact hview⟩)
    · refine .inr (.inr (.inl ⟨d, hd, hk, ?_⟩))
      rw [hdrawer]
      rcases hmark with hmark | hmark
      · by_cases hst : (w.drawer d).stock = (s.drawer d).stock
        · exact .inr (.inl fun hmis => hmark (by unfold Drawer.mark; rw [hst, hmis]))
        · exact .inl hst
      · exact .inr (.inr hmark)
    · exact .inr (.inr (.inr ⟨hk, by rw [hrfs]; exact hactive⟩))

/-- A Record Store that took the first of a sorted list of keys, the others waiting (R179). -/
theorem store_of_keys {r : Store} {pages : Vector Page 598} {keys : List Nat} {view : Nat → View}
    (hnone : keys = [] → r = ⟨pages, [], none⟩) (hsome : ∀ k l, keys = k :: l → r = ⟨pages, l, some ⟨k, view k, false⟩⟩)
    (hsorted : keys.Pairwise (· < ·)) : r.pages = pages ∧ (keys.length = 0 → r.flight = none ∧ r.queue = []) ∧
    (∀ x, r.flight = some x → x.snapshot = view x.key ∧ x.redirty = false ∧ keys.length = r.queue.length + 1 ∧
      (x.key :: r.queue).Pairwise (· < ·)) ∧ (r.flight = none → keys.length = 0) := by
  cases keys with
  | nil =>
    rw [hnone rfl]
    exact ⟨rfl, fun _ => ⟨rfl, rfl⟩, by simp, fun _ => rfl⟩
  | cons j l =>
    rw [hsome j l rfl]
    exact ⟨rfl, by simp, fun x hx => by cases hx; exact ⟨rfl, rfl, rfl, hsorted⟩, by simp⟩

/-- Settles O54, by the cross-checks one after the other and the keys that they change. -/
theorem loadEndStartsThePart : Obligations.LoadEndStartsThePart := by
  unfold Obligations.LoadEndStartsThePart
  intro cause s hload hq hf hnotices
  obtain ⟨hocu, hcoc, hhob, hparams, hphase, hpins, hpending⟩ := loadEnd_keeps s cause
  obtain ⟨-, -, ⟨hrfs, -⟩, -⟩ := loadEnd_frame (s := s) cause
  obtain ⟨hcause, -, -, -, -, -, -, hcount⟩ := startedNotice_fields cause s.failedKeys s.loadKeys
  obtain ⟨hnokeys, hkeys⟩ := loadEnd_rst (s := s) cause hf
  obtain ⟨hpages, hempty, htaken, hidle⟩ := store_of_keys hnokeys hkeys (loadKeys_sorted s)
  obtain ⟨hrest, hnone, hsome⟩ := loadEnd_active s cause
  have hport : ∀ p, ((s.loadEnd cause).port p).notices = [s.loadNotice cause] ∧
      ((s.loadEnd cause).port p).buf = (s.port p).buf ∧ ((s.loadEnd cause).port p).overflow = (s.port p).overflow := fun p => by
    rw [loadEnd_started cause hnotices p]
    exact ⟨rfl, rfl, rfl⟩
  have hkeep : ((s.loadEnd cause).port .C).keep = false := by
    rw [loadEnd_started cause hnotices .C]
    rfl
  have hlost : (s.loadEnd cause).rfs.active ≠ s.rfs.active → (s.loadEnd cause).willWrite curveKey := fun hne =>
    loadEnd_willWrite cause (mem_loadKeys.mpr ⟨by decide, .inr (checkedKeys_active fun h => hne (by rw [hrfs, h]))⟩)
  refine ⟨readPage_failed s, s.loadEnd cause, State.startedNotice cause s.failedKeys s.loadKeys, exec_loadEnd hload, hphase, hcause,
    startedNotice_counts s cause s.loadKeys, hport, hkeep, fun d hd => loadEnd_drawer s cause hd, hsome, hnone, hrest, hpages,
    fun k hk hfail => loadEnd_willWrite cause (mem_loadKeys.mpr ⟨hk, .inl hfail⟩), hlost,
    fun k hk => loadKeys_cases cause (loadEnd_queued cause hf hk), ?_, ?_, ?_,
    eq_of_settled hocu hcoc hhob hparams hphase hpins hpending⟩
  · rw [hcount]
    exact hempty
  · rw [hcount]
    exact htaken
  · rw [hcount]
    exact hidle

end Sys2Proof.Machine
end

section
/-! PROOFS. Binding placement and the stock cross-check of the load, from the loaded records (O55). -/

namespace Sys2Proof.Machine

open Sys2Proof

variable {s t w : State} {a b c d n p : Nat} {cause : Cause} {r : AsmRecord}

/-! ### Binding placement (R184 step 3, R24) -/

/-- The record is bound. -/
def IsBound (r : AsmRecord) : Prop := r.state = .issued ∨ r.state = .exhausted

theorem lost_eq (r : AsmRecord) : r.enter .lost = { r with
    state := .lost, prior := none, geometry := none, facts := none, rejected := none, stock := none, binding := none } := rfl

/-- The lowest-numbered record bound in a pocket in service keeps its binding. -/
theorem keepsBinding_exists (h : BoundAt (s.asm b) c p) (hsize : p < (s.profile c).size) : ∃ a, a ≤ b ∧ KeepsBinding s a c p := by
  classical
  have hex : ∃ a, BoundAt (s.asm a) c p := ⟨b, h⟩
  exact ⟨Nat.find hex, Nat.find_min' hex h, Nat.find_spec hex, hsize, fun a ha => Nat.find_min hex ha⟩

theorem keepsBinding_unique {c' p' : Nat} (h : KeepsBinding s a c p) (h' : KeepsBinding s a c' p') : c' = c ∧ p' = p := by
  obtain ⟨⟨-, hb⟩, -⟩ := h
  obtain ⟨⟨-, hb'⟩, -⟩ := h'
  rw [hb] at hb'
  cases hb'
  exact ⟨rfl, rfl⟩

/-- The first `n` records have been placed. -/
def Placed (s w : State) (n : Nat) : Prop :=
  (∀ a, n ≤ a ∨ (∃ c p, KeepsBinding s a c p) ∨ ¬ IsBound (s.asm a) → w.asm a = s.asm a) ∧
    (∀ a, a < n → IsBound (s.asm a) → (∀ c p, ¬ KeepsBinding s a c p) → w.asm a = (s.asm a).enter .lost) ∧
    (∀ a c p, a < n → KeepsBinding s a c p → w.pocket c p = .bound a) ∧
    (∀ c p, (∀ a, a < n → ¬ KeepsBinding s a c p) → w.pocket c p = .empty) ∧ ∀ c, w.profile c = s.profile c

/-- A record in its turn finds its pocket empty exactly when it keeps its binding. -/
theorem Placed.keeps_iff (h : Placed s w n) (hb : BoundAt (s.asm n) c p) :
    KeepsBinding s n c p ↔ p < (w.profile c).size ∧ w.pocket c p = .empty := by
  obtain ⟨-, -, hplaced, hempty, hprofile⟩ := h
  rw [hprofile]
  constructor
  · rintro ⟨-, hsize, hfirst⟩
    exact ⟨hsize, hempty c p fun a ha hk => hfirst a ha hk.1⟩
  · rintro ⟨hsize, hpocket⟩
    obtain ⟨a, han, hk⟩ := keepsBinding_exists hb hsize
    rcases Nat.lt_or_eq_of_le han with hlt | rfl
    · rw [hplaced a c p hlt hk] at hpocket
      cases hpocket
    · exact hk

/-- A record that keeps no binding, in its turn. -/
theorem Placed.lost (h : Placed s w n) (hn : n < 512) (hb : IsBound (s.asm n)) (hno : ∀ c p, ¬ KeepsBinding s n c p) :
    Placed s (w.setAsm n ((w.asm n).enter .lost)) (n + 1) := by
  obtain ⟨hkept, hlost, hplaced, hempty, hprofile⟩ := h
  have hself : w.asm n = s.asm n := hkept n (.inl (Nat.le_refl n))
  refine ⟨fun a ha => ?_, fun a ha hba hna => ?_, fun a c p ha hk => ?_, fun c p hnone => ?_, hprofile⟩
  · have hne : n ≠ a := by
      rintro rfl
      rcases ha with hle | ⟨c, p, hk⟩ | hnb
      · omega
      · exact hno c p hk
      · exact hnb hb
    rw [State.setAsm_asm, if_neg fun h => hne h.1]
    exact hkept a (ha.imp (fun hle => by omega) id)
  · rw [State.setAsm_asm]
    split
    · next h => rw [← h.1, hself]
    · next h => exact hlost a (by omega) hba hna
  · have hne : a ≠ n := by
      rintro rfl
      exact hno c p hk
    exact hplaced a c p (by omega) hk
  · exact hempty c p fun a ha => hnone a (by omega)

/-- A record that keeps its binding, in its turn. -/
theorem Placed.bound (h : Placed s w n) (hp : p < 128) (hc : c < 16) (hk : KeepsBinding s n c p) :
    Placed s (w.setPocket c p (.bound n)) (n + 1) := by
  have hfree : w.pocket c p = .empty := ((h.keeps_iff hk.1).mp hk).2
  obtain ⟨hkept, hlost, hplaced, hempty, hprofile⟩ := h
  have hpocket : ∀ c' p', (w.setPocket c p (.bound n)).pocket c' p' =
      if c = c' ∧ p = p' then .bound n else w.pocket c' p' := fun c' p' => by
    rw [State.setPocket_pocket]
    simp [hc, hp]
  refine ⟨fun a ha => ?_, fun a ha hba hna => ?_, fun a c' p' ha hk' => ?_, fun c' p' hnone => ?_, fun e => ?_⟩
  · exact hkept a (ha.imp (fun hle => by omega) id)
  · have hne : a ≠ n := by
      rintro rfl
      exact hna c p hk
    exact hlost a (by omega) hba hna
  · rw [hpocket]
    split
    · next h =>
      obtain ⟨rfl, rfl⟩ := h
      rcases Nat.lt_or_eq_of_le (Nat.le_of_lt_succ ha) with hlt | rfl
      · rw [hplaced a c p hlt hk'] at hfree
        cases hfree
      · rfl
    · next h =>
      have hne : a ≠ n := by
        rintro rfl
        obtain ⟨rfl, rfl⟩ := keepsBinding_unique hk hk'
        exact h ⟨rfl, rfl⟩
      exact hplaced a c' p' (by omega) hk'
  · rw [hpocket, if_neg ?_]
    · exact hempty c' p' fun a ha => hnone a (by omega)
    · rintro ⟨rfl, rfl⟩
      exact hnone n (Nat.lt_succ_self n) hk
  · rw [State.setPocket_profile]
    exact hprofile e

theorem profile_lt (h : p < (s.profile c).size) : c < 16 := by
  by_contra hc
  have hno : s.cell c = ⟨defaultProfile, tgen 128 fun _ => .empty⟩ := tget_beyond _ _ _ (Nat.not_lt.mp hc)
  rw [State.profile, hno] at h
  exact absurd h (Nat.not_lt_zero p)

theorem Placed.step (h : Placed s w n) (hn : n < 512) (hsize : ∀ c, (s.profile c).size ≤ 128) :
    Placed s (w.placeBinding n) (n + 1) := by
  have hself : w.asm n = s.asm n := h.1 n (.inl (Nat.le_refl n))
  unfold State.placeBinding
  dsimp only
  rw [hself]
  by_cases hb : (s.asm n).state = .issued ∨ (s.asm n).state = .exhausted
  · rw [if_pos hb]
    cases hbind : (s.asm n).binding with
    | none =>
      have hno : ∀ c p, ¬ KeepsBinding s n c p := fun c p hk => by
        obtain ⟨⟨-, hx⟩, -⟩ := hk
        rw [hbind] at hx
        cases hx
      rw [← hself]
      exact h.lost hn hb hno
    | some x =>
      obtain ⟨c, p⟩ := x
      have hat : BoundAt (s.asm n) c p := ⟨hb, hbind⟩
      have hiff := h.keeps_iff hat
      dsimp only
      by_cases hk : KeepsBinding s n c p
      · have hlt : p < (s.profile c).size := hk.2.1
        rw [if_pos (hiff.mp hk)]
        exact h.bound (Nat.lt_of_lt_of_le hlt (hsize c)) (profile_lt hlt) hk
      · have hno : ∀ c' p', ¬ KeepsBinding s n c' p' := fun c' p' hk' => by
          obtain ⟨⟨-, hx⟩, -⟩ := id hk'
          rw [hbind] at hx
          cases hx
          exact hk hk'
        rw [if_neg fun hx => hk (hiff.mpr hx), ← hself]
        exact h.lost hn hb hno
  · rw [if_neg hb]
    obtain ⟨hkept, hlost, hplaced, hempty, hprofile⟩ := h
    have hno : ∀ c p, ¬ KeepsBinding s n c p := fun c p hk => hb hk.1.1
    have hlt : ∀ {a c p}, a < n + 1 → KeepsBinding s a c p → a < n := fun {a c p} ha hk => by
      have hne : a ≠ n := by
        rintro rfl
        exact hno c p hk
      omega
    refine ⟨fun a ha => ?_, fun a ha hba hna => ?_, fun a c p ha hk => hplaced a c p (hlt ha hk) hk, fun c p hnone => ?_, hprofile⟩
    · exact hkept a (ha.imp (fun hle => by omega) id)
    · have hne : a ≠ n := by
        rintro rfl
        exact hb hba
      exact hlost a (by omega) hba hna
    · exact hempty c p fun a ha => hnone a (by omega)

/-- The binding placement, from a state in which every pocket is EMPTY (R184 step 3). -/
theorem placeBindings_placed (hempty : ∀ c p, s.pocket c p = .empty) (hsize : ∀ c, (s.profile c).size ≤ 128) :
    Placed s s.placeBindings 512 := by
  have hall : ∀ n, n ≤ 512 → Placed s ((List.range n).foldl State.placeBinding s) n := fun n => by
    induction n with
    | zero => exact fun _ => ⟨fun _ _ => rfl, fun _ h => absurd h (Nat.not_lt_zero _), fun _ _ _ h => absurd h (Nat.not_lt_zero _),
        fun c p _ => hempty c p, fun _ => rfl⟩
    | succ n ih =>
      intro hn
      rw [List.range_succ, List.foldl_append]
      exact (ih (by omega)).step (by omega) hsize
  exact hall 512 (Nat.le_refl _)

end Sys2Proof.Machine
end

section
/-! PROOFS. LOAD_END settles the records (O55). -/

namespace Sys2Proof.Machine

open Sys2Proof

variable {s t u v w : State} {a b c d n p : Nat} {cause : Cause}

/-! ### Reference validity (R184 step 1) -/

/-- Step 1 clears the reference-current mark of a record measured with an INVALID set, and touches nothing else. -/
theorem checkReferences_facts (s : State) (a : Nat) :
    s.checkReferences.asm a = { s.asm a with facts := (s.checkReferences.asm a).facts } ∧
    (s.checkReferences.asm a).facts =
      (s.asm a).facts.map fun f => if s.refSet f.refSet = .invalid then { f with current := false } else f := by
  rw [checkReferences_asm]
  cases hf : (s.asm a).facts with
  | none =>
    have hno : s.namesInvalid (s.asm a) = false := by simp [State.namesInvalid, hf]
    rw [hno]
    exact ⟨rfl, hf⟩
  | some f =>
    have hnames : s.namesInvalid (s.asm a) = decide (s.refSet f.refSet = .invalid) := by simp [State.namesInvalid, hf]
    rw [hnames]
    by_cases hi : s.refSet f.refSet = .invalid
    · simp [hi, AsmRecord.clearMark, hf]
    · rw [decide_eq_false hi, if_neg nofun]
      exact ⟨rfl, by simp [hf, hi]⟩

/-- The state in which the bindings are placed: state, stock and binding of a record are those loaded. -/
theorem referenced (s : State) : (∀ a, s.checkReferences.checkActive.asm a = s.checkReferences.asm a) ∧
    (∀ c p, s.checkReferences.checkActive.pocket c p = s.pocket c p) ∧
    (∀ c, s.checkReferences.checkActive.profile c = s.profile c) ∧
    ∀ a c p, KeepsBinding s.checkReferences.checkActive a c p ↔ KeepsBinding s a c p := by
  have hasm : ∀ a, s.checkReferences.checkActive.asm a = s.checkReferences.asm a := fun a => by simp
  have hprofile : ∀ c, s.checkReferences.checkActive.profile c = s.profile c := fun c => by simp
  have hbound : ∀ a c p, BoundAt (s.checkReferences.checkActive.asm a) c p ↔ BoundAt (s.asm a) c p := fun a c p => by
    rw [hasm, (checkReferences_facts s a).1]
    exact Iff.rfl
  refine ⟨hasm, fun c p => by simp, hprofile, fun a c p => ?_⟩
  unfold KeepsBinding
  simp only [hbound, hprofile]

/-! ### What stands behind the load -/

/-- What the binding placement leaves, from the loaded records. -/
theorem placed3_placed (hempty : ∀ c p, s.pocket c p = .empty) (hsize : ∀ c, (s.profile c).size ≤ 128) :
    (∀ a, (∃ c p, KeepsBinding s a c p) ∨ ¬ IsBound (s.asm a) → s.placed3.asm a = s.checkReferences.asm a) ∧
    (∀ a, IsBound (s.asm a) → (∀ c p, ¬ KeepsBinding s a c p) → s.placed3.asm a = (s.checkReferences.asm a).enter .lost) ∧
    (∀ a c p, KeepsBinding s a c p → s.placed3.pocket c p = .bound a) ∧
    ∀ c p, (∀ a, ¬ KeepsBinding s a c p) → s.placed3.pocket c p = .empty := by
  obtain ⟨hasm, hpocket, hprofile, hkeeps⟩ := referenced s
  obtain ⟨hkept, hlost, hplaced, hfree, -⟩ := placeBindings_placed (s := s.checkReferences.checkActive)
    (fun c p => (hpocket c p).trans (hempty c p)) (fun c => by rw [hprofile]; exact hsize c)
  have hbound : ∀ a, IsBound (s.checkReferences.asm a) ↔ IsBound (s.asm a) := fun a => by
    rw [(checkReferences_facts s a).1]
    exact Iff.rfl
  have hlt : ∀ a, IsBound (s.asm a) → a < 512 := fun a hb => by
    by_contra ha
    have hno : s.asm a = blankRecord .vacant := tget_beyond _ _ _ (Nat.not_lt.mp ha)
    rw [hno] at hb
    rcases hb with hb | hb <;> cases hb
  have hpockets : ∀ c p, s.placed3.pocket c p = s.checkReferences.checkActive.placeBindings.pocket c p := fun c p => by
    simp only [State.placed3, settleDrawers_frame]
  simp only [hkeeps, hbound, hasm] at hkept hlost hplaced hfree
  refine ⟨fun a h => ?_, fun a hb hno => ?_, fun a c p hk => ?_, fun c p hno => ?_⟩
  · rw [placed3_asm_eq]
    exact hkept a (.inr h)
  · rw [placed3_asm_eq]
    exact hlost a (hlt a hb) hb hno
  · rw [hpockets]
    exact hplaced a c p (hlt a hk.1.1) hk
  · rw [hpockets]
    exact hfree c p fun a _ => hno a

/-- The records as the stock cross-check finds them: of each its stock, and whether it is READY or REGRIND, as loaded. -/
theorem placed3_stock (hstock : ∀ a, (s.asm a).stock ≠ none → ¬ IsBound (s.asm a)) (a : Nat) :
    (s.placed3.asm a).stock = (s.asm a).stock ∧ (((s.placed3.asm a).state = .ready ∨ (s.placed3.asm a).state = .regrind) ↔
      ((s.asm a).state = .ready ∨ (s.asm a).state = .regrind)) := by
  have hfacts := (checkReferences_facts s a).1
  rcases placed3_asm s a with h | ⟨hb, h⟩
  · rw [h, hfacts]
    exact ⟨rfl, Iff.rfl⟩
  · have hnone : (s.asm a).stock = none := by
      by_contra hne
      exact hstock a hne hb
    rw [h, hnone]
    refine ⟨rfl, ?_⟩
    rcases hb with hb | hb <;> rw [hb] <;> simp [AsmRecord.enter]

theorem drawer_beyond (s : State) (hd : ¬ d < 64) : s.drawer d = State.noDrawer := tget_beyond _ _ _ (Nat.not_lt.mp hd)

theorem placed3_drawerStock (s : State) (d : Nat) : (s.placed3.drawer d).stock = (s.drawer d).stock := by
  by_cases hd : d < 64
  · rw [placed3_drawer s hd]
    unfold State.settleDrawer
    split <;> rfl
  · rw [drawer_beyond _ hd, drawer_beyond _ hd]

theorem stockFalls_iff (w : State) (d : Nat) : w.stockFalls d = true ↔ ∃ a, (w.drawer d).stock = some a ∧
    ¬ ((w.asm a).stock = some d ∧ ((w.asm a).state = .ready ∨ (w.asm a).state = .regrind)) := by
  unfold State.stockFalls State.stockStands
  cases h : (w.drawer d).stock with
  | none => simp
  | some a =>
    dsimp only
    rw [Bool.not_eq_true', ← Bool.not_eq_true, Bool.and_eq_true, Bool.or_eq_true]
    simp

/-- A stock falls when drawer and assembly do not agree on it. -/
theorem placed3_falls (hstock : ∀ a, (s.asm a).stock ≠ none → ¬ IsBound (s.asm a)) (d : Nat) :
    s.placed3.stockFalls d = true ↔ ∃ a, (s.drawer d).stock = some a ∧ ¬ KeepsStock s d a := by
  rw [stockFalls_iff, placed3_drawerStock]
  refine exists_congr fun a => and_congr_right fun h => ?_
  obtain ⟨hst, hready⟩ := placed3_stock hstock a
  rw [hst, hready]
  exact not_congr ⟨fun hk => ⟨h, hk⟩, fun hk => hk.2⟩

/-- What the stock cross-check leaves, from the loaded records (R185). -/
theorem crossChecked_stocks (hstock : ∀ a, (s.asm a).stock ≠ none → ¬ IsBound (s.asm a)) :
    (∀ d a, (s.crossChecked.drawer d).stock = some a ↔ KeepsStock s d a) ∧
    (∀ a d, (s.crossChecked.asm a).stock = some d ↔ KeepsStock s d a) ∧
    (∀ d, d < 64 → ((s.crossChecked.drawer d).mismatch = true ↔ (s.placed3.drawer d).mismatch = true ∨
      (∃ a, (s.drawer d).stock = some a ∧ ¬ KeepsStock s d a) ∨ ∃ a, (s.asm a).stock = some d ∧ ¬ KeepsStock s d a)) := by
  obtain ⟨v, hvasm, hv, hasm, hdrawer⟩ := checkStock_eq s.placed3
  have hfalls := placed3_falls hstock
  have hvstock : ∀ d a, (v.drawer d).stock = some a ↔ KeepsStock s d a := fun d a => by
    by_cases hd : d < 64
    · rw [hv d hd]
      by_cases hf : s.placed3.stockFalls d = true
      · rw [if_pos hf]
        obtain ⟨b, hb, hno⟩ := (hfalls d).mp hf
        refine ⟨nofun, fun hk => absurd hk ?_⟩
        obtain rfl : b = a := Option.some.inj (hb.symm.trans hk.1)
        exact hno
      · rw [if_neg hf, placed3_drawerStock]
        refine ⟨fun h => ?_, fun hk => hk.1⟩
        by_contra hno
        exact hf ((hfalls d).mpr ⟨a, h, hno⟩)
    · rw [drawer_beyond v hd]
      refine ⟨nofun, fun hk => ?_⟩
      have hs := hk.1
      rw [drawer_beyond s hd] at hs
      cases hs
  have hunnamed : ∀ a d, v.unnamed a d = true ↔ (s.asm a).stock = some d ∧ ¬ KeepsStock s d a := fun a d => by
    rw [← hvstock d a, ← (placed3_stock hstock a).1, ← hvasm]
    simp [State.unnamed]
  have hafalls : ∀ a, v.asmFalls a = true ↔ ∃ d, (s.asm a).stock = some d ∧ ¬ KeepsStock s d a := fun a => by
    have hst : (v.asm a).stock = (s.asm a).stock := by rw [hvasm, (placed3_stock hstock a).1]
    unfold State.asmFalls
    rw [hst]
    cases h : (s.asm a).stock with
    | none => simp
    | some d =>
      dsimp only
      rw [hunnamed, h]
      simp
  refine ⟨fun d a => ?_, fun a d => ?_, fun d hd => ?_⟩
  · by_cases hd : d < 64
    · rw [crossChecked_def, hdrawer d hd, ← hvstock]
    · rw [← hvstock, drawer_beyond v hd, drawer_beyond _ hd]
  · rw [crossChecked_def, hasm]
    by_cases hf : v.asmFalls a = true
    · rw [if_pos hf]
      obtain ⟨e, he, hno⟩ := (hafalls a).mp hf
      refine ⟨nofun, fun hk => absurd hk ?_⟩
      obtain rfl : e = d := Option.some.inj (he.symm.trans hk.2.1)
      exact hno
    · rw [if_neg hf, (placed3_stock hstock a).1]
      refine ⟨fun h => ?_, fun hk => hk.2.1⟩
      by_contra hno
      exact hf ((hafalls a).mpr ⟨d, h, hno⟩)
  · have hany : ((List.range 512).any fun a => v.unnamed a d) = true ↔ ∃ a, (s.asm a).stock = some d ∧ ¬ KeepsStock s d a := by
      rw [List.any_eq_true]
      refine exists_congr fun a => ⟨fun ⟨_, h⟩ => (hunnamed a d).mp h, fun h => ⟨List.mem_range.mpr (asm_stock_lt h.1), (hunnamed a d).mpr h⟩⟩
    rw [crossChecked_def, hdrawer d hd, Bool.or_eq_true, hany, ← or_assoc, ← hfalls, hv d hd]
    refine or_congr ?_ Iff.rfl
    split
    · next hf => simp [hf]
    · next hf => simp [hf]

/-- The mismatch mark that a drawer has before its stock is checked (R89). -/
theorem placed3_mismatch (s : State) (hd : d < 64) : (s.placed3.drawer d).mismatch = true ↔
    (s.drawer d).levelOpen = true ∧ (s.drawer d).mismatch = true ∨
      (s.drawer d).levelOpen = false ∧ (s.drawer d).present ≠ (s.drawer d).stock.isSome := by
  rw [placed3_drawer s hd]
  unfold State.settleDrawer Drawer.agrees
  cases (s.drawer d).levelOpen <;> simp

/-- Behind the cross-checks a record that is not LOST is as step 1 left it, its stock aside. -/
theorem crossChecked_asm_of (h : s.placed3.asm a = s.checkReferences.asm a) :
    s.crossChecked.asm a = { s.asm a with facts := (s.crossChecked.asm a).facts, stock := (s.crossChecked.asm a).stock } ∧
    (s.crossChecked.asm a).facts =
      (s.asm a).facts.map fun f => if s.refSet f.refSet = .invalid then { f with current := false } else f := by
  obtain ⟨hrest, hfacts⟩ := checkReferences_facts s a
  have hkept : (s.crossChecked.asm a).facts = (s.checkReferences.asm a).facts := by
    rcases crossChecked_asm s a with hx | hx <;> rw [hx, h]
  refine ⟨?_, hkept.trans hfacts⟩
  rcases crossChecked_asm s a with hx | hx
  · rw [hx, h]
    generalize s.checkReferences.asm a = r at *
    rw [hrest]
  · rw [hx, h]
    generalize s.checkReferences.asm a = r at *
    rw [hrest]

theorem restOf_fields {r q : AsmRecord} (h : q = { r with facts := q.facts, stock := q.stock }) :
    q.state = r.state ∧ q.binding = r.binding := by
  rw [h]
  exact ⟨rfl, rfl⟩

/-- Behind the cross-checks a record made LOST keeps its family, nominals and life fields. -/
theorem crossChecked_asm_lost (h : s.placed3.asm a = (s.checkReferences.asm a).enter .lost) : s.crossChecked.asm a = { s.asm a with
    state := .lost, prior := none, geometry := none, facts := none, rejected := none, stock := none, binding := none } := by
  have hrest := (checkReferences_facts s a).1
  rcases crossChecked_asm s a with hx | hx <;> rw [hx, h, lost_eq, hrest]

theorem mark_ne {r q : Drawer} (h : q.stock ≠ r.stock ∨ q.mismatch ≠ r.mismatch) : q.mark ≠ r.mark := fun heq =>
  h.elim (fun hne => hne (congrArg Prod.fst heq)) fun hne => hne (congrArg Prod.snd heq)

/-- Settles O55, by the binding placement and the two halves of the stock cross-check. -/
theorem loadEndSettlesTheRecords : Obligations.LoadEndSettlesTheRecords := by
  unfold Obligations.LoadEndSettlesTheRecords
  intro cause s hload hempty hsize hstock
  have hstock : ∀ a, (s.asm a).stock ≠ none → ¬ IsBound (s.asm a) := fun a hne hb =>
    hb.elim (hstock a hne).1 (hstock a hne).2
  obtain ⟨hkept, hlost, hplaced, hfree⟩ := placed3_placed hempty hsize
  obtain ⟨hdstock, hastock, hmismatch⟩ := crossChecked_stocks hstock
  obtain ⟨⟨-, hasm⟩, -, -, ⟨-, hdrawer, -⟩, -, ⟨-, hprofile, hpocket, -⟩, -⟩ := loadEnd_frame (s := s) cause
  obtain ⟨-, -, -, -, -, hprofile', -⟩ := crossChecked_frame s
  have hpockets : ∀ c p, s.crossChecked.pocket c p = s.placed3.pocket c p := fun c p => by
    rw [crossChecked_def]
    simp only [checkStock_frame]
  refine ⟨s.loadEnd cause, exec_loadEnd hload, fun c => (hprofile c).trans (hprofile' c), fun a c p hk => ?_, fun c p hno => ?_,
    fun a _ hb hno => ?_, fun a _ hk => ?_, fun d a => ?_, fun a d => ?_, fun d hd => ?_, fun a ha hview => ?_, fun d hd hmark => ?_⟩
  · obtain ⟨hrec, -⟩ := crossChecked_asm_of (hkept a (.inl ⟨c, p, hk⟩))
    obtain ⟨hstate, hbinding⟩ := restOf_fields hrec
    rw [hasm, hpocket, hpockets, hstate, BoundAt, hstate, hbinding]
    exact ⟨hk.1, rfl, hplaced a c p hk⟩
  · rw [hpocket, hpockets]
    exact hfree c p hno
  · rw [hasm]
    exact crossChecked_asm_lost (hlost a hb hno)
  · rw [hasm]
    exact crossChecked_asm_of (hkept a (hk.symm.imp id fun h hb => hb.elim h.1 h.2))
  · rw [hdrawer]
    exact hdstock d a
  · rw [hasm]
    exact hastock a d
  · rw [hdrawer, hmismatch d hd, placed3_mismatch s hd, or_assoc]
  · exact loadEnd_willWrite cause (mem_loadKeys.mpr ⟨by omega, .inr (checkedKeys_asm ha (by rw [← hasm]; exact hview))⟩)
  · rw [hdrawer] at hmark
    have hne : (s.crossChecked.drawer d).mark ≠ (s.drawer d).mark := mark_ne hmark
    have hmem : 512 + d ∈ s.loadKeys := mem_loadKeys.mpr ⟨by omega, .inr (checkedKeys_drawer hd hne)⟩
    exact loadEnd_willWrite cause hmem

end Sys2Proof.Machine
end
